-- ==== Sys2Proof/Word.lean ====
section
/-! DEFINITION. The word types of the OL864: the widths the manual names (R64, R67, R72, R73). -/

namespace Sys2Proof

/-- A 64-bit register, bank word or payload (R58, R64). -/
abbrev W64 := BitVec 64
/-- One lane: a Q2.30 value, an angle or a 32-bit integer (R67, R72, R73). -/
abbrev W32 := BitVec 32
/-- A 16-bit tag, code, address or slice (R58, R325, R328). -/
abbrev W16 := BitVec 16
/-- One byte of a frame (R335). -/
abbrev Byte := BitVec 8

/-- An axis, 0 to 7 (R2). -/
abbrev Ax := Fin 8
/-- A host port: 0 SPI0, 1 SPI1, 2 CAN FD, 3 UART (R303). -/
abbrev Port := Fin 4
/-- A Yunapen engine, E0 to E9 (R33). -/
abbrev Eng := Fin 10
/-- A phase or half-bridge: 0 U, 1 V, 2 W (R2). -/
abbrev Phase := Fin 3
/-- A gate of an axis, numbered as AXn_PTOVR.GATE numbers them: 0 GHU, 1 GLU, 2 GHV, 3 GLV, 4 GHW, 5 GLW (R215, R241). -/
abbrev Gate := Fin 6
/-- A motor bus: 0 A, 1 B (R257). -/
abbrev Bus := Fin 2
/-- An encoder channel ENC0 to ENC3, or a probe PRB0 to PRB3 (R171, R177). -/
abbrev Chan := Fin 4
/-- An emulation output EMU0 or EMU1 (R188). -/
abbrev Emu := Fin 2

end Sys2Proof
end

