-- ==== Sys2Proof/Config.lean ====
section
/-! DEFINITION. The values the manual leaves open: opaque constants, so that no proof can see a number in them. -/

namespace Sys2Proof.Config

/-- FREE VALUE. ROT gives each lane within 2 least significant bits of the exact result (R90) and does not say which
value of that range: the pair chooses, lane x and lane y, among the values the bound admits.
It is a function of the vector and the angle, since both cores of a lockstep pair compute the same (R33). Log 10. -/
opaque rotPick : W64 → W32 → Nat × Nat

/-- FREE VALUE. ATAN2 gives the angle to within 2^12 angle units (R90): the number chooses in that range. Log 11. -/
opaque atanPick : W64 → Nat

/-- FREE VALUE. What LIM writes to a lane where its range is empty, B.x above B.y (R96): the lane, B.x and B.y. Log 105. -/
opaque limEmpty : W32 → W32 → W32 → W32

/-- FREE VALUE. What a temperature register holds where its formula gives no value of the register's format, and which of
the two nearest units an NTC conversion takes (R259, R262, R265). The list names the case and its numbers. Log 7. -/
opaque therm : List Int → BitVec 16

/-- FREE VALUE. The values the manual leaves open one occurrence at a time, read at the counter `State.free`.
Each use is named in the assumption log. -/
opaque freeWord : Nat → W64

/-- FREE VALUE. The words of the system-controller memory, which the manual does not size (R39). Log 85. -/
opaque sysctlWords : Nat

end Sys2Proof.Config
end

