-- ==== Sys2Proof/Syntax.lean ====
section
/-! DEFINITION. The commands and events of the OL864: one constructor of `Instr` per row of spec/opcode_table.json. -/

namespace Sys2Proof

/-- The operand fields of a Yunapen instruction word, R64 (the opcode is the constructor). -/
structure Fields where
  dst : BitVec 6
  a : BitVec 6
  b : BitVec 6
  mod : BitVec 6
  imm : W32
  deriving DecidableEq, Repr

/-- What the converters deliver at a boundary of an axis: up to four current apertures of three signed 14-bit codes
(physical channels U, V, W, after the vendor gain trim of R140), the three mean terminal codes (25 mV, R152), the codes of
the bus channel in the sensing interval, oldest first (25 mV, R154), and the new codes of AIN0 to AIN7, oldest first (R155). -/
structure Adc where
  cur : List (BitVec 14 × BitVec 14 × BitVec 14)
  term : BitVec 12 × BitVec 12 × BitVec 12
  bus : List (BitVec 12)
  ain : List (Ax × BitVec 12)
  deriving DecidableEq, Repr

/-- The auxiliary conversions that reach registers with a temperature reading (log 6): the new codes of the AIN channels,
oldest first (R155), VSUP, VGD, V33 and VCORE (R395), and the two motor buses (R242), in their registers' units. -/
structure Aux where
  ain : List (Ax × BitVec 12)
  pwr : Vector W16 4
  vbus : Vector W16 2
  deriving DecidableEq, Repr

/-- A memory with SECDED words: the P and D banks, the shared page, the trace staging buffer and the system-controller
memory (R39). -/
inductive MemId where
  | p (n : Ax) | d (n : Ax) | shared | staging | sysctl
  deriving DecidableEq, Repr

/-- What the check bits say of one read word (R39). -/
inductive Ecc where
  | clean | single | uncorrectable
  deriving DecidableEq, Repr

/-- The bus comparators (R244). -/
inductive BusThr where
  | ov1 | ov2 | ov3 | uv1 | uv2
  deriving DecidableEq, Repr

/-- The supply rails whose supervisor resets the device (R391), with the DETAIL code of SYS_RSTINFO (R406). -/
inductive Rail where
  | vcore | v33 | vio
  deriving DecidableEq, Repr

/-- Which check of R221 a stuck-off finding comes from: the turn-on check, or the check while the gate stays on. -/
inductive OnCheck where
  | first | second
  deriving DecidableEq, Repr

/-- The three terminal voltages of an axis at one instant, mV (R237). -/
abbrev Terminals := Nat × Nat × Nat

/-- One raw read of a fuse word at the three margins of R378: 72 bits each, payload in [71:8], check byte in [7:0]. -/
structure FuseRead where
  normal : BitVec 72
  high : BitVec 72
  low : BitVec 72
  deriving DecidableEq, Repr

/-- How the fuse programmer's running command ended (R383, R384): the number of words committed and, where it stopped
torn, the reason and the bits of the torn word that had been programmed. -/
inductive FuseEnd where
  | ok
  | torn (done : Nat) (reason : BitVec 4) (bits : BitVec 72)
  deriving DecidableEq, Repr

/-- The outcome of a NAND operation the store started (R353, R362, R363). -/
inductive NandEnd where
  | ok | fail | timeout
  deriving DecidableEq, Repr

/-- The commands of the OL864. The docstring of each names its row's rule. Host commands carry the port and the host's
tag (G1 and G2 ports number their commands themselves, R325, and ignore it). Events carry what the outside world
contributes: converter codes, pin levels, comparator results. -/
inductive Instr where
  -- Yunapen instructions, executed by the engine that serves axis n
  /-- R80 -/ | wait (n : Ax) (i : Fields)
  /-- R80 -/ | waitTimeout (n : Ax)
  /-- R81 -/ | br (n : Ax) (i : Fields)
  /-- R82 -/ | call (n : Ax) (i : Fields)
  /-- R82 -/ | ret (n : Ax) (i : Fields)
  /-- R83 -/ | loop (n : Ax) (i : Fields)
  /-- R84 -/ | step (n : Ax) (i : Fields)
  /-- R85 -/ | sig (n : Ax) (i : Fields)
  /-- R43, R86 -/ | endTick (n : Ax) (i : Fields)
  /-- R87 -/ | vadd (n : Ax) (i : Fields)
  /-- R87 -/ | vsub (n : Ax) (i : Fields)
  /-- R87 -/ | vmul (n : Ax) (i : Fields)
  /-- R88 -/ | cmul (n : Ax) (i : Fields)
  /-- R89 -/ | clarke (n : Ax) (i : Fields)
  /-- R89 -/ | iclarke (n : Ax) (i : Fields)
  /-- R90 -/ | rot (n : Ax) (i : Fields)
  /-- R88 -/ | cross (n : Ax) (i : Fields)
  /-- R88 -/ | dot (n : Ax) (i : Fields)
  /-- R88 -/ | mag (n : Ax) (i : Fields)
  /-- R90 -/ | atan2 (n : Ax) (i : Fields)
  /-- R91 -/ | integ (n : Ax) (i : Fields)
  /-- R92 -/ | hyst (n : Ax) (i : Fields)
  /-- R93 -/ | sect (n : Ax) (i : Fields)
  /-- R94 -/ | swt (n : Ax) (i : Fields)
  /-- R96 -/ | lim (n : Ax) (i : Fields)
  /-- R97 -/ | pi (n : Ax) (i : Fields)
  /-- R91 -/ | filt (n : Ax) (i : Fields)
  /-- R98 -/ | lut1 (n : Ax) (i : Fields)
  /-- R98 -/ | lut2 (n : Ax) (i : Fields)
  /-- R99 -/ | ld (n : Ax) (i : Fields)
  /-- R99 -/ | st (n : Ax) (i : Fields)
  /-- R100 -/ | ior (n : Ax) (i : Fields)
  /-- R100 -/ | iow (n : Ax) (i : Fields)
  /-- R101 -/ | samp (n : Ax) (i : Fields)
  /-- R102 -/ | apply (n : Ax) (i : Fields)
  /-- R103 -/ | pred (n : Ax) (i : Fields)
  /-- R104 -/ | trc (n : Ax) (i : Fields)
  /-- R105 -/ | shr (n : Ax) (i : Fields)
  /-- R79 -/ | illegalOpcodeFetch (n : Ax)
  -- the tick, the position logic and the engine pool
  /-- R42 -/ | tickBoundary (n : Ax) (adc : Adc)
  /-- R159 -/ | positionRefresh (n : Ax)
  /-- R189 -/ | emuCountEmit (m : Emu)
  /-- R34 -/ | engMismatch (n : Ax)
  /-- R46 -/ | engineOverrun (n : Ax)
  /-- R45 -/ | checkpointCopyMismatch (n : Ax)
  /-- R285 -/ | selftest (e : Eng)
  /-- R285 -/ | selftestEnd (e : Eng) (pass : Bool)
  /-- R279: `byEngine` when the read is the engine's own. -/ | memUncorrectable (m : MemId) (word : W16) (byEngine : Bool)
  /-- R39: what the check bits of the scrubber's next word say, or of the word that another read takes. -/ | scrubRead (m : MemId) (other : Option W16) (e : Ecc)
  /-- R280: `memory` when an uncorrectable word in its memory is the cause. -/ | systemControllerRestart (memory : Bool)
  /-- R280 -/ | systemControllerRestartEnd
  -- clocks, crossings and time
  /-- R10 -/ | pllFail
  /-- R11 -/ | delayLineRecalibrationEnd
  /-- R201: `converged` within 2 us. -/ | delayLineCalibration (n : Ax) (converged : Bool)
  /-- R12 -/ | standbyPllRestored
  /-- R12 -/ | standbyPllLoss
  /-- R10, R32 -/ | swap (p : Port) (tag : W16)
  /-- R14 -/ | refLost
  /-- R15: 10 ms of correct XIN edges have passed. -/ | refReturn
  /-- R15, R32 -/ | refRearm (p : Port) (tag : W16)
  /-- R9 -/ | islandGateStop (n : Ax)
  /-- R19: a crossing of axis `unit`, or of no axis carrying the command `tag` of port `p`; `second` when the resend
  disagrees too. -/ | cdcMismatch (unit : Option Ax) (p : Port) (tag : W16) (second : Bool)
  /-- R20, R318 -/ | sandglassExpiry (p : Port) (tag : W16)
  /-- R25, R27: an edge of the PPS pin, rising or falling; `short` when the pulse is shorter than 1 us. -/ | ppsEdge (rising short : Bool)
  /-- R29 -/ | ppsLost
  /-- R26 -/ | sysTimeset (p : Port) (tag : W16) (v : W64)
  /-- R30 -/ | sysTimetrim (p : Port) (tag : W16) (v : W64)
  /-- R31 -/ | sysTimeload (p : Port) (tag : W16) (v : W64)
  -- mailbox, debug and axis configuration
  /-- R50 -/ | mbinWrite (p : Port) (tag : W16) (n : Ax) (w : BitVec 4) (v : W64)
  /-- R50 -/ | post (p : Port) (tag : W16) (n : Ax)
  /-- R51 -/ | mailboxHeldWriteRelease (n : Ax)
  /-- R55 -/ | halt (p : Port) (tag : W16) (n : Ax)
  /-- R56 -/ | resume (p : Port) (tag : W16) (n : Ax)
  /-- R56 -/ | dbgctlStep (p : Port) (tag : W16) (n : Ax)
  /-- R57: the engine of axis n is about to execute the word at its PC. -/ | breakpoint (n : Ax)
  /-- R56 -/ | dbgdataWrite (p : Port) (tag : W16) (v : W64)
  /-- R49 -/ | axnTickWrite (p : Port) (tag : W16) (n : Ax) (v : W64)
  /-- R110: `one` false for AXn_BASE0, true for AXn_BASE1. -/ | axnBaseWrite (p : Port) (tag : W16) (n : Ax) (one : Bool) (v : W64)
  /-- R291 -/ | enable (p : Port) (tag : W16) (n : Ax)
  /-- R291 -/ | stop (p : Port) (tag : W16) (n : Ax)
  /-- R291, R293 -/ | clear (p : Port) (tag : W16) (n : Ax)
  -- the axis state machine
  /-- R289: the terminal voltages throughout ARMING. -/ | armingComplete (n : Ax) (terms : List Terminals)
  /-- R228 -/ | armingBootstrapTimeout (n : Ax)
  /-- R290 -/ | disarmComplete (n : Ax)
  /-- R287 -/ | stoptmo (n : Ax)
  /-- R287 -/ | stateRequest (n : Ax)
  /-- R186 -/ | catchTimeout (n : Ax)
  /-- R128 -/ | stall (n : Ax)
  -- position inputs, encoders, probes, emulation
  /-- R162, R164, R165: the pins show the code 4C + 2B + A. -/ | hallCode (n : Ax) (c : BitVec 3)
  /-- R164 -/ | hallInvtmo (n : Ax)
  /-- R169 -/ | speedStopped (n : Ax)
  /-- R173: the pins show these levels, A in bit 0 and B in bit 1. -/ | encQuadratureStep (k : Chan) (ab : BitVec 2)
  /-- R173 -/ | encZ (k : Chan)
  /-- R174: from the trigger TOFF after a boundary, or a drained ENCk_REQ write. -/ | ssiRequest (k : Chan)
  /-- R175: the WLEN word bits and the CRCW check bits received. -/ | ssiTransactionEnd (k : Chan) (word : BitVec 40) (crc : Byte)
  /-- R175 -/ | encTimeout (k : Chan)
  /-- R176 -/ | fbclr (p : Port) (tag : W16) (n : Ax)
  /-- R171: r = 0 CFG, 1 SSI, 2 CRC, 3 OFS. -/ | encoderConfigWrite (p : Port) (tag : W16) (k : Chan) (r : Fin 4) (v : W64)
  /-- R177 -/ | probeLatch (j : Chan) (rising : Bool)
  /-- R190 -/ | emuCfgWrite (p : Port) (tag : W16) (m : Emu) (v : W64)
  /-- R191 -/ | catchClr (p : Port) (tag : W16) (n : Ax)
  -- pulse timing
  /-- R207: the amplifier output of phase `ph`, microvolts. -/ | currentBound (n : Ax) (ph : Phase) (uv : Int)
  /-- R209 -/ | ptmctlStep (n : Ax)
  /-- R210, R211: compare k fires; the three codes the snapshot converts. -/ | compare (n : Ax) (k : Chan) (codes : BitVec 14 × BitVec 14 × BitVec 14)
  /-- R212 -/ | switchingRateWindow (n : Ax)
  -- gate drive and trips
  /-- R219: the comparator confirms the gate opposite g below 1.5 V. -/ | windbreakTurnOn (n : Ax) (g : Gate)
  /-- R220: VGS of g stands at or above 1.5 V (R240), or, `high` false, falls through it. -/ | gateStuckOn (n : Ax) (g : Gate) (high : Bool)
  /-- R221: VGS of g at the end of the first check, or for 100 ns in the second, mV. -/ | gateStuckOff (n : Ax) (g : Gate) (check : OnCheck) (v : Nat)
  /-- R223: an overlap begins or ends. -/ | hbConflict (n : Ax) (ph : Phase) (begins : Bool)
  /-- R223 -/ | hbConflictTimeout (n : Ax) (ph : Phase)
  /-- R224 -/ | vgdUv
  /-- R224 -/ | vgdUvRelease
  /-- R225, R226: the bootstrap voltage of a phase, mV. -/ | bstUv (n : Ax) (ph : Phase) (v : Nat)
  /-- R229: the drain-source voltage of g throughout the filter time, mV. -/ | desat (n : Ax) (g : Gate) (v : Nat)
  /-- R230: the amplifier output of phase ph, microvolts, at the comparator of the blanked or of the hard level. -/ | ocTrip (n : Ax) (ph : Phase) (hard : Bool) (uv : Int)
  /-- R230: TRIP pin k goes high or low. -/ | tripPin (k : Chan) (high : Bool)
  /-- R231 -/ | oasholdExpiry (n : Ax)
  /-- R237: the terminal voltages over the last AUTOWIN. -/ | ascAutoShort (n : Ax) (terms : List Terminals)
  /-- R239: SAFE_N low for 200 ns, or high again. -/ | safeN (low : Bool)
  -- buses and brakes
  /-- R251: the comparator sets; v is the bus in 100 mV units. -/ | busOv1 (x : Bus) (v : BitVec 10)
  /-- R249 -/ | busOv2 (x : Bus) (v : BitVec 10)
  /-- R250 -/ | busOv3 (x : Bus) (v : BitVec 10)
  /-- R246 -/ | busUv1 (x : Bus) (v : BitVec 10)
  /-- R247 -/ | busUv2 (x : Bus) (v : BitVec 10)
  /-- R243 -/ | busThresholdRelease (x : Bus) (t : BusThr) (v : BitVec 10)
  /-- R245: `uv` false for BUSx_OV, true for BUSx_UV. -/ | busThresholdWrite (p : Port) (tag : W16) (x : Bus) (uv : Bool) (v : W64)
  /-- R255, R256: the terminal voltages over the last AUTOWIN. -/ | escalation (n : Ax) (terms : List Terminals)
  /-- R252: the greatest shunt voltage while the gate was on beyond BLK in the last period, and while it was off, mV. -/ | brakeChopperPeriod (x : Bus) (on off : Nat)
  /-- R253: the same two for the test pulse. -/ | brakeTest (x : Bus) (on off : Nat)
  /-- R253 -/ | brkctlTest (p : Port) (tag : W16) (x : Bus)
  /-- R254 -/ | brkctlClr (p : Port) (tag : W16) (x : Bus)
  -- temperature and fuses' reread
  /-- R259: twelve trimmed on-die readings in 1/16 C and eight mean NTC codes. -/ | thermReading (ts : Vector (BitVec 16) 12) (ntc : Vector (BitVec 12) 8) (x : Aux)
  /-- R262 -/ | tempSensorBad (i : Fin 12)
  /-- R260 -/ | ntcOpenShort (k : Ax) (short : Bool)
  /-- R260 -/ | ntcDeclarationEnd (k : Ax)
  /-- R380: the words whose reads differ from what the array held. -/ | fuseReread (changed : List (Byte × FuseRead))
  -- frames and protocol commands
  /-- R304: the bits of a frame, first bit most significant. -/ | spiFrame (p : Port) (bits : List Bool)
  /-- R335, R336 -/ | packetDiscard (p : Port)
  /-- R327 -/ | g1WindowRead (a : BitVec 7)
  /-- R327 -/ | g1MailboxWrite (w : BitVec 4) (v : W16)
  /-- R327 -/ | exta (v : W16)
  /-- R328 -/ | extd (v : W16)
  /-- R329 -/ | g1Nop
  /-- R331 -/ | poll (p : Port) (rep : Bool)
  /-- R331 -/ | mbptr (p : Port) (n : Ax) (v : W16)
  /-- R331 -/ | mbwr (p : Port) (n : Ax) (v : W16)
  /-- R331 -/ | addr (p : Port) (v : W16)
  /-- R331 -/ | rd (p : Port) (k : BitVec 2)
  /-- R331 -/ | wr (p : Port) (k : BitVec 2) (v : W16)
  /-- R331 -/ | ntf (p : Port) (v : BitVec 2)
  /-- R334 -/ | g2CanCompletionSent (p : Port)
  /-- R338 -/ | read (p : Port) (tag : W16) (a : W16) (cnt : BitVec 6)
  /-- R339 -/ | write (p : Port) (tag : W16) (a : W16) (vs : List W64)
  /-- R339 -/ | mbwrite (p : Port) (tag : W16) (n : Ax) (first : BitVec 4) (post : Bool) (vs : List W64)
  /-- R338, R340 -/ | ping (p : Port) (tag : W16)
  /-- R341 -/ | linkAck (p : Port) (cseq nseq : W16) (crw nrw : Bool)
  /-- R345 -/ | loadBegin (p : Port) (tag : W16) (mask : Byte) (store : Bool)
  /-- R345 -/ | loadData (p : Port) (tag : W16) (chunk : W16) (ws : List W64)
  /-- R346 -/ | loadEnd (p : Port) (tag : W16)
  /-- R345 -/ | loadAbandon (p : Port)
  /-- R346 -/ | applyBoot (p : Port) (tag : W16) (mask : Byte)
  /-- R314 -/ | claim (p : Port) (tag : W16) (n : Ax)
  /-- R314 -/ | release (p : Port) (tag : W16) (n : Ax)
  /-- R314 -/ | forceClaim (p : Port) (tag : W16) (n : Ax)
  /-- R311 -/ | hostPermWrite (p : Port) (tag : W16) (k : Port) (v : W64)
  /-- R308 -/ | portDisable (p : Port) (tag : W16) (k : Port)
  /-- R308 -/ | portEnable (p : Port) (tag : W16) (k : Port)
  /-- R306 -/ | uartBdivChange
  /-- R305: 128 occurrences of 11 recessive bits. -/ | canBusOffRecovery
  /-- R107 -/ | engineExcClr (p : Port) (tag : W16) (n : Ax)
  /-- R297 -/ | axnCntclr (p : Port) (tag : W16) (n : Ax)
  /-- R297 -/ | faultClr (p : Port) (tag : W16)
  /-- R278 -/ | ack (p : Port) (tag : W16)
  /-- R433 -/ | registerWrite (p : Port) (tag : W16) (a : W16) (v : W64)
  -- the store
  /-- R354: what the devices hold and answer at this mount. -/ | mount (idsMatch : Bool) (checkpoint : Bool)
  /-- R354 -/ | remount (p : Port) (tag : W16) (idsMatch : Bool) (checkpoint : Bool)
  /-- R355 -/ | format (p : Port) (tag : W16) (key : W16) (answers : Bool)
  /-- R354 -/ | cisternCheckpoint
  /-- R362: the next pending page, and how its program ends. -/ | pageProgram (r : NandEnd)
  /-- R353 -/ | storeTimeout (cs : Bool)
  /-- R363: block b of partition part fails program or erase; whether three blocks in succession failed. -/ | blockFailure (b : Nat) (erase third : Bool)
  /-- R364 -/ | wearRelocation (src dst : Nat)
  /-- R370 -/ | userBegin (p : Port) (tag : W16) (blob : Byte) (total : W64)
  /-- R370 -/ | userData (p : Port) (tag : W16) (chunk : W16) (ws : List W64)
  /-- R370 -/ | userEnd (p : Port) (tag : W16)
  /-- R370 -/ | userRead (p : Port) (tag : W16) (blob : Byte) (d : W64)
  /-- R370 -/ | userDelete (p : Port) (tag : W16) (blob : Byte)
  /-- R370 -/ | logRead (p : Port) (tag : W16) (seq : W64)
  /-- R370 -/ | traceRead (p : Port) (tag : W16) (seq : W64)
  /-- R370 -/ | lifeRead (p : Port) (tag : W16) (unit : BitVec 5)
  /-- R368 -/ | bootSelect (p : Port) (tag : W16) (b : Bool)
  -- fuses
  /-- R382 -/ | program (p : Port) (tag : W16) (cnt : BitVec 3)
  /-- R385 -/ | seal (p : Port) (tag : W16)
  /-- R389 -/ | fuseRead (p : Port) (tag : W16)
  -- resets and power
  /-- R393, R396: PSEL0 and VIO above 2.5 V as sampled at release, whether XIN runs, and
  whether the 32.768 kHz crystal does (R7). -/ | powerOnReset (psel0 vioHigh xin x32 : Bool)
  /-- R393 -/ | resetN (psel0 vioHigh xin x32 : Bool)
  /-- R391, R393 -/ | supply (r : Rail) (psel0 vioHigh xin x32 : Bool)
  /-- R391 -/ | vsupPowerOnResetAssert
  /-- R400 -/ | earlyPowerFail
  /-- R400 -/ | powerfail (psel0 vioHigh xin x32 : Bool)
  /-- R402 -/ | enter (p : Port) (tag : W16)
  /-- R402 -/ | standby
  /-- R404: the WAKE pin, or the AON counter reaching CMP. -/ | wake (pin : Bool) (psel0 vioHigh xin x32 : Bool)
  /-- R8 -/ | drvClockFallback (stops : Bool)
  /-- R343: the identifier, its format, FD or classical, remote, and the data bytes. -/ | canFrame (ident : BitVec 29) (ext fd remote : Bool) (data : List Byte)
  /-- R305: the error counts after the node's last error or success. -/ | canBusOff (tec rec : BitVec 9)
  /-- R355 -/ | formattingEnd
  /-- R381 -/ | fuseCommandEnd (r : FuseEnd)
  /-- R362 -/ | blockErase (b : Nat) (r : NandEnd)
  deriving DecidableEq, Repr

end Sys2Proof
end

