-- ==== Sys2Proof/Machine/Num.lean ====
section
/-! DEFINITION. Exact arithmetic, then one rounding: the number formats of R72 and R73, integer roots, the sine table of
ROT and ATAN2 as exact integer computation, table interpolation. -/

namespace Sys2Proof.Machine

open Sys2Proof

/-- A word of two lanes. -/
def lanes (x y : W32) : W64 := y ++ x
/-- Lane x and lane y of a word (R67). -/
def laneX (w : W64) : W32 := w.setWidth 32
def laneY (w : W64) : W32 := (w >>> 32).setWidth 32

/-- A result replaced by the nearest limit of Q2.30; true when it was outside (R72). -/
def sat32 (x : Int) : W32 × Bool :=
  if x > 2147483647 then (0x7FFFFFFF, true)
  else if x < -2147483648 then (0x80000000, true)
  else (BitVec.ofInt 32 x, false)

/-- The nearest integer to num / den, ties toward positive (R72); den is positive. -/
def roundDiv (num : Int) (den : Nat) : Int := (2 * num + den) / (2 * den)

/-- An exact value in units of 2^-60 rounded once to Q2.30 and saturated (R72). -/
def round60 (x : Int) : W32 × Bool := sat32 ((x + 536870912) / 1073741824)

/-- The greatest r with r * r not above n, for n below 2^(2k). -/
def isqrtBits (n : Nat) : Nat → Nat → Nat
  | 0, r => r
  | k + 1, r =>
    let r' := r + 2 ^ k
    isqrtBits n k (if r' * r' ≤ n then r' else r)

/-- Integer square root of numbers below 2^256. -/
def isqrt (n : Nat) : Nat := isqrtBits n 128 0

/-- The least r with n not above r * r. -/
def csqrt (n : Nat) : Nat := let r := isqrt n; if r * r = n then r else r + 1

/-- The floor of (a + b * sqrt 3) / d, exactly; d is positive. -/
def floorRoot3 (a b : Int) (d : Nat) : Int :=
  let n := (3 * b * b).toNat
  if 0 ≤ b then (a + isqrt n) / d else (a - csqrt n) / d

/-- The nearest integer to (a + b * sqrt 3) / d, ties toward positive. -/
def roundRoot3 (a b : Int) (d : Nat) : Int := floorRoot3 (2 * a + d) (2 * b) (2 * d)

/-- The cosine and sine of 2^i / 2^32 of a turn, units of 2^-80, for i = 0 to 31. -/
def rotTable : List (Int × Int) := [
  (1208925819614629173412547, 1768559438007110),
  (1208925819614629169531661, 3537118876014220),
  (1208925819614629154008115, 7074237752028440),
  (1208925819614629091913934, 14148475504056880),
  (1208925819614628843537206, 28296951008113759),
  (1208925819614627850030297, 56593902016227502),
  (1208925819614623876002660, 113187804032454879),
  (1208925819614607979892112, 226375608064908766),
  (1208925819614544395449922, 452751216129809594),
  (1208925819614290057681159, 905502432259555687),
  (1208925819613272706606108, 1811004864518603368),
  (1208925819609203302305907, 3622009729033142682),
  (1208925819592925685105147, 7244019458033772926),
  (1208925819527815216302840, 14488038915807446351),
  (1208925819267373341105299, 28976077829534096696),
  (1208925818225605840502160, 57952155642421825356),
  (1208925814058535841082014, 115904311151672706476),
  (1208925797390255891279945, 231808621237977860900),
  (1208925730717136858127925, 463617233953015364133),
  (1208925464024672982419738, 927234399722509747121),
  (1208924397255013589970078, 1854468253976911810989),
  (1208920130179513785331761, 3708932144210887464776),
  (1208903061927718747322595, 7417829378539895499670),
  (1208834789723801514652793, 14835379479996263089095),
  (1208561713760085258884695, 29668524806411653107242),
  (1207469615520205493846559, 59319178402857521215137),
  (1203104511360146332467513, 118495451709196174743783),
  (1185696648977439268413811, 235849727442229801031474),
  (1116901821066387782991457, 462635882124905661503633),
  (854839645001009215068542, 854839645001009215068542),
  (0, 1208925819614629174706176),
  (-1208925819614629174706176, 0)]

/-- The cosine and sine of an angle, units of 2^-80: the product of the table's rotations of the bits that are set. -/
def cosSin (t : W32) : Int × Int :=
  (rotTable.zipIdx).foldl (fun (p : Int × Int) r =>
    if t.getLsbD r.2 then
      ((p.1 * r.1.1 - p.2 * r.1.2) / 2 ^ 80, (p.1 * r.1.2 + p.2 * r.1.1) / 2 ^ 80)
    else p) (2 ^ 80, 0)

/-- The floor of each lane of the exact rotation of (ax, ay) by t (R90). -/
def rotFloor (ax ay : Int) (t : W32) : Int × Int :=
  let c := cosSin t
  ((ax * c.1 - ay * c.2) / 2 ^ 80, (ax * c.2 + ay * c.1) / 2 ^ 80)

/-- One step of the angle search: keep bit i when the direction of the candidate is not beyond the vector. -/
def atanBits (x y : Int) : Nat → W32 → W32
  | 0, t => t
  | i + 1, t =>
    let t' := t ||| ((1 : W32) <<< i)
    let c := cosSin t'
    atanBits x y i (if c.1 * y - c.2 * x ≥ 0 then t' else t)

/-- The floor of the exact angle of (x, y) in angle units (R90); 0 for (0, 0). -/
def atanFloor (x y : Int) : W32 :=
  if x = 0 ∧ y = 0 then 0
  else if y < 0 ∨ (y = 0 ∧ x < 0) then 0x80000000 + atanBits (-x) (-y) 31 0
  else atanBits x y 31 0

/-- Linear interpolation between entries e0 and e1 at the fraction f / 2^s, rounded once (R98). -/
def lerp (e0 e1 : Int) (f s : Nat) : Int := roundDiv (e0 * 2 ^ s + (e1 - e0) * f) (2 ^ s)

/-- Bilinear interpolation of four entries, rounded once (R98). -/
def bilerp (e00 e10 e01 e11 : Int) (f1 s1 f2 s2 : Nat) : Int :=
  let a := e00 * 2 ^ s1 + (e10 - e00) * f1
  let b := e01 * 2 ^ s1 + (e11 - e01) * f1
  roundDiv (a * 2 ^ s2 + (b - a) * f2) (2 ^ (s1 + s2))

end Sys2Proof.Machine
end

