-- ==== Sys2Proof/Machine/Flags.lean ====
section
/-! DEFINITION. The flag register F of a Yunapen engine (R75 to R77). -/

namespace Sys2Proof.Machine

open Sys2Proof

/-- Bit numbers of F (R75). -/
abbrev fFLX : Nat := 0
abbrev fTRQI : Nat := 1
abbrev fTRQD : Nat := 2
abbrev fLIMH : Nat := 3
abbrev fLIML : Nat := 4
abbrev fVLIM : Nat := 5
abbrev fTLIM : Nat := 6
abbrev fWIN : Nat := 7
abbrev fMIR : Nat := 10
abbrev fMLIM : Nat := 13
abbrev fKCF : Nat := 14
abbrev fSAT : Nat := 15
abbrev fEV : Nat := 16
abbrev fU0 : Nat := 24
abbrev fEXC : Nat := 28

/-- Write one bit of F. -/
def fPut (f : W32) (b : Nat) (v : Bool) : W32 :=
  if v then f ||| ((1 : W32) <<< b) else f &&& ~~~((1 : W32) <<< b)

/-- Set one bit of F when v holds, else leave it. -/
def fSet (f : W32) (b : Nat) (v : Bool) : W32 := if v then f ||| ((1 : W32) <<< b) else f

/-- The bits of F that read 0 at the start of every tick (R75): EXC, SAT, KCF, MLIM, MIR, WIN, TLIM, LIML, LIMH. -/
abbrev fTickClear : W32 := 0x1000FFD8

/-- F at the start of a tick: the cleared bits, and EV7 to EV0 replaced by the latches (R75, R77). -/
def fBoundary (f : W32) (ev : Byte) : W32 :=
  (f &&& ~~~(fTickClear ||| 0xE0FF0000)) ||| (ev.setWidth 32 <<< fEV)

/-- The event bits of F. -/
def fEvents (f : W32) : Byte := (f >>> fEV).setWidth 8

/-- SAMP's flags: WIN, MIR per phase, MLIM and KCF, all written (R75, R101). -/
def fSamp (f : W32) (win mir : BitVec 3) (mlim kcf : Bool) : W32 :=
  let f := f &&& ~~~(0x7F80 : W32)
  fPut (fPut (f ||| (win.setWidth 32 <<< fWIN) ||| (mir.setWidth 32 <<< fMIR)) fMLIM mlim) fKCF kcf

end Sys2Proof.Machine
end

