-- ==== Sys2Proof/Machine/RegMap.lean ====
section
/-! DEFINITION. The device register space (R58, R59): every register and field the spec's tables name, with the reset
value, the writable, write-1-to-clear, write-only and host-only masks the tables give. Addresses `AX_*` are offsets in an
axis block; every other address is absolute. -/

namespace Sys2Proof.Machine

/-- A field of a register: the register's address (or offset in an axis block), its least significant bit, its width. -/
structure Fld where
  a : Nat
  lo : Nat
  w : Nat
  deriving DecidableEq, Repr

/-- One row of a register table: base, stride, count; the reset value; the masks of the bits typed RW, W1C and WO; the
mask of the bits marked host only. -/
structure RegRow where
  base : Nat
  stride : Nat
  count : Nat
  rst : Nat
  rw : Nat
  w1c : Nat
  wo : Nat
  host : Nat
  deriving DecidableEq, Repr

/-- The row that holds address a. -/
def RegRow.find (a : Nat) : List RegRow → Option RegRow
  | [] => none
  | r :: rs => if r.base ≤ a ∧ (a - r.base) % r.stride = 0 ∧ (a - r.base) / r.stride < r.count then some r else RegRow.find a rs

/-- `0x0010 SYS_ISLAND0` (01 R32). -/
abbrev SYS_ISLAND0 : Nat := 0x10
abbrev SYS_ISLAND0_ADC : Fld := ⟨SYS_ISLAND0, 36, 16⟩
abbrev SYS_ISLAND0_PT : Fld := ⟨SYS_ISLAND0, 20, 16⟩
abbrev SYS_ISLAND0_ENG : Fld := ⟨SYS_ISLAND0, 0, 20⟩

/-- `0x0011 SYS_ISLAND1` (01 R32). -/
abbrev SYS_ISLAND1 : Nat := 0x11
abbrev SYS_ISLAND1_DRV : Fld := ⟨SYS_ISLAND1, 10, 2⟩
abbrev SYS_ISLAND1_STORE : Fld := ⟨SYS_ISLAND1, 8, 2⟩
abbrev SYS_ISLAND1_HOST : Fld := ⟨SYS_ISLAND1, 0, 8⟩

/-- `0x0012 SYS_ISLGATE` (01 R32). -/
abbrev SYS_ISLGATE : Nat := 0x12
abbrev SYS_ISLGATE_AXGATE : Fld := ⟨SYS_ISLGATE, 0, 8⟩

/-- `0x0014 SYS_CLKSTAT` (01 R32). -/
abbrev SYS_CLKSTAT : Nat := 0x14
abbrev SYS_CLKSTAT_STBY_BAD : Fld := ⟨SYS_CLKSTAT, 10, 1⟩
abbrev SYS_CLKSTAT_SWITCHED : Fld := ⟨SYS_CLKSTAT, 9, 1⟩
abbrev SYS_CLKSTAT_REF_LOSTF : Fld := ⟨SYS_CLKSTAT, 8, 1⟩
abbrev SYS_CLKSTAT_AON_SRC : Fld := ⟨SYS_CLKSTAT, 5, 1⟩
abbrev SYS_CLKSTAT_HRES_FB : Fld := ⟨SYS_CLKSTAT, 4, 1⟩
abbrev SYS_CLKSTAT_REF_SRC : Fld := ⟨SYS_CLKSTAT, 3, 1⟩
abbrev SYS_CLKSTAT_PLLB_LOCK : Fld := ⟨SYS_CLKSTAT, 2, 1⟩
abbrev SYS_CLKSTAT_PLLA_LOCK : Fld := ⟨SYS_CLKSTAT, 1, 1⟩
abbrev SYS_CLKSTAT_ACTIVE : Fld := ⟨SYS_CLKSTAT, 0, 1⟩

/-- `0x0015 SYS_CLKCTL` (01 R32). -/
abbrev SYS_CLKCTL : Nat := 0x15
abbrev SYS_CLKCTL_REF_REARM : Fld := ⟨SYS_CLKCTL, 2, 1⟩
abbrev SYS_CLKCTL_REF_RET : Fld := ⟨SYS_CLKCTL, 1, 1⟩
abbrev SYS_CLKCTL_SWAP : Fld := ⟨SYS_CLKCTL, 0, 1⟩

/-- `0x0020 SYS_TIME` (01 R32). -/
abbrev SYS_TIME : Nat := 0x20
abbrev SYS_TIME_NS : Fld := ⟨SYS_TIME, 0, 64⟩

/-- `0x0021 SYS_TIMESET` (01 R32). -/
abbrev SYS_TIMESET : Nat := 0x21
abbrev SYS_TIMESET_PPS_POL : Fld := ⟨SYS_TIMESET, 50, 1⟩
abbrev SYS_TIMESET_PPS_EN : Fld := ⟨SYS_TIMESET, 49, 1⟩
abbrev SYS_TIMESET_ARM : Fld := ⟨SYS_TIMESET, 48, 1⟩
abbrev SYS_TIMESET_PPS_DLY : Fld := ⟨SYS_TIMESET, 32, 16⟩
abbrev SYS_TIMESET_SEC : Fld := ⟨SYS_TIMESET, 0, 32⟩

/-- `0x0022 SYS_TIMETRIM` (01 R32). -/
abbrev SYS_TIMETRIM : Nat := 0x22
abbrev SYS_TIMETRIM_TRIM : Fld := ⟨SYS_TIMETRIM, 0, 32⟩

/-- `0x0023 SYS_TIMESTAT` (01 R32). -/
abbrev SYS_TIMESTAT : Nat := 0x23
abbrev SYS_TIMESTAT_REJECTS : Fld := ⟨SYS_TIMESTAT, 48, 16⟩
abbrev SYS_TIMESTAT_LAST_ERR : Fld := ⟨SYS_TIMESTAT, 16, 32⟩
abbrev SYS_TIMESTAT_DEGRADED : Fld := ⟨SYS_TIMESTAT, 4, 1⟩
abbrev SYS_TIMESTAT_STATE : Fld := ⟨SYS_TIMESTAT, 0, 3⟩

/-- `0x0024 SYS_TIMELOAD` (01 R32). -/
abbrev SYS_TIMELOAD : Nat := 0x24
abbrev SYS_TIMELOAD_NS : Fld := ⟨SYS_TIMELOAD, 0, 64⟩

/-- `0x2400 ENGINE_POOL` (02 R62). -/
abbrev ENGINE_POOL : Nat := 0x2400
abbrev ENGINE_POOL_STATE : Fld := ⟨ENGINE_POOL, 0, 30⟩

/-- `0x2401 ENGINE_MAP` (02 R62). -/
abbrev ENGINE_MAP : Nat := 0x2401
abbrev ENGINE_MAP_AX : Fld := ⟨ENGINE_MAP, 0, 32⟩

/-- `0x2402 ENGINE_STCTL` (02 R62). -/
abbrev ENGINE_STCTL : Nat := 0x2402
abbrev ENGINE_STCTL_PERIOD : Fld := ⟨ENGINE_STCTL, 0, 16⟩

/-- `0x2404 ENGINE_DBGCTL` (02 R62). -/
abbrev ENGINE_DBGCTL : Nat := 0x2404
abbrev ENGINE_DBGCTL_STEP : Fld := ⟨ENGINE_DBGCTL, 6, 1⟩
abbrev ENGINE_DBGCTL_RESUME : Fld := ⟨ENGINE_DBGCTL, 5, 1⟩
abbrev ENGINE_DBGCTL_HALT : Fld := ⟨ENGINE_DBGCTL, 4, 1⟩
abbrev ENGINE_DBGCTL_AXIS : Fld := ⟨ENGINE_DBGCTL, 0, 3⟩

/-- `0x2405 ENGINE_DBGSTAT` (02 R62). -/
abbrev ENGINE_DBGSTAT : Nat := 0x2405
abbrev ENGINE_DBGSTAT_MISSED : Fld := ⟨ENGINE_DBGSTAT, 32, 16⟩
abbrev ENGINE_DBGSTAT_PC : Fld := ⟨ENGINE_DBGSTAT, 16, 13⟩
abbrev ENGINE_DBGSTAT_HALTED : Fld := ⟨ENGINE_DBGSTAT, 0, 8⟩

/-- `0x2408 to 0x240B ENGINE_BKPT0 to 3` (02 R62). -/
abbrev ENGINE_BKPT (i : Nat) : Nat := 0x2408 + i
abbrev ENGINE_BKPT_EN (i : Nat) : Fld := ⟨ENGINE_BKPT i, 16, 1⟩
abbrev ENGINE_BKPT_AXIS (i : Nat) : Fld := ⟨ENGINE_BKPT i, 13, 3⟩
abbrev ENGINE_BKPT_PC (i : Nat) : Fld := ⟨ENGINE_BKPT i, 0, 13⟩

/-- `0x2410 ENGINE_DBGSEL` (02 R62). -/
abbrev ENGINE_DBGSEL : Nat := 0x2410
abbrev ENGINE_DBGSEL_REG : Fld := ⟨ENGINE_DBGSEL, 0, 6⟩

/-- `0x2411 ENGINE_DBGDATA` (02 R62). -/
abbrev ENGINE_DBGDATA : Nat := 0x2411
abbrev ENGINE_DBGDATA_VALUE : Fld := ⟨ENGINE_DBGDATA, 0, 64⟩

/-- `0x2418 ENGINE_LOADDIAG` (02 R62). -/
abbrev ENGINE_LOADDIAG : Nat := 0x2418
abbrev ENGINE_LOADDIAG_REASON : Fld := ⟨ENGINE_LOADDIAG, 60, 4⟩
abbrev ENGINE_LOADDIAG_COMMITS : Fld := ⟨ENGINE_LOADDIAG, 48, 8⟩
abbrev ENGINE_LOADDIAG_AXIS : Fld := ⟨ENGINE_LOADDIAG, 42, 3⟩
abbrev ENGINE_LOADDIAG_LIMIT : Fld := ⟨ENGINE_LOADDIAG, 16, 16⟩
abbrev ENGINE_LOADDIAG_WCET : Fld := ⟨ENGINE_LOADDIAG, 0, 16⟩

/-- `B+0x004 AXn_TICK` (02 R63); offset in the axis block. -/
abbrev AX_TICK : Nat := 0x4
abbrev AX_TICK_PHASE : Fld := ⟨AX_TICK, 16, 16⟩
abbrev AX_TICK_PERIOD : Fld := ⟨AX_TICK, 0, 16⟩

/-- `B+0x005 AXn_WCET` (02 R63); offset in the axis block. -/
abbrev AX_WCET : Nat := 0x5
abbrev AX_WCET_COMMITS : Fld := ⟨AX_WCET, 48, 8⟩
abbrev AX_WCET_LAST : Fld := ⟨AX_WCET, 32, 16⟩
abbrev AX_WCET_LIMIT : Fld := ⟨AX_WCET, 16, 16⟩
abbrev AX_WCET_WCET : Fld := ⟨AX_WCET, 0, 16⟩

/-- `B+0x008 AXn_MBCTL` (02 R63); offset in the axis block. -/
abbrev AX_MBCTL : Nat := 0x8
abbrev AX_MBCTL_OSEQ : Fld := ⟨AX_MBCTL, 32, 16⟩
abbrev AX_MBCTL_ISEQ : Fld := ⟨AX_MBCTL, 16, 16⟩
abbrev AX_MBCTL_PEND : Fld := ⟨AX_MBCTL, 1, 1⟩
abbrev AX_MBCTL_POST : Fld := ⟨AX_MBCTL, 0, 1⟩

/-- `B+0x010 to B+0x01F AXn_MBIN0 to 15` (02 R63); offset in the axis block. -/
abbrev AX_MBIN (i : Nat) : Nat := 0x10 + i
abbrev AX_MBIN_DATA (i : Nat) : Fld := ⟨AX_MBIN i, 0, 64⟩

/-- `B+0x020 to B+0x03F AXn_MBOUT0 to 31` (02 R63); offset in the axis block. -/
abbrev AX_MBOUT (i : Nat) : Nat := 0x20 + i
abbrev AX_MBOUT_DATA (i : Nat) : Fld := ⟨AX_MBOUT i, 0, 64⟩

/-- `0x2420 + n ENGINE_EXCn` (03 R107). -/
abbrev ENGINE_EXC (i : Nat) : Nat := 0x2420 + i
abbrev ENGINE_EXC_COUNT (i : Nat) : Fld := ⟨ENGINE_EXC i, 48, 16⟩
abbrev ENGINE_EXC_CLR (i : Nat) : Fld := ⟨ENGINE_EXC i, 40, 1⟩
abbrev ENGINE_EXC_LAST (i : Nat) : Fld := ⟨ENGINE_EXC i, 32, 4⟩
abbrev ENGINE_EXC_FPC (i : Nat) : Fld := ⟨ENGINE_EXC i, 16, 13⟩
abbrev ENGINE_EXC_FIRST (i : Nat) : Fld := ⟨ENGINE_EXC i, 0, 4⟩

/-- `B+0x0F0 AXn_BASE0` (04 R137); offset in the axis block. -/
abbrev AX_BASE0 : Nat := 0xF0
abbrev AX_BASE0_VBASE : Fld := ⟨AX_BASE0, 32, 16⟩
abbrev AX_BASE0_IBASE : Fld := ⟨AX_BASE0, 16, 16⟩
abbrev AX_BASE0_PP : Fld := ⟨AX_BASE0, 0, 4⟩

/-- `B+0x0F1 AXn_BASE1` (04 R137); offset in the axis block. -/
abbrev AX_BASE1 : Nat := 0xF1
abbrev AX_BASE1_PSIBASE : Fld := ⟨AX_BASE1, 32, 32⟩
abbrev AX_BASE1_WBASE : Fld := ⟨AX_BASE1, 0, 32⟩

/-- `B+0x0F2 AXn_TQLIM` (04 R137); offset in the axis block. -/
abbrev AX_TQLIM : Nat := 0xF2
abbrev AX_TQLIM_KT : Fld := ⟨AX_TQLIM, 32, 16⟩
abbrev AX_TQLIM_ILIMN : Fld := ⟨AX_TQLIM, 16, 16⟩
abbrev AX_TQLIM_ILIMP : Fld := ⟨AX_TQLIM, 0, 16⟩

/-- `B+0x0F3 AXn_TL` (04 R137); offset in the axis block. -/
abbrev AX_TL : Nat := 0xF3
abbrev AX_TL_TLN : Fld := ⟨AX_TL, 32, 32⟩
abbrev AX_TL_TLP : Fld := ⟨AX_TL, 0, 32⟩

/-- `B+0x0F4 AXn_TLSTAT` (04 R137); offset in the axis block. -/
abbrev AX_TLSTAT : Nat := 0xF4
abbrev AX_TLSTAT_CURB : Fld := ⟨AX_TLSTAT, 49, 1⟩
abbrev AX_TLSTAT_NEGINH : Fld := ⟨AX_TLSTAT, 48, 1⟩
abbrev AX_TLSTAT_KMIN : Fld := ⟨AX_TLSTAT, 32, 16⟩
abbrev AX_TLSTAT_KBUS : Fld := ⟨AX_TLSTAT, 16, 16⟩
abbrev AX_TLSTAT_KTH : Fld := ⟨AX_TLSTAT, 0, 16⟩

/-- `B+0x0F5 AXn_STALL` (04 R137); offset in the axis block. -/
abbrev AX_STALL : Nat := 0xF5
abbrev AX_STALL_ACT : Fld := ⟨AX_STALL, 40, 2⟩
abbrev AX_STALL_TICKS : Fld := ⟨AX_STALL, 16, 24⟩
abbrev AX_STALL_SPDTH : Fld := ⟨AX_STALL, 0, 16⟩

/-- `B+0x0F6 AXn_SPD` (04 R137); offset in the axis block. -/
abbrev AX_SPD : Nat := 0xF6
abbrev AX_SPD_STCNT : Fld := ⟨AX_SPD, 40, 24⟩
abbrev AX_SPD_SPEED : Fld := ⟨AX_SPD, 0, 32⟩

/-- `0x0040 + k SYS_AINk` (05 R157). -/
abbrev SYS_AIN (i : Nat) : Nat := 0x40 + i
abbrev SYS_AIN_LAST (i : Nat) : Fld := ⟨SYS_AIN i, 32, 12⟩
abbrev SYS_AIN_SUM8 (i : Nat) : Fld := ⟨SYS_AIN i, 0, 15⟩

/-- `B+0x0C0 AXn_SNSCFG` (05 R158); offset in the axis block. -/
abbrev AX_SNSCFG : Nat := 0xC0
abbrev AX_SNSCFG_SHUNT : Fld := ⟨AX_SNSCFG, 32, 16⟩
abbrev AX_SNSCFG_TSET : Fld := ⟨AX_SNSCFG, 20, 10⟩
abbrev AX_SNSCFG_MIRMAX : Fld := ⟨AX_SNSCFG, 16, 3⟩
abbrev AX_SNSCFG_TVCHK : Fld := ⟨AX_SNSCFG, 11, 1⟩
abbrev AX_SNSCFG_GAIN : Fld := ⟨AX_SNSCFG, 8, 3⟩
abbrev AX_SNSCFG_MODE : Fld := ⟨AX_SNSCFG, 0, 1⟩

/-- `B+0x0C1 AXn_KCHK` (05 R158); offset in the axis block. -/
abbrev AX_KCHK : Nat := 0xC1
abbrev AX_KCHK_VTOL : Fld := ⟨AX_KCHK, 16, 16⟩
abbrev AX_KCHK_KLIM : Fld := ⟨AX_KCHK, 0, 16⟩

/-- `B+0x0C2 AXn_MIRCO` (05 R158); offset in the axis block. -/
abbrev AX_MIRCO : Nat := 0xC2
abbrev AX_MIRCO_RS : Fld := ⟨AX_MIRCO, 40, 20⟩
abbrev AX_MIRCO_K1 : Fld := ⟨AX_MIRCO, 20, 20⟩
abbrev AX_MIRCO_KV : Fld := ⟨AX_MIRCO, 0, 20⟩

/-- `B+0x0C4 AXn_OFS` (05 R158); offset in the axis block. -/
abbrev AX_OFS : Nat := 0xC4
abbrev AX_OFS_OFSW : Fld := ⟨AX_OFS, 32, 16⟩
abbrev AX_OFS_OFSV : Fld := ⟨AX_OFS, 16, 16⟩
abbrev AX_OFS_OFSU : Fld := ⟨AX_OFS, 0, 16⟩

/-- `B+0x0C5 AXn_SNSSTAT` (05 R158); offset in the axis block. -/
abbrev AX_SNSSTAT : Nat := 0xC5
abbrev AX_SNSSTAT_TVBAD : Fld := ⟨AX_SNSSTAT, 26, 3⟩
abbrev AX_SNSSTAT_TVSUB : Fld := ⟨AX_SNSSTAT, 23, 3⟩
abbrev AX_SNSSTAT_KCFPH : Fld := ⟨AX_SNSSTAT, 20, 3⟩
abbrev AX_SNSSTAT_OFSBAD : Fld := ⟨AX_SNSSTAT, 19, 1⟩
abbrev AX_SNSSTAT_FORCED : Fld := ⟨AX_SNSSTAT, 18, 1⟩
abbrev AX_SNSSTAT_SAMPLES : Fld := ⟨AX_SNSSTAT, 12, 3⟩
abbrev AX_SNSSTAT_SKW : Fld := ⟨AX_SNSSTAT, 9, 3⟩
abbrev AX_SNSSTAT_SKV : Fld := ⟨AX_SNSSTAT, 6, 3⟩
abbrev AX_SNSSTAT_SKU : Fld := ⟨AX_SNSSTAT, 3, 3⟩

/-- `B+0x0C8 AXn_IRAW` (05 R158); offset in the axis block. -/
abbrev AX_IRAW : Nat := 0xC8
abbrev AX_IRAW_IW : Fld := ⟨AX_IRAW, 32, 16⟩
abbrev AX_IRAW_IV : Fld := ⟨AX_IRAW, 16, 16⟩
abbrev AX_IRAW_IU : Fld := ⟨AX_IRAW, 0, 16⟩

/-- `B+0x0C9 AXn_VRAW` (05 R158); offset in the axis block. -/
abbrev AX_VRAW : Nat := 0xC9
abbrev AX_VRAW_VBUS : Fld := ⟨AX_VRAW, 48, 16⟩
abbrev AX_VRAW_VW : Fld := ⟨AX_VRAW, 32, 16⟩
abbrev AX_VRAW_VV : Fld := ⟨AX_VRAW, 16, 16⟩
abbrev AX_VRAW_VU : Fld := ⟨AX_VRAW, 0, 16⟩

/-- `B+0x100 AXn_PCFG` (06 R191); offset in the axis block. -/
abbrev AX_PCFG : Nat := 0x100
abbrev AX_PCFG_INVTMO : Fld := ⟨AX_PCFG, 24, 8⟩
abbrev AX_PCFG_HFILT : Fld := ⟨AX_PCFG, 16, 6⟩
abbrev AX_PCFG_DIRIRQ : Fld := ⟨AX_PCFG, 8, 1⟩
abbrev AX_PCFG_SSRC : Fld := ⟨AX_PCFG, 4, 2⟩
abbrev AX_PCFG_MODE : Fld := ⟨AX_PCFG, 0, 2⟩

/-- `B+0x101 AXn_HALLMAP` (06 R191); offset in the axis block. -/
abbrev AX_HALLMAP : Nat := 0x101
abbrev AX_HALLMAP_HOFS : Fld := ⟨AX_HALLMAP, 32, 32⟩
abbrev AX_HALLMAP_MAP : Fld := ⟨AX_HALLMAP, 0, 24⟩

/-- `B+0x102 AXn_SPDCFG` (06 R191); offset in the axis block. -/
abbrev AX_SPDCFG : Nat := 0x102
abbrev AX_SPDCFG_PTMO : Fld := ⟨AX_SPDCFG, 48, 8⟩
abbrev AX_SPDCFG_WIN : Fld := ⟨AX_SPDCFG, 32, 12⟩
abbrev AX_SPDCFG_SWDN : Fld := ⟨AX_SPDCFG, 16, 16⟩
abbrev AX_SPDCFG_SWUP : Fld := ⟨AX_SPDCFG, 0, 16⟩

/-- `B+0x104 AXn_PANG` (06 R191); offset in the axis block. -/
abbrev AX_PANG : Nat := 0x104
abbrev AX_PANG_CODE : Fld := ⟨AX_PANG, 40, 3⟩
abbrev AX_PANG_HINV : Fld := ⟨AX_PANG, 38, 1⟩
abbrev AX_PANG_FALLBACK : Fld := ⟨AX_PANG, 37, 1⟩
abbrev AX_PANG_SVALID : Fld := ⟨AX_PANG, 36, 1⟩
abbrev AX_PANG_SECTOR : Fld := ⟨AX_PANG, 32, 3⟩
abbrev AX_PANG_ANGLE : Fld := ⟨AX_PANG, 0, 32⟩

/-- `B+0x105 AXn_PSPD` (06 R191); offset in the axis block. -/
abbrev AX_PSPD : Nat := 0x105
abbrev AX_PSPD_STEPS : Fld := ⟨AX_PSPD, 48, 16⟩
abbrev AX_PSPD_STOPPED : Fld := ⟨AX_PSPD, 34, 1⟩
abbrev AX_PSPD_DIR : Fld := ⟨AX_PSPD, 33, 1⟩
abbrev AX_PSPD_METHOD : Fld := ⟨AX_PSPD, 32, 1⟩
abbrev AX_PSPD_SPEED : Fld := ⟨AX_PSPD, 0, 32⟩

/-- `B+0x106 AXn_EMUANG` (06 R191); offset in the axis block. -/
abbrev AX_EMUANG : Nat := 0x106
abbrev AX_EMUANG_ANGLE : Fld := ⟨AX_EMUANG, 0, 32⟩

/-- `B+0x108 AXn_CATCH` (06 R191); offset in the axis block. -/
abbrev AX_CATCH : Nat := 0x108
abbrev AX_CATCH_LOSSTOT : Fld := ⟨AX_CATCH, 48, 16⟩
abbrev AX_CATCH_RECENT : Fld := ⟨AX_CATCH, 44, 3⟩
abbrev AX_CATCH_CLR : Fld := ⟨AX_CATCH, 40, 1⟩
abbrev AX_CATCH_LOSSMAX : Fld := ⟨AX_CATCH, 32, 3⟩
abbrev AX_CATCH_LOSSWIN : Fld := ⟨AX_CATCH, 16, 16⟩
abbrev AX_CATCH_TMO : Fld := ⟨AX_CATCH, 0, 16⟩

/-- `B+0x109 AXn_PCTL` (06 R191); offset in the axis block. -/
abbrev AX_PCTL : Nat := 0x109
abbrev AX_PCTL_FBCLR : Fld := ⟨AX_PCTL, 0, 1⟩

/-- `+0x0 ENCk_CFG` (06 R192). -/
abbrev ENC_CFG (i : Nat) : Nat := 0x2000 + 16 * i
abbrev ENC_CFG_LINES (i : Nat) : Fld := ⟨ENC_CFG i, 32, 17⟩
abbrev ENC_CFG_FILT (i : Nat) : Fld := ⟨ENC_CFG i, 20, 6⟩
abbrev ENC_CFG_ERRLIM (i : Nat) : Fld := ⟨ENC_CFG i, 16, 4⟩
abbrev ENC_CFG_FALLBK (i : Nat) : Fld := ⟨ENC_CFG i, 10, 1⟩
abbrev ENC_CFG_ZRST (i : Nat) : Fld := ⟨ENC_CFG i, 9, 1⟩
abbrev ENC_CFG_ZSEEN (i : Nat) : Fld := ⟨ENC_CFG i, 8, 1⟩
abbrev ENC_CFG_AXEN (i : Nat) : Fld := ⟨ENC_CFG i, 7, 1⟩
abbrev ENC_CFG_AXIS (i : Nat) : Fld := ⟨ENC_CFG i, 4, 3⟩
abbrev ENC_CFG_MODE (i : Nat) : Fld := ⟨ENC_CFG i, 0, 2⟩

/-- `+0x1 ENCk_SSI` (06 R192). -/
abbrev ENC_SSI (i : Nat) : Nat := 0x2001 + 16 * i
abbrev ENC_SSI_TMO (i : Nat) : Fld := ⟨ENC_SSI i, 57, 7⟩
abbrev ENC_SSI_TRIG (i : Nat) : Fld := ⟨ENC_SSI i, 56, 1⟩
abbrev ENC_SSI_ERRPOL (i : Nat) : Fld := ⟨ENC_SSI i, 55, 1⟩
abbrev ENC_SSI_ERREN (i : Nat) : Fld := ⟨ENC_SSI i, 54, 1⟩
abbrev ENC_SSI_ERRPOS (i : Nat) : Fld := ⟨ENC_SSI i, 48, 6⟩
abbrev ENC_SSI_POSW (i : Nat) : Fld := ⟨ENC_SSI i, 40, 6⟩
abbrev ENC_SSI_POSLSB (i : Nat) : Fld := ⟨ENC_SSI i, 32, 6⟩
abbrev ENC_SSI_STARTB (i : Nat) : Fld := ⟨ENC_SSI i, 31, 1⟩
abbrev ENC_SSI_WLEN (i : Nat) : Fld := ⟨ENC_SSI i, 24, 6⟩
abbrev ENC_SSI_SDLY (i : Nat) : Fld := ⟨ENC_SSI i, 16, 8⟩
abbrev ENC_SSI_DIV (i : Nat) : Fld := ⟨ENC_SSI i, 0, 11⟩

/-- `+0x2 ENCk_CRC` (06 R192). -/
abbrev ENC_CRC (i : Nat) : Nat := 0x2002 + 16 * i
abbrev ENC_CRC_TOFF (i : Nat) : Fld := ⟨ENC_CRC i, 32, 16⟩
abbrev ENC_CRC_INV (i : Nat) : Fld := ⟨ENC_CRC i, 20, 1⟩
abbrev ENC_CRC_CRCW (i : Nat) : Fld := ⟨ENC_CRC i, 16, 4⟩
abbrev ENC_CRC_INIT (i : Nat) : Fld := ⟨ENC_CRC i, 8, 8⟩
abbrev ENC_CRC_POLY (i : Nat) : Fld := ⟨ENC_CRC i, 0, 8⟩

/-- `+0x3 ENCk_OFS` (06 R192). -/
abbrev ENC_OFS (i : Nat) : Nat := 0x2003 + 16 * i
abbrev ENC_OFS_OFS (i : Nat) : Fld := ⟨ENC_OFS i, 0, 32⟩

/-- `+0x4 ENCk_REQ` (06 R192). -/
abbrev ENC_REQ (i : Nat) : Nat := 0x2004 + 16 * i
abbrev ENC_REQ_REQ (i : Nat) : Fld := ⟨ENC_REQ i, 0, 1⟩

/-- `+0x8 ENCk_POS` (06 R192). -/
abbrev ENC_POS (i : Nat) : Nat := 0x2008 + 16 * i
abbrev ENC_POS_ZLAT (i : Nat) : Fld := ⟨ENC_POS i, 32, 32⟩
abbrev ENC_POS_POS (i : Nat) : Fld := ⟨ENC_POS i, 0, 32⟩

/-- `+0x9 ENCk_RAW` (06 R192). -/
abbrev ENC_RAW (i : Nat) : Nat := 0x2009 + 16 * i
abbrev ENC_RAW_CRCRX (i : Nat) : Fld := ⟨ENC_RAW i, 40, 8⟩
abbrev ENC_RAW_WORD (i : Nat) : Fld := ⟨ENC_RAW i, 0, 40⟩

/-- `+0xA ENCk_STAT` (06 R192). -/
abbrev ENC_STAT (i : Nat) : Nat := 0x200A + 16 * i
abbrev ENC_STAT_OVERRUN (i : Nat) : Fld := ⟨ENC_STAT i, 48, 16⟩
abbrev ENC_STAT_BUSY (i : Nat) : Fld := ⟨ENC_STAT i, 24, 1⟩
abbrev ENC_STAT_LASTERR (i : Nat) : Fld := ⟨ENC_STAT i, 20, 3⟩
abbrev ENC_STAT_BADRUN (i : Nat) : Fld := ⟨ENC_STAT i, 16, 4⟩
abbrev ENC_STAT_SEQ (i : Nat) : Fld := ⟨ENC_STAT i, 0, 16⟩

/-- `0x2100 + 4j PRBj_CFG` (06 R192). -/
abbrev PRB_CFG (i : Nat) : Nat := 0x2100 + 4 * i
abbrev PRB_CFG_FILT (i : Nat) : Fld := ⟨PRB_CFG i, 16, 6⟩
abbrev PRB_CFG_AXEN (i : Nat) : Fld := ⟨PRB_CFG i, 11, 1⟩
abbrev PRB_CFG_AXIS (i : Nat) : Fld := ⟨PRB_CFG i, 8, 3⟩
abbrev PRB_CFG_EDGE (i : Nat) : Fld := ⟨PRB_CFG i, 4, 2⟩
abbrev PRB_CFG_SRC (i : Nat) : Fld := ⟨PRB_CFG i, 0, 4⟩

/-- `+0x1 PRBj_LAT` (06 R192). -/
abbrev PRB_LAT (i : Nat) : Nat := 0x2101 + 4 * i
abbrev PRB_LAT_POL (i : Nat) : Fld := ⟨PRB_LAT i, 48, 1⟩
abbrev PRB_LAT_SEQ (i : Nat) : Fld := ⟨PRB_LAT i, 32, 16⟩
abbrev PRB_LAT_VALUE (i : Nat) : Fld := ⟨PRB_LAT i, 0, 32⟩

/-- `+0x2 PRBj_TIME` (06 R192). -/
abbrev PRB_TIME (i : Nat) : Nat := 0x2102 + 4 * i
abbrev PRB_TIME_TIME (i : Nat) : Fld := ⟨PRB_TIME i, 0, 64⟩

/-- `0x2200 + 4m EMUm_CFG` (06 R192). -/
abbrev EMU_CFG (i : Nat) : Nat := 0x2200 + 4 * i
abbrev EMU_CFG_LINES (i : Nat) : Fld := ⟨EMU_CFG i, 32, 17⟩
abbrev EMU_CFG_INV (i : Nat) : Fld := ⟨EMU_CFG i, 9, 1⟩
abbrev EMU_CFG_ZEN (i : Nat) : Fld := ⟨EMU_CFG i, 8, 1⟩
abbrev EMU_CFG_AXIS (i : Nat) : Fld := ⟨EMU_CFG i, 4, 3⟩
abbrev EMU_CFG_SEL (i : Nat) : Fld := ⟨EMU_CFG i, 1, 1⟩
abbrev EMU_CFG_EN (i : Nat) : Fld := ⟨EMU_CFG i, 0, 1⟩

/-- `+0x1 EMUm_STAT` (06 R192). -/
abbrev EMU_STAT (i : Nat) : Nat := 0x2201 + 4 * i
abbrev EMU_STAT_OVR (i : Nat) : Fld := ⟨EMU_STAT i, 48, 16⟩
abbrev EMU_STAT_BACKLOG (i : Nat) : Fld := ⟨EMU_STAT i, 32, 16⟩
abbrev EMU_STAT_COUNT (i : Nat) : Fld := ⟨EMU_STAT i, 0, 32⟩

/-- `B+0x040 AXn_PTCFG` (07 R215); offset in the axis block. -/
abbrev AX_PTCFG : Nat := 0x40
abbrev AX_PTCFG_DMIN : Fld := ⟨AX_PTCFG, 32, 12⟩
abbrev AX_PTCFG_HOLDMAX : Fld := ⟨AX_PTCFG, 26, 4⟩
abbrev AX_PTCFG_MISSED : Fld := ⟨AX_PTCFG, 25, 1⟩
abbrev AX_PTCFG_NARROW : Fld := ⟨AX_PTCFG, 24, 1⟩
abbrev AX_PTCFG_ZFILL : Fld := ⟨AX_PTCFG, 22, 2⟩
abbrev AX_PTCFG_PWMPER : Fld := ⟨AX_PTCFG, 0, 20⟩

/-- `B+0x041 AXn_PTDT` (07 R215); offset in the axis block. -/
abbrev AX_PTDT : Nat := 0x41
abbrev AX_PTDT_ADD4 : Fld := ⟨AX_PTDT, 56, 6⟩
abbrev AX_PTDT_ADD3 : Fld := ⟨AX_PTDT, 50, 6⟩
abbrev AX_PTDT_ADD2 : Fld := ⟨AX_PTDT, 44, 6⟩
abbrev AX_PTDT_ADD1 : Fld := ⟨AX_PTDT, 38, 6⟩
abbrev AX_PTDT_ADD0 : Fld := ⟨AX_PTDT, 32, 6⟩
abbrev AX_PTDT_MINP : Fld := ⟨AX_PTDT, 16, 10⟩
abbrev AX_PTDT_DT : Fld := ⟨AX_PTDT, 0, 10⟩

/-- `B+0x042 AXn_PTMAP` (07 R215); offset in the axis block. -/
abbrev AX_PTMAP : Nat := 0x42
abbrev AX_PTMAP_INV : Fld := ⟨AX_PTMAP, 4, 3⟩
abbrev AX_PTMAP_PHMAP : Fld := ⟨AX_PTMAP, 0, 3⟩

/-- `B+0x043 AXn_PTBST` (07 R215); offset in the axis block. -/
abbrev AX_PTBST : Nat := 0x43
abbrev AX_PTBST_REFW : Fld := ⟨AX_PTBST, 16, 10⟩
abbrev AX_PTBST_REFN : Fld := ⟨AX_PTBST, 0, 8⟩

/-- `B+0x044 AXn_PTOVR` (07 R215); offset in the axis block. -/
abbrev AX_PTOVR : Nat := 0x44
abbrev AX_PTOVR_EN : Fld := ⟨AX_PTOVR, 12, 1⟩
abbrev AX_PTOVR_GATE : Fld := ⟨AX_PTOVR, 0, 12⟩

/-- `B+0x045 AXn_PTMTAB` (07 R215); offset in the axis block. -/
abbrev AX_PTMTAB : Nat := 0x45
abbrev AX_PTMTAB_ENTRY : Fld := ⟨AX_PTMTAB, 0, 36⟩

/-- `B+0x046 AXn_PTMCTL` (07 R215); offset in the axis block. -/
abbrev AX_PTMCTL : Nat := 0x46
abbrev AX_PTMCTL_INDEX : Fld := ⟨AX_PTMCTL, 12, 3⟩
abbrev AX_PTMCTL_MOFS : Fld := ⟨AX_PTMCTL, 8, 3⟩
abbrev AX_PTMCTL_SRC : Fld := ⟨AX_PTMCTL, 4, 2⟩
abbrev AX_PTMCTL_FORCEOFF : Fld := ⟨AX_PTMCTL, 3, 1⟩
abbrev AX_PTMCTL_REV : Fld := ⟨AX_PTMCTL, 2, 1⟩
abbrev AX_PTMCTL_STEP : Fld := ⟨AX_PTMCTL, 1, 1⟩

/-- `B+0x048 to B+0x04B AXn_PTCMP0 to 3` (07 R215); offset in the axis block. -/
abbrev AX_PTCMP (i : Nat) : Nat := 0x48 + i
abbrev AX_PTCMP_WIDTH (i : Nat) : Fld := ⟨AX_PTCMP i, 40, 8⟩
abbrev AX_PTCMP_PIN (i : Nat) : Fld := ⟨AX_PTCMP i, 36, 2⟩
abbrev AX_PTCMP_TGT (i : Nat) : Fld := ⟨AX_PTCMP i, 32, 2⟩
abbrev AX_PTCMP_OFS (i : Nat) : Fld := ⟨AX_PTCMP i, 0, 16⟩

/-- `B+0x04C AXn_PTSNAP` (07 R215); offset in the axis block. -/
abbrev AX_PTSNAP : Nat := 0x4C
abbrev AX_PTSNAP_SHARED : Fld := ⟨AX_PTSNAP, 55, 1⟩
abbrev AX_PTSNAP_CMP : Fld := ⟨AX_PTSNAP, 52, 2⟩
abbrev AX_PTSNAP_VALID : Fld := ⟨AX_PTSNAP, 48, 3⟩
abbrev AX_PTSNAP_IW : Fld := ⟨AX_PTSNAP, 32, 16⟩
abbrev AX_PTSNAP_IV : Fld := ⟨AX_PTSNAP, 16, 16⟩
abbrev AX_PTSNAP_IU : Fld := ⟨AX_PTSNAP, 0, 16⟩

/-- `B+0x04D AXn_PTSW` (07 R215); offset in the axis block. -/
abbrev AX_PTSW : Nat := 0x4D
abbrev AX_PTSW_TARGET : Fld := ⟨AX_PTSW, 32, 18⟩
abbrev AX_PTSW_RATIO : Fld := ⟨AX_PTSW, 0, 32⟩

/-- `B+0x04E AXn_PTSTAT` (07 R215); offset in the axis block. -/
abbrev AX_PTSTAT : Nat := 0x4E
abbrev AX_PTSTAT_MISS : Fld := ⟨AX_PTSTAT, 36, 1⟩
abbrev AX_PTSTAT_HOLDRUN : Fld := ⟨AX_PTSTAT, 32, 4⟩
abbrev AX_PTSTAT_STRETCH : Fld := ⟨AX_PTSTAT, 29, 1⟩
abbrev AX_PTSTAT_DROP : Fld := ⟨AX_PTSTAT, 28, 1⟩
abbrev AX_PTSTAT_CONFLICT : Fld := ⟨AX_PTSTAT, 27, 1⟩
abbrev AX_PTSTAT_FROZEN : Fld := ⟨AX_PTSTAT, 25, 1⟩
abbrev AX_PTSTAT_HRFB : Fld := ⟨AX_PTSTAT, 24, 1⟩
abbrev AX_PTSTAT_BCW : Fld := ⟨AX_PTSTAT, 16, 8⟩
abbrev AX_PTSTAT_BCV : Fld := ⟨AX_PTSTAT, 8, 8⟩
abbrev AX_PTSTAT_BCU : Fld := ⟨AX_PTSTAT, 0, 8⟩

/-- `B+0x080 to B+0x084 AXn_GDBAND0 to 4` (08 R241); offset in the axis block. -/
abbrev AX_GDBAND (i : Nat) : Nat := 0x80 + i
abbrev AX_GDBAND_WBTMO (i : Nat) : Fld := ⟨AX_GDBAND i, 48, 8⟩
abbrev AX_GDBAND_HLD (i : Nat) : Fld := ⟨AX_GDBAND i, 40, 4⟩
abbrev AX_GDBAND_SLP (i : Nat) : Fld := ⟨AX_GDBAND i, 36, 4⟩
abbrev AX_GDBAND_PRE (i : Nat) : Fld := ⟨AX_GDBAND i, 32, 4⟩
abbrev AX_GDBAND_LSNK (i : Nat) : Fld := ⟨AX_GDBAND i, 12, 4⟩
abbrev AX_GDBAND_LSRC (i : Nat) : Fld := ⟨AX_GDBAND i, 8, 4⟩
abbrev AX_GDBAND_HSNK (i : Nat) : Fld := ⟨AX_GDBAND i, 4, 4⟩
abbrev AX_GDBAND_HSRC (i : Nat) : Fld := ⟨AX_GDBAND i, 0, 4⟩

/-- `B+0x088 AXn_GDCFG` (08 R241); offset in the axis block. -/
abbrev AX_GDCFG : Nat := 0x88
abbrev AX_GDCFG_BSTWIN : Fld := ⟨AX_GDCFG, 40, 8⟩
abbrev AX_GDCFG_PRET : Fld := ⟨AX_GDCFG, 24, 8⟩
abbrev AX_GDCFG_SLPT : Fld := ⟨AX_GDCFG, 16, 8⟩
abbrev AX_GDCFG_VGSON : Fld := ⟨AX_GDCFG, 12, 2⟩
abbrev AX_GDCFG_BSTUV : Fld := ⟨AX_GDCFG, 8, 4⟩
abbrev AX_GDCFG_PROF : Fld := ⟨AX_GDCFG, 0, 1⟩

/-- `B+0x089 AXn_GDVDS` (08 R241); offset in the axis block. -/
abbrev AX_GDVDS : Nat := 0x89
abbrev AX_GDVDS_VDSFLT : Fld := ⟨AX_GDVDS, 32, 8⟩
abbrev AX_GDVDS_VDSBLK : Fld := ⟨AX_GDVDS, 24, 8⟩
abbrev AX_GDVDS_VDSTHL : Fld := ⟨AX_GDVDS, 12, 4⟩
abbrev AX_GDVDS_VDSTHH : Fld := ⟨AX_GDVDS, 8, 4⟩
abbrev AX_GDVDS_VDSEN : Fld := ⟨AX_GDVDS, 0, 1⟩

/-- `B+0x08A AXn_GDTRIP` (08 R241); offset in the axis block. -/
abbrev AX_GDTRIP : Nat := 0x8A
abbrev AX_GDTRIP_OCHARD : Fld := ⟨AX_GDTRIP, 48, 16⟩
abbrev AX_GDTRIP_OCLVL : Fld := ⟨AX_GDTRIP, 32, 16⟩
abbrev AX_GDTRIP_TRBLK : Fld := ⟨AX_GDTRIP, 24, 8⟩
abbrev AX_GDTRIP_TPFLT : Fld := ⟨AX_GDTRIP, 16, 4⟩
abbrev AX_GDTRIP_TPBLK : Fld := ⟨AX_GDTRIP, 8, 4⟩
abbrev AX_GDTRIP_TPEN : Fld := ⟨AX_GDTRIP, 0, 4⟩

/-- `B+0x08B AXn_OASIS` (08 R241); offset in the axis block. -/
abbrev AX_OASIS : Nat := 0x8B
abbrev AX_OASIS_OASHOLD : Fld := ⟨AX_OASIS, 32, 8⟩
abbrev AX_OASIS_AUTOWIN : Fld := ⟨AX_OASIS, 24, 8⟩
abbrev AX_OASIS_SCEMF : Fld := ⟨AX_OASIS, 8, 16⟩
abbrev AX_OASIS_OPT : Fld := ⟨AX_OASIS, 0, 2⟩

/-- `B+0x090 AXn_GDSTAT` (08 R241); offset in the axis block. -/
abbrev AX_GDSTAT : Nat := 0x90
abbrev AX_GDSTAT_WBMAX : Fld := ⟨AX_GDSTAT, 56, 8⟩
abbrev AX_GDSTAT_STKOFF : Fld := ⟨AX_GDSTAT, 48, 6⟩
abbrev AX_GDSTAT_STUCK : Fld := ⟨AX_GDSTAT, 42, 6⟩
abbrev AX_GDSTAT_DESATG : Fld := ⟨AX_GDSTAT, 36, 6⟩
abbrev AX_GDSTAT_BSTLOW : Fld := ⟨AX_GDSTAT, 33, 3⟩
abbrev AX_GDSTAT_VGDUV : Fld := ⟨AX_GDSTAT, 32, 1⟩
abbrev AX_GDSTAT_TPIN : Fld := ⟨AX_GDSTAT, 28, 4⟩
abbrev AX_GDSTAT_OCH : Fld := ⟨AX_GDSTAT, 25, 3⟩
abbrev AX_GDSTAT_OCB : Fld := ⟨AX_GDSTAT, 22, 3⟩
abbrev AX_GDSTAT_CONF : Fld := ⟨AX_GDSTAT, 21, 1⟩
abbrev AX_GDSTAT_BAND : Fld := ⟨AX_GDSTAT, 18, 3⟩
abbrev AX_GDSTAT_OOUT : Fld := ⟨AX_GDSTAT, 16, 2⟩

/-- `0x0B00 BUS_MAP` (09 R257). -/
abbrev BUS_MAP : Nat := 0xB00
abbrev BUS_MAP_AXBUS : Fld := ⟨BUS_MAP, 0, 8⟩

/-- `+0x0 BUSx_OV` (09 R257). -/
abbrev BUS_OV (i : Nat) : Nat := 0xB10 + 16 * i
abbrev BUS_OV_OVHYS (i : Nat) : Fld := ⟨BUS_OV i, 32, 8⟩
abbrev BUS_OV_OV3 (i : Nat) : Fld := ⟨BUS_OV i, 20, 10⟩
abbrev BUS_OV_OV2 (i : Nat) : Fld := ⟨BUS_OV i, 10, 10⟩
abbrev BUS_OV_OV1 (i : Nat) : Fld := ⟨BUS_OV i, 0, 10⟩

/-- `+0x1 BUSx_UV` (09 R257). -/
abbrev BUS_UV (i : Nat) : Nat := 0xB11 + 16 * i
abbrev BUS_UV_KBMIN (i : Nat) : Fld := ⟨BUS_UV i, 48, 16⟩
abbrev BUS_UV_UVHYS (i : Nat) : Fld := ⟨BUS_UV i, 32, 8⟩
abbrev BUS_UV_UV2 (i : Nat) : Fld := ⟨BUS_UV i, 10, 10⟩
abbrev BUS_UV_UV1 (i : Nat) : Fld := ⟨BUS_UV i, 0, 10⟩

/-- `+0x2 BUSx_ESC` (09 R257). -/
abbrev BUS_ESC (i : Nat) : Nat := 0xB12 + 16 * i
abbrev BUS_ESC_REGTH (i : Nat) : Fld := ⟨BUS_ESC i, 32, 16⟩
abbrev BUS_ESC_ESCDLY (i : Nat) : Fld := ⟨BUS_ESC i, 16, 16⟩
abbrev BUS_ESC_FLT (i : Nat) : Fld := ⟨BUS_ESC i, 0, 8⟩

/-- `+0x3 BUSx_BRK` (09 R257). -/
abbrev BUS_BRK (i : Nat) : Nat := 0xB13 + 16 * i
abbrev BUS_BRK_TPER (i : Nat) : Fld := ⟨BUS_BRK i, 56, 8⟩
abbrev BUS_BRK_ITH (i : Nat) : Fld := ⟨BUS_BRK i, 48, 8⟩
abbrev BUS_BRK_BLK (i : Nat) : Fld := ⟨BUS_BRK i, 40, 8⟩
abbrev BUS_BRK_PBAND (i : Nat) : Fld := ⟨BUS_BRK i, 32, 8⟩
abbrev BUS_BRK_SNK (i : Nat) : Fld := ⟨BUS_BRK i, 28, 4⟩
abbrev BUS_BRK_SRC (i : Nat) : Fld := ⟨BUS_BRK i, 24, 4⟩
abbrev BUS_BRK_MODE (i : Nat) : Fld := ⟨BUS_BRK i, 20, 2⟩
abbrev BUS_BRK_PER (i : Nat) : Fld := ⟨BUS_BRK i, 0, 20⟩

/-- `+0x4 BUSx_STAT` (09 R257). -/
abbrev BUS_STAT (i : Nat) : Nat := 0xB14 + 16 * i
abbrev BUS_STAT_KBUS (i : Nat) : Fld := ⟨BUS_STAT i, 48, 16⟩
abbrev BUS_STAT_VBUS (i : Nat) : Fld := ⟨BUS_STAT i, 32, 12⟩
abbrev BUS_STAT_BRKFLT (i : Nat) : Fld := ⟨BUS_STAT i, 12, 2⟩
abbrev BUS_STAT_BRKON (i : Nat) : Fld := ⟨BUS_STAT i, 11, 1⟩
abbrev BUS_STAT_ESC (i : Nat) : Fld := ⟨BUS_STAT i, 10, 1⟩
abbrev BUS_STAT_NEGINH (i : Nat) : Fld := ⟨BUS_STAT i, 9, 1⟩
abbrev BUS_STAT_UV2 (i : Nat) : Fld := ⟨BUS_STAT i, 4, 1⟩
abbrev BUS_STAT_UV1 (i : Nat) : Fld := ⟨BUS_STAT i, 3, 1⟩
abbrev BUS_STAT_OV3 (i : Nat) : Fld := ⟨BUS_STAT i, 2, 1⟩
abbrev BUS_STAT_OV2 (i : Nat) : Fld := ⟨BUS_STAT i, 1, 1⟩
abbrev BUS_STAT_OV1 (i : Nat) : Fld := ⟨BUS_STAT i, 0, 1⟩

/-- `+0x5 BUSx_BRKCTL` (09 R257). -/
abbrev BUS_BRKCTL (i : Nat) : Nat := 0xB15 + 16 * i
abbrev BUS_BRKCTL_TEST (i : Nat) : Fld := ⟨BUS_BRKCTL i, 1, 1⟩
abbrev BUS_BRKCTL_CLR (i : Nat) : Fld := ⟨BUS_BRKCTL i, 0, 1⟩

/-- `0x0A00 + s THERM_TSs` (10 R274). -/
abbrev THERM_TS (i : Nat) : Nat := 0xA00 + i
abbrev THERM_TS_RATE (i : Nat) : Fld := ⟨THERM_TS i, 48, 16⟩
abbrev THERM_TS_SUSP (i : Nat) : Fld := ⟨THERM_TS i, 34, 1⟩
abbrev THERM_TS_BAD (i : Nat) : Fld := ⟨THERM_TS i, 33, 1⟩
abbrev THERM_TS_EFF (i : Nat) : Fld := ⟨THERM_TS i, 16, 16⟩
abbrev THERM_TS_MEAS (i : Nat) : Fld := ⟨THERM_TS i, 0, 16⟩

/-- `0x0A10 + n THERM_NTCn` (10 R274). -/
abbrev THERM_NTC (i : Nat) : Nat := 0xA10 + i
abbrev THERM_NTC_RATE (i : Nat) : Fld := ⟨THERM_NTC i, 48, 16⟩
abbrev THERM_NTC_SHORT (i : Nat) : Fld := ⟨THERM_NTC i, 34, 1⟩
abbrev THERM_NTC_OPEN (i : Nat) : Fld := ⟨THERM_NTC i, 33, 1⟩
abbrev THERM_NTC_CODE (i : Nat) : Fld := ⟨THERM_NTC i, 16, 12⟩
abbrev THERM_NTC_MEAS (i : Nat) : Fld := ⟨THERM_NTC i, 0, 16⟩

/-- `0x0A20 THERM_NTCCFG` (10 R274). -/
abbrev THERM_NTCCFG : Nat := 0xA20
abbrev THERM_NTCCFG_NFRAC : Fld := ⟨THERM_NTCCFG, 48, 16⟩
abbrev THERM_NTCCFG_R25 : Fld := ⟨THERM_NTCCFG, 32, 16⟩
abbrev THERM_NTCCFG_NEN : Fld := ⟨THERM_NTCCFG, 16, 8⟩
abbrev THERM_NTCCFG_BETA : Fld := ⟨THERM_NTCCFG, 0, 16⟩

/-- `0x0A24 + g THERM_LVLg` (10 R274). -/
abbrev THERM_LVL (i : Nat) : Nat := 0xA24 + i
abbrev THERM_LVL_HYS (i : Nat) : Fld := ⟨THERM_LVL i, 56, 8⟩
abbrev THERM_LVL_SHUT (i : Nat) : Fld := ⟨THERM_LVL i, 27, 9⟩
abbrev THERM_LVL_FULL (i : Nat) : Fld := ⟨THERM_LVL i, 18, 9⟩
abbrev THERM_LVL_THR (i : Nat) : Fld := ⟨THERM_LVL i, 9, 9⟩
abbrev THERM_LVL_WARN (i : Nat) : Fld := ⟨THERM_LVL i, 0, 9⟩

/-- `0x0A28 + g THERM_RATEg` (10 R274). -/
abbrev THERM_RATE (i : Nat) : Nat := 0xA28 + i
abbrev THERM_RATE_MODE (i : Nat) : Fld := ⟨THERM_RATE i, 56, 2⟩
abbrev THERM_RATE_RWIN (i : Nat) : Fld := ⟨THERM_RATE i, 48, 8⟩
abbrev THERM_RATE_RHYS (i : Nat) : Fld := ⟨THERM_RATE i, 32, 16⟩
abbrev THERM_RATE_RLIM2 (i : Nat) : Fld := ⟨THERM_RATE i, 16, 16⟩
abbrev THERM_RATE_RLIM1 (i : Nat) : Fld := ⟨THERM_RATE i, 0, 16⟩

/-- `0x0A2C THERM_XCHK` (10 R274). -/
abbrev THERM_XCHK : Nat := 0xA2C
abbrev THERM_XCHK_FLOOR : Fld := ⟨THERM_XCHK, 48, 16⟩
abbrev THERM_XCHK_MARGIN : Fld := ⟨THERM_XCHK, 40, 8⟩
abbrev THERM_XCHK_DEV0 : Fld := ⟨THERM_XCHK, 32, 8⟩
abbrev THERM_XCHK_DEV0C : Fld := ⟨THERM_XCHK, 24, 8⟩
abbrev THERM_XCHK_DEVK : Fld := ⟨THERM_XCHK, 0, 16⟩

/-- `0x0A30 THERM_STAT` (10 R274). -/
abbrev THERM_STAT : Nat := 0xA30
abbrev THERM_STAT_BAD : Fld := ⟨THERM_STAT, 52, 12⟩
abbrev THERM_STAT_AXBAND : Fld := ⟨THERM_STAT, 24, 24⟩
abbrev THERM_STAT_RTHR : Fld := ⟨THERM_STAT, 21, 3⟩
abbrev THERM_STAT_THR : Fld := ⟨THERM_STAT, 18, 3⟩
abbrev THERM_STAT_WARN : Fld := ⟨THERM_STAT, 15, 3⟩
abbrev THERM_STAT_SHSRC : Fld := ⟨THERM_STAT, 10, 5⟩
abbrev THERM_STAT_SHUT : Fld := ⟨THERM_STAT, 4, 1⟩
abbrev THERM_STAT_DBAND : Fld := ⟨THERM_STAT, 0, 3⟩

/-- `0x0A31 THERM_SHTIME` (10 R274). -/
abbrev THERM_SHTIME : Nat := 0xA31
abbrev THERM_SHTIME_TIME : Fld := ⟨THERM_SHTIME, 0, 64⟩

/-- `B+0x000 AXn_STATE` (11 R300); offset in the axis block. -/
abbrev AX_STATE : Nat := 0x0
abbrev AX_STATE_CAUSE : Fld := ⟨AX_STATE, 16, 8⟩
abbrev AX_STATE_BADREQ : Fld := ⟨AX_STATE, 8, 8⟩
abbrev AX_STATE_HELD : Fld := ⟨AX_STATE, 4, 1⟩
abbrev AX_STATE_STATE : Fld := ⟨AX_STATE, 0, 3⟩

/-- `B+0x001 AXn_STATEREQ` (11 R300); offset in the axis block. -/
abbrev AX_STATEREQ : Nat := 0x1
abbrev AX_STATEREQ_REQ : Fld := ⟨AX_STATEREQ, 0, 3⟩

/-- `B+0x002 AXn_OASTIME` (11 R300); offset in the axis block. -/
abbrev AX_OASTIME : Nat := 0x2
abbrev AX_OASTIME_TIME : Fld := ⟨AX_OASTIME, 0, 64⟩

/-- `B+0x003 AXn_CTL` (11 R300); offset in the axis block. -/
abbrev AX_CTL : Nat := 0x3
abbrev AX_CTL_CLEAR : Fld := ⟨AX_CTL, 2, 1⟩
abbrev AX_CTL_STOP : Fld := ⟨AX_CTL, 1, 1⟩
abbrev AX_CTL_ENABLE : Fld := ⟨AX_CTL, 0, 1⟩

/-- `B+0x006 AXn_SMCFG` (11 R300); offset in the axis block. -/
abbrev AX_SMCFG : Nat := 0x6
abbrev AX_SMCFG_STOPTMO : Fld := ⟨AX_SMCFG, 16, 16⟩
abbrev AX_SMCFG_CATCHV : Fld := ⟨AX_SMCFG, 0, 12⟩

/-- `B+0x180 AXn_CNT0` (11 R301); offset in the axis block. -/
abbrev AX_CNT0 : Nat := 0x180
abbrev AX_CNT0_HB_CONFLICT : Fld := ⟨AX_CNT0, 48, 16⟩
abbrev AX_CNT0_GATE_STUCK : Fld := ⟨AX_CNT0, 32, 16⟩
abbrev AX_CNT0_DESAT : Fld := ⟨AX_CNT0, 16, 16⟩
abbrev AX_CNT0_OC_TRIP : Fld := ⟨AX_CNT0, 0, 16⟩

/-- `B+0x181 AXn_CNT1` (11 R301); offset in the axis block. -/
abbrev AX_CNT1 : Nat := 0x181
abbrev AX_CNT1_STALL : Fld := ⟨AX_CNT1, 48, 16⟩
abbrev AX_CNT1_ROTOR_LOST : Fld := ⟨AX_CNT1, 32, 16⟩
abbrev AX_CNT1_PULSE_DROPPED : Fld := ⟨AX_CNT1, 16, 16⟩
abbrev AX_CNT1_BST_UV : Fld := ⟨AX_CNT1, 0, 16⟩

/-- `B+0x182 AXn_CNT2` (11 R301); offset in the axis block. -/
abbrev AX_CNT2 : Nat := 0x182
abbrev AX_CNT2_SENSE_MISMATCH : Fld := ⟨AX_CNT2, 48, 16⟩
abbrev AX_CNT2_HALL_INVALID : Fld := ⟨AX_CNT2, 32, 16⟩
abbrev AX_CNT2_ENC_TIMEOUT : Fld := ⟨AX_CNT2, 16, 16⟩
abbrev AX_CNT2_ENC_CRC : Fld := ⟨AX_CNT2, 0, 16⟩

/-- `B+0x183 AXn_CNT3` (11 R301); offset in the axis block. -/
abbrev AX_CNT3 : Nat := 0x183
abbrev AX_CNT3_MEM_UNCORRECTABLE : Fld := ⟨AX_CNT3, 48, 16⟩
abbrev AX_CNT3_ENG_MIGRATED : Fld := ⟨AX_CNT3, 32, 16⟩
abbrev AX_CNT3_ENG_MISMATCH : Fld := ⟨AX_CNT3, 16, 16⟩
abbrev AX_CNT3_MIRAGE_LIMIT : Fld := ⟨AX_CNT3, 0, 16⟩

/-- `B+0x184 AXn_CNT4` (11 R301); offset in the axis block. -/
abbrev AX_CNT4 : Nat := 0x184
abbrev AX_CNT4_CDC_MISMATCH : Fld := ⟨AX_CNT4, 16, 16⟩
abbrev AX_CNT4_MEM_CORRECTED : Fld := ⟨AX_CNT4, 0, 16⟩

/-- `B+0x188 AXn_CNTCLR` (11 R301); offset in the axis block. -/
abbrev AX_CNTCLR : Nat := 0x188
abbrev AX_CNTCLR_CLR : Fld := ⟨AX_CNTCLR, 0, 1⟩

/-- `0x0C00 FAULT_DCNT0` (11 R302). -/
abbrev FAULT_DCNT0 : Nat := 0xC00
abbrev FAULT_DCNT0_CDC_MISMATCH : Fld := ⟨FAULT_DCNT0, 48, 16⟩
abbrev FAULT_DCNT0_REF_LOST : Fld := ⟨FAULT_DCNT0, 32, 16⟩
abbrev FAULT_DCNT0_CLK_SWITCH : Fld := ⟨FAULT_DCNT0, 16, 16⟩
abbrev FAULT_DCNT0_VGD_UV : Fld := ⟨FAULT_DCNT0, 0, 16⟩

/-- `0x0C01 FAULT_DCNT1` (11 R302). -/
abbrev FAULT_DCNT1 : Nat := 0xC01
abbrev FAULT_DCNT1_TEMP_SENSOR_BAD : Fld := ⟨FAULT_DCNT1, 48, 16⟩
abbrev FAULT_DCNT1_TEMP_SHUTDOWN : Fld := ⟨FAULT_DCNT1, 32, 16⟩
abbrev FAULT_DCNT1_TEMP_THROTTLE : Fld := ⟨FAULT_DCNT1, 16, 16⟩
abbrev FAULT_DCNT1_TEMP_WARN : Fld := ⟨FAULT_DCNT1, 0, 16⟩

/-- `0x0C02 FAULT_DCNT2` (11 R302). -/
abbrev FAULT_DCNT2 : Nat := 0xC02
abbrev FAULT_DCNT2_PPS_LOST : Fld := ⟨FAULT_DCNT2, 48, 16⟩
abbrev FAULT_DCNT2_MEM_UNCORRECTABLE : Fld := ⟨FAULT_DCNT2, 32, 16⟩
abbrev FAULT_DCNT2_MEM_CORRECTED : Fld := ⟨FAULT_DCNT2, 16, 16⟩
abbrev FAULT_DCNT2_ENG_MISMATCH : Fld := ⟨FAULT_DCNT2, 0, 16⟩

/-- `0x0C03 FAULT_DCNT3` (11 R302). -/
abbrev FAULT_DCNT3 : Nat := 0xC03
abbrev FAULT_DCNT3_STORE_FAIL : Fld := ⟨FAULT_DCNT3, 48, 16⟩
abbrev FAULT_DCNT3_FUSE_TORN : Fld := ⟨FAULT_DCNT3, 32, 16⟩
abbrev FAULT_DCNT3_FUSE_DRIFT : Fld := ⟨FAULT_DCNT3, 16, 16⟩
abbrev FAULT_DCNT3_FUSE_MARGINAL : Fld := ⟨FAULT_DCNT3, 0, 16⟩

/-- `0x0C04 FAULT_DCNT4` (11 R302). -/
abbrev FAULT_DCNT4 : Nat := 0xC04
abbrev FAULT_DCNT4_ENC_TIMEOUT : Fld := ⟨FAULT_DCNT4, 16, 16⟩
abbrev FAULT_DCNT4_ENC_CRC : Fld := ⟨FAULT_DCNT4, 0, 16⟩

/-- `0x0C08 + 2x FAULT_BUSx0` (11 R302). -/
abbrev FAULT_BUS0 (i : Nat) : Nat := 0xC08 + 2 * i
abbrev FAULT_BUS0_BUS_UV1 (i : Nat) : Fld := ⟨FAULT_BUS0 i, 48, 16⟩
abbrev FAULT_BUS0_BUS_OV3 (i : Nat) : Fld := ⟨FAULT_BUS0 i, 32, 16⟩
abbrev FAULT_BUS0_BUS_OV2 (i : Nat) : Fld := ⟨FAULT_BUS0 i, 16, 16⟩
abbrev FAULT_BUS0_BUS_OV1 (i : Nat) : Fld := ⟨FAULT_BUS0 i, 0, 16⟩

/-- `0x0C09 + 2x FAULT_BUSx1` (11 R302). -/
abbrev FAULT_BUS1 (i : Nat) : Nat := 0xC09 + 2 * i
abbrev FAULT_BUS1_BRK_FAULT (i : Nat) : Fld := ⟨FAULT_BUS1 i, 16, 16⟩
abbrev FAULT_BUS1_BUS_UV2 (i : Nat) : Fld := ⟨FAULT_BUS1 i, 0, 16⟩

/-- `0x0C0C + k FAULT_LINKk` (11 R302). -/
abbrev FAULT_LINK (i : Nat) : Nat := 0xC0C + i
abbrev FAULT_LINK_LINK_CRC (i : Nat) : Fld := ⟨FAULT_LINK i, 16, 16⟩
abbrev FAULT_LINK_LINK_CORRECTED (i : Nat) : Fld := ⟨FAULT_LINK i, 0, 16⟩

/-- `0x0C10 FAULT_CLR` (11 R302). -/
abbrev FAULT_CLR : Nat := 0xC10
abbrev FAULT_CLR_CLR : Fld := ⟨FAULT_CLR, 0, 1⟩

/-- `0x0C12 FAULT_LAST` (11 R302). -/
abbrev FAULT_LAST : Nat := 0xC12
abbrev FAULT_LAST_CODE : Fld := ⟨FAULT_LAST, 32, 8⟩
abbrev FAULT_LAST_UNIT : Fld := ⟨FAULT_LAST, 16, 5⟩
abbrev FAULT_LAST_DETAIL : Fld := ⟨FAULT_LAST, 0, 16⟩

/-- `0x0C13 FAULT_LASTTIME` (11 R302). -/
abbrev FAULT_LASTTIME : Nat := 0xC13
abbrev FAULT_LASTTIME_TIME : Fld := ⟨FAULT_LASTTIME, 0, 64⟩

/-- `0x0C14 FAULT_FNCTL` (11 R302). -/
abbrev FAULT_FNCTL : Nat := 0xC14
abbrev FAULT_FNCTL_FN : Fld := ⟨FAULT_FNCTL, 17, 1⟩
abbrev FAULT_FNCTL_DEVLATCH : Fld := ⟨FAULT_FNCTL, 16, 1⟩
abbrev FAULT_FNCTL_ACK : Fld := ⟨FAULT_FNCTL, 8, 1⟩
abbrev FAULT_FNCTL_AXMASK : Fld := ⟨FAULT_FNCTL, 0, 8⟩

/-- `0x0C15 FAULT_MIGLAST` (11 R302). -/
abbrev FAULT_MIGLAST : Nat := 0xC15
abbrev FAULT_MIGLAST_COUNT : Fld := ⟨FAULT_MIGLAST, 48, 16⟩
abbrev FAULT_MIGLAST_DUR : Fld := ⟨FAULT_MIGLAST, 32, 16⟩
abbrev FAULT_MIGLAST_CAUSE : Fld := ⟨FAULT_MIGLAST, 16, 4⟩
abbrev FAULT_MIGLAST_TO : Fld := ⟨FAULT_MIGLAST, 12, 4⟩
abbrev FAULT_MIGLAST_FROM : Fld := ⟨FAULT_MIGLAST, 8, 4⟩
abbrev FAULT_MIGLAST_RRPTR : Fld := ⟨FAULT_MIGLAST, 4, 3⟩
abbrev FAULT_MIGLAST_AXIS : Fld := ⟨FAULT_MIGLAST, 0, 3⟩

/-- `0x0C16 FAULT_RSTINFO` (11 R302). -/
abbrev FAULT_RSTINFO : Nat := 0xC16
abbrev FAULT_RSTINFO_ABAND : Fld := ⟨FAULT_RSTINFO, 40, 8⟩
abbrev FAULT_RSTINFO_ABSRC : Fld := ⟨FAULT_RSTINFO, 1, 1⟩
abbrev FAULT_RSTINFO_ABLOST : Fld := ⟨FAULT_RSTINFO, 0, 1⟩

/-- `+0x0 HOST_PCFGk` (12 R323). -/
abbrev HOST_PCFG (i : Nat) : Nat := 0x400 + 16 * i
abbrev HOST_PCFG_SGL (i : Nat) : Fld := ⟨HOST_PCFG i, 28, 20⟩
abbrev HOST_PCFG_IRQEN (i : Nat) : Fld := ⟨HOST_PCFG i, 20, 4⟩
abbrev HOST_PCFG_IRQPULSE (i : Nat) : Fld := ⟨HOST_PCFG i, 19, 1⟩
abbrev HOST_PCFG_SVC (i : Nat) : Fld := ⟨HOST_PCFG i, 16, 1⟩
abbrev HOST_PCFG_GEN (i : Nat) : Fld := ⟨HOST_PCFG i, 8, 2⟩
abbrev HOST_PCFG_EN (i : Nat) : Fld := ⟨HOST_PCFG i, 0, 1⟩

/-- `+0x1 HOST_PERMk` (12 R323). -/
abbrev HOST_PERM (i : Nat) : Nat := 0x401 + 16 * i
abbrev HOST_PERM_FCEIL (i : Nat) : Fld := ⟨HOST_PERM i, 48, 6⟩
abbrev HOST_PERM_ACEIL (i : Nat) : Fld := ⟨HOST_PERM i, 32, 16⟩
abbrev HOST_PERM_FUNC (i : Nat) : Fld := ⟨HOST_PERM i, 16, 6⟩
abbrev HOST_PERM_AXIS (i : Nat) : Fld := ⟨HOST_PERM i, 0, 16⟩

/-- `+0x2 HOST_QSTATk` (12 R323). -/
abbrev HOST_QSTAT (i : Nat) : Nat := 0x402 + 16 * i
abbrev HOST_QSTAT_NLOST (i : Nat) : Fld := ⟨HOST_QSTAT i, 48, 16⟩
abbrev HOST_QSTAT_NTF (i : Nat) : Fld := ⟨HOST_QSTAT i, 32, 8⟩
abbrev HOST_QSTAT_LASTREF (i : Nat) : Fld := ⟨HOST_QSTAT i, 16, 8⟩
abbrev HOST_QSTAT_HELD (i : Nat) : Fld := ⟨HOST_QSTAT i, 8, 5⟩
abbrev HOST_QSTAT_SLOTS (i : Nat) : Fld := ⟨HOST_QSTAT i, 0, 5⟩

/-- `0x0440 HOST_OWN` (12 R323). -/
abbrev HOST_OWN : Nat := 0x440
abbrev HOST_OWN_OWNER : Fld := ⟨HOST_OWN, 0, 24⟩

/-- `0x0441 HOST_OWNREQ` (12 R323). -/
abbrev HOST_OWNREQ : Nat := 0x441
abbrev HOST_OWNREQ_OP : Fld := ⟨HOST_OWNREQ, 3, 2⟩
abbrev HOST_OWNREQ_AXIS : Fld := ⟨HOST_OWNREQ, 0, 3⟩

/-- `0x0442 HOST_ARB` (12 R323). -/
abbrev HOST_ARB : Nat := 0x442
abbrev HOST_ARB_NOOWN : Fld := ⟨HOST_ARB, 48, 16⟩
abbrev HOST_ARB_TOKEN : Fld := ⟨HOST_ARB, 0, 2⟩

/-- `0x0448 HOST_UART` (12 R323). -/
abbrev HOST_UART : Nat := 0x448
abbrev HOST_UART_BDIV : Fld := ⟨HOST_UART, 0, 16⟩

/-- `0x0450 HOST_CANBT` (12 R323). -/
abbrev HOST_CANBT : Nat := 0x450
abbrev HOST_CANBT_ABOR : Fld := ⟨HOST_CANBT, 62, 1⟩
abbrev HOST_CANBT_BRSEN : Fld := ⟨HOST_CANBT, 61, 1⟩
abbrev HOST_CANBT_FDEN : Fld := ⟨HOST_CANBT, 60, 1⟩
abbrev HOST_CANBT_TDCO : Fld := ⟨HOST_CANBT, 53, 7⟩
abbrev HOST_CANBT_TDCEN : Fld := ⟨HOST_CANBT, 52, 1⟩
abbrev HOST_CANBT_DSJW : Fld := ⟨HOST_CANBT, 48, 4⟩
abbrev HOST_CANBT_DTSEG2 : Fld := ⟨HOST_CANBT, 44, 4⟩
abbrev HOST_CANBT_DTSEG1 : Fld := ⟨HOST_CANBT, 39, 5⟩
abbrev HOST_CANBT_DBRP : Fld := ⟨HOST_CANBT, 33, 6⟩
abbrev HOST_CANBT_NSJW : Fld := ⟨HOST_CANBT, 26, 7⟩
abbrev HOST_CANBT_NTSEG2 : Fld := ⟨HOST_CANBT, 19, 7⟩
abbrev HOST_CANBT_NTSEG1 : Fld := ⟨HOST_CANBT, 11, 8⟩
abbrev HOST_CANBT_NBRP : Fld := ⟨HOST_CANBT, 5, 6⟩

/-- `0x0451 HOST_CANID` (12 R323). -/
abbrev HOST_CANID : Nat := 0x451
abbrev HOST_CANID_XTD : Fld := ⟨HOST_CANID, 61, 1⟩
abbrev HOST_CANID_TXID : Fld := ⟨HOST_CANID, 32, 29⟩
abbrev HOST_CANID_RXID : Fld := ⟨HOST_CANID, 0, 29⟩

/-- `0x0452 HOST_CANSTAT` (12 R323). -/
abbrev HOST_CANSTAT : Nat := 0x452
abbrev HOST_CANSTAT_STATE : Fld := ⟨HOST_CANSTAT, 16, 2⟩
abbrev HOST_CANSTAT_REC : Fld := ⟨HOST_CANSTAT, 8, 8⟩
abbrev HOST_CANSTAT_TEC : Fld := ⟨HOST_CANSTAT, 0, 8⟩

/-- `0x2430 + n ENGINE_CARn` (13 R350). -/
abbrev ENGINE_CAR (i : Nat) : Nat := 0x2430 + i
abbrev ENGINE_CAR_VERSION (i : Nat) : Fld := ⟨ENGINE_CAR i, 32, 16⟩
abbrev ENGINE_CAR_LEVEL (i : Nat) : Fld := ⟨ENGINE_CAR i, 24, 8⟩
abbrev ENGINE_CAR_AUTH (i : Nat) : Fld := ⟨ENGINE_CAR i, 16, 1⟩
abbrev ENGINE_CAR_SRC (i : Nat) : Fld := ⟨ENGINE_CAR i, 0, 2⟩

/-- `0x2438 ENGINE_LEVEL` (13 R350). -/
abbrev ENGINE_LEVEL : Nat := 0x2438
abbrev ENGINE_LEVEL_MAX : Fld := ⟨ENGINE_LEVEL, 8, 8⟩
abbrev ENGINE_LEVEL_MIN : Fld := ⟨ENGINE_LEVEL, 0, 8⟩

/-- `0x0900 CISTERN_CFG` (14 R371). -/
abbrev CISTERN_CFG : Nat := 0x900
abbrev CISTERN_CFG_SCKDIV : Fld := ⟨CISTERN_CFG, 8, 6⟩
abbrev CISTERN_CFG_RSDLY : Fld := ⟨CISTERN_CFG, 0, 3⟩

/-- `0x0901 CISTERN_GEOM` (14 R371). -/
abbrev CISTERN_GEOM : Nat := 0x901
abbrev CISTERN_GEOM_USERMB : Fld := ⟨CISTERN_GEOM, 52, 12⟩
abbrev CISTERN_GEOM_LOGMB : Fld := ⟨CISTERN_GEOM, 40, 12⟩
abbrev CISTERN_GEOM_BLKS1 : Fld := ⟨CISTERN_GEOM, 23, 17⟩
abbrev CISTERN_GEOM_BLKS0 : Fld := ⟨CISTERN_GEOM, 6, 17⟩
abbrev CISTERN_GEOM_PPB : Fld := ⟨CISTERN_GEOM, 1, 1⟩
abbrev CISTERN_GEOM_PAGE : Fld := ⟨CISTERN_GEOM, 0, 1⟩

/-- `0x0902 CISTERN_STAT` (14 R371). -/
abbrev CISTERN_STAT : Nat := 0x902
abbrev CISTERN_STAT_BAD : Fld := ⟨CISTERN_STAT, 48, 16⟩
abbrev CISTERN_STAT_RESV : Fld := ⟨CISTERN_STAT, 32, 16⟩
abbrev CISTERN_STAT_LIFERDY : Fld := ⟨CISTERN_STAT, 11, 1⟩
abbrev CISTERN_STAT_BVALB : Fld := ⟨CISTERN_STAT, 10, 1⟩
abbrev CISTERN_STAT_BVALA : Fld := ⟨CISTERN_STAT, 9, 1⟩
abbrev CISTERN_STAT_CUR : Fld := ⟨CISTERN_STAT, 8, 1⟩
abbrev CISTERN_STAT_STATE : Fld := ⟨CISTERN_STAT, 0, 3⟩

/-- `0x0903 CISTERN_CTL` (14 R371). -/
abbrev CISTERN_CTL : Nat := 0x903
abbrev CISTERN_CTL_FORMAT : Fld := ⟨CISTERN_CTL, 17, 1⟩
abbrev CISTERN_CTL_REMOUNT : Fld := ⟨CISTERN_CTL, 16, 1⟩
abbrev CISTERN_CTL_KEY : Fld := ⟨CISTERN_CTL, 0, 16⟩

/-- `0x0904 CISTERN_TRCFG` (14 R371). -/
abbrev CISTERN_TRCFG : Nat := 0x904
abbrev CISTERN_TRCFG_EN : Fld := ⟨CISTERN_TRCFG, 0, 8⟩

/-- `0x0905 CISTERN_TRDEC` (14 R371). -/
abbrev CISTERN_TRDEC : Nat := 0x905
abbrev CISTERN_TRDEC_DEC : Fld := ⟨CISTERN_TRDEC, 0, 64⟩

/-- `0x0906 CISTERN_TRSTAT` (14 R371). -/
abbrev CISTERN_TRSTAT : Nat := 0x906
abbrev CISTERN_TRSTAT_OVF : Fld := ⟨CISTERN_TRSTAT, 32, 32⟩
abbrev CISTERN_TRSTAT_FILL : Fld := ⟨CISTERN_TRSTAT, 0, 16⟩

/-- `0x0908 + p CISTERN_LOSTp` (14 R371). -/
abbrev CISTERN_LOST (i : Nat) : Nat := 0x908 + i
abbrev CISTERN_LOST_RECORDS (i : Nat) : Fld := ⟨CISTERN_LOST i, 32, 32⟩

/-- `0x0910 CISTERN_ERR` (14 R371). -/
abbrev CISTERN_ERR : Nat := 0x910
abbrev CISTERN_ERR_CAUSE : Fld := ⟨CISTERN_ERR, 56, 8⟩
abbrev CISTERN_ERR_PART : Fld := ⟨CISTERN_ERR, 53, 3⟩
abbrev CISTERN_ERR_CS : Fld := ⟨CISTERN_ERR, 48, 1⟩
abbrev CISTERN_ERR_BLOCK : Fld := ⟨CISTERN_ERR, 31, 17⟩
abbrev CISTERN_ERR_PAGE : Fld := ⟨CISTERN_ERR, 24, 7⟩

/-- `0x0911 CISTERN_ERRTIME` (14 R371). -/
abbrev CISTERN_ERRTIME : Nat := 0x911
abbrev CISTERN_ERRTIME_TIME : Fld := ⟨CISTERN_ERRTIME, 0, 64⟩

/-- `0x0912 CISTERN_WEAR` (14 R371). -/
abbrev CISTERN_WEAR : Nat := 0x912
abbrev CISTERN_WEAR_MAXE : Fld := ⟨CISTERN_WEAR, 32, 32⟩
abbrev CISTERN_WEAR_MINE : Fld := ⟨CISTERN_WEAR, 0, 32⟩

/-- `0x0913 CISTERN_ADM` (14 R371). -/
abbrev CISTERN_ADM : Nat := 0x913
abbrev CISTERN_ADM_HOLDER : Fld := ⟨CISTERN_ADM, 0, 3⟩

/-- `0x0914 + b CISTERN_BOOTb` (14 R371). -/
abbrev CISTERN_BOOT (i : Nat) : Nat := 0x914 + i
abbrev CISTERN_BOOT_GEN (i : Nat) : Fld := ⟨CISTERN_BOOT i, 32, 16⟩
abbrev CISTERN_BOOT_LEVEL (i : Nat) : Fld := ⟨CISTERN_BOOT i, 24, 8⟩
abbrev CISTERN_BOOT_VERSION (i : Nat) : Fld := ⟨CISTERN_BOOT i, 8, 16⟩
abbrev CISTERN_BOOT_AUTH (i : Nat) : Fld := ⟨CISTERN_BOOT i, 1, 1⟩
abbrev CISTERN_BOOT_VALID (i : Nat) : Fld := ⟨CISTERN_BOOT i, 0, 1⟩

/-- `0x0800 FUSE_CMD` (15 R390). -/
abbrev FUSE_CMD : Nat := 0x800
abbrev FUSE_CMD_CNT : Fld := ⟨FUSE_CMD, 8, 3⟩
abbrev FUSE_CMD_OP : Fld := ⟨FUSE_CMD, 0, 2⟩

/-- `0x0801 FUSE_ADDR` (15 R390). -/
abbrev FUSE_ADDR : Nat := 0x801
abbrev FUSE_ADDR_MARGIN : Fld := ⟨FUSE_ADDR, 8, 2⟩
abbrev FUSE_ADDR_ADDR : Fld := ⟨FUSE_ADDR, 0, 8⟩

/-- `0x0802 to 0x0807 FUSE_DATA0 to 5` (15 R390). -/
abbrev FUSE_DATA (i : Nat) : Nat := 0x802 + i
abbrev FUSE_DATA_DATA (i : Nat) : Fld := ⟨FUSE_DATA i, 0, 64⟩

/-- `0x0808 FUSE_RES` (15 R390). -/
abbrev FUSE_RES : Nat := 0x808
abbrev FUSE_RES_CHECK : Fld := ⟨FUSE_RES, 56, 8⟩
abbrev FUSE_RES_FIRSTW : Fld := ⟨FUSE_RES, 48, 8⟩
abbrev FUSE_RES_DONE : Fld := ⟨FUSE_RES, 40, 3⟩
abbrev FUSE_RES_REASON : Fld := ⟨FUSE_RES, 0, 4⟩

/-- `0x0809 FUSE_RDATA` (15 R390). -/
abbrev FUSE_RDATA : Nat := 0x809
abbrev FUSE_RDATA_DATA : Fld := ⟨FUSE_RDATA, 0, 64⟩

/-- `0x080A FUSE_STAT` (15 R390). -/
abbrev FUSE_STAT : Nat := 0x80A
abbrev FUSE_STAT_NEXT : Fld := ⟨FUSE_STAT, 56, 8⟩
abbrev FUSE_STAT_SLEFT : Fld := ⟨FUSE_STAT, 48, 8⟩
abbrev FUSE_STAT_LOCKEND : Fld := ⟨FUSE_STAT, 40, 8⟩
abbrev FUSE_STAT_ISEAL : Fld := ⟨FUSE_STAT, 38, 2⟩
abbrev FUSE_STAT_VSEAL : Fld := ⟨FUSE_STAT, 36, 2⟩
abbrev FUSE_STAT_KEY : Fld := ⟨FUSE_STAT, 35, 1⟩
abbrev FUSE_STAT_BUSY : Fld := ⟨FUSE_STAT, 34, 1⟩
abbrev FUSE_STAT_PROGOK : Fld := ⟨FUSE_STAT, 33, 1⟩
abbrev FUSE_STAT_TORN : Fld := ⟨FUSE_STAT, 24, 8⟩
abbrev FUSE_STAT_MARG : Fld := ⟨FUSE_STAT, 16, 8⟩
abbrev FUSE_STAT_CORR : Fld := ⟨FUSE_STAT, 8, 8⟩

/-- `0x0810 + f FUSE_FLDf` (15 R390). -/
abbrev FUSE_FLD (i : Nat) : Nat := 0x810 + i
abbrev FUSE_FLD_SET (i : Nat) : Fld := ⟨FUSE_FLD i, 63, 1⟩
abbrev FUSE_FLD_WORD (i : Nat) : Fld := ⟨FUSE_FLD i, 48, 8⟩
abbrev FUSE_FLD_VALUE (i : Nat) : Fld := ⟨FUSE_FLD i, 0, 48⟩

/-- `0x0030 SYS_RSTINFO` (16 R406). -/
abbrev SYS_RSTINFO : Nat := 0x30
abbrev SYS_RSTINFO_COUNT : Fld := ⟨SYS_RSTINFO, 16, 16⟩
abbrev SYS_RSTINFO_DETAIL : Fld := ⟨SYS_RSTINFO, 4, 4⟩
abbrev SYS_RSTINFO_SRC : Fld := ⟨SYS_RSTINFO, 0, 4⟩

/-- `0x0031 SYS_PWRMON` (16 R406). -/
abbrev SYS_PWRMON : Nat := 0x31
abbrev SYS_PWRMON_VCORE : Fld := ⟨SYS_PWRMON, 48, 16⟩
abbrev SYS_PWRMON_V33 : Fld := ⟨SYS_PWRMON, 32, 16⟩
abbrev SYS_PWRMON_VGD : Fld := ⟨SYS_PWRMON, 16, 16⟩
abbrev SYS_PWRMON_VSUP : Fld := ⟨SYS_PWRMON, 0, 16⟩

/-- `0x0032 SYS_PWRSTAT` (16 R406). -/
abbrev SYS_PWRSTAT : Nat := 0x32
abbrev SYS_PWRSTAT_VIOSEL : Fld := ⟨SYS_PWRSTAT, 8, 1⟩
abbrev SYS_PWRSTAT_VIOOK : Fld := ⟨SYS_PWRSTAT, 4, 1⟩
abbrev SYS_PWRSTAT_V33OK : Fld := ⟨SYS_PWRSTAT, 3, 1⟩
abbrev SYS_PWRSTAT_VCOREOK : Fld := ⟨SYS_PWRSTAT, 2, 1⟩

/-- `0x0033 SYS_BOOT` (16 R406). -/
abbrev SYS_BOOT : Nat := 0x33
abbrev SYS_BOOT_TRDY : Fld := ⟨SYS_BOOT, 48, 16⟩
abbrev SYS_BOOT_AUTOAX : Fld := ⟨SYS_BOOT, 40, 8⟩
abbrev SYS_BOOT_LOADAX : Fld := ⟨SYS_BOOT, 32, 8⟩
abbrev SYS_BOOT_STATUS : Fld := ⟨SYS_BOOT, 24, 8⟩
abbrev SYS_BOOT_BANK : Fld := ⟨SYS_BOOT, 16, 2⟩
abbrev SYS_BOOT_STEP : Fld := ⟨SYS_BOOT, 0, 3⟩

/-- `0x0034 SYS_STBY` (16 R406). -/
abbrev SYS_STBY : Nat := 0x34
abbrev SYS_STBY_ENTER : Fld := ⟨SYS_STBY, 8, 1⟩
abbrev SYS_STBY_MODE : Fld := ⟨SYS_STBY, 0, 1⟩

/-- `0x0035 SYS_AONCNT` (16 R406). -/
abbrev SYS_AONCNT : Nat := 0x35
abbrev SYS_AONCNT_COUNT : Fld := ⟨SYS_AONCNT, 0, 48⟩

/-- `0x0036 SYS_WAKE` (16 R406). -/
abbrev SYS_WAKE : Nat := 0x36
abbrev SYS_WAKE_CMP : Fld := ⟨SYS_WAKE, 0, 48⟩

/-- The registers of one axis block by offset (part 0). -/
def axRows0 : List RegRow := [
  ⟨0x4, 1, 1, 0xFA0, 0xFFFFFFFF, 0x0, 0x0, 0xFFFFFFFF⟩,
  ⟨0x5, 1, 1, 0xC800000, 0x0, 0x0, 0x0, 0x0⟩,
  ⟨0x8, 1, 1, 0x0, 0x0, 0x0, 0x1, 0x1⟩,
  ⟨0x10, 1, 16, 0x0, 0xFFFFFFFFFFFFFFFF, 0x0, 0x0, 0xFFFFFFFFFFFFFFFF⟩,
  ⟨0x20, 1, 32, 0x0, 0x0, 0x0, 0x0, 0x0⟩,
  ⟨0xF0, 1, 1, 0x12C007D00001, 0xFFFFFFFF000F, 0x0, 0x0, 0xFFFFFFFF000F⟩,
  ⟨0xF1, 1, 1, 0xE9231B002FEFD9, 0xFFFFFFFFFFFFFFFF, 0x0, 0x0, 0xFFFFFFFFFFFFFFFF⟩,
  ⟨0xF2, 1, 1, 0x0, 0xFFFFFFFFFFFF, 0x0, 0x0, 0xFFFFFFFFFFFF⟩,
  ⟨0xF3, 1, 1, 0x0, 0x0, 0x0, 0x0, 0x0⟩,
  ⟨0xF4, 1, 1, 0x800080008000, 0x0, 0x0, 0x0, 0x0⟩,
  ⟨0xF5, 1, 1, 0x0, 0x3FFFFFFFFFF, 0x0, 0x0, 0x3FFFFFFFFFF⟩,
  ⟨0xF6, 1, 1, 0x0, 0xFFFFFFFF, 0x0, 0x0, 0x0⟩,
  ⟨0xC0, 1, 1, 0x3E80A030900, 0xFFFF3FF70F01, 0x0, 0x0, 0xFFFF3FF70F01⟩,
  ⟨0xC1, 1, 1, 0x500333, 0xFFFFFFFF, 0x0, 0x0, 0xFFFFFFFF⟩,
  ⟨0xC2, 1, 1, 0x0, 0xFFFFFFFFFFFFFFF, 0x0, 0x0, 0x0⟩,
  ⟨0xC4, 1, 1, 0x0, 0x0, 0x0, 0x0, 0x0⟩,
  ⟨0xC5, 1, 1, 0x0, 0x0, 0x0, 0x0, 0x0⟩,
  ⟨0xC8, 1, 1, 0x0, 0x0, 0x0, 0x0, 0x0⟩,
  ⟨0xC9, 1, 1, 0x0, 0x0, 0x0, 0x0, 0x0⟩,
  ⟨0x100, 1, 1, 0xA050000, 0xFF3F0133, 0x0, 0x0, 0xFF3F0133⟩,
  ⟨0x101, 1, 1, 0xEEC287, 0xFFFFFFFF00FFFFFF, 0x0, 0x0, 0xFFFFFFFF00FFFFFF⟩,
  ⟨0x102, 1, 1, 0x6403E8F000FFFF, 0xFF0FFFFFFFFFFF, 0x0, 0x0, 0xFF0FFFFFFFFFFF⟩,
  ⟨0x104, 1, 1, 0x700000000, 0x0, 0x0, 0x0, 0x0⟩,
  ⟨0x105, 1, 1, 0x400000000, 0x0, 0x0, 0x0, 0x0⟩
]

/-- The registers of one axis block by offset (part 1). -/
def axRows1 : List RegRow := [
  ⟨0x106, 1, 1, 0x0, 0xFFFFFFFF, 0x0, 0x0, 0x0⟩,
  ⟨0x108, 1, 1, 0x303E80032, 0x7FFFFFFFF, 0x0, 0x10000000000, 0x107FFFFFFFF⟩,
  ⟨0x109, 1, 1, 0x0, 0x0, 0x0, 0x1, 0x1⟩,
  ⟨0x40, 1, 1, 0xA410004E20, 0xFFF3FCFFFFF, 0x0, 0x0, 0xFFF3FCFFFFF⟩,
  ⟨0x41, 1, 1, 0x1020000000280050, 0x3FFFFFFF03FF03FF, 0x0, 0x0, 0x3FFFFFFF03FF03FF⟩,
  ⟨0x42, 1, 1, 0x0, 0x77, 0x0, 0x0, 0x77⟩,
  ⟨0x43, 1, 1, 0xA00010, 0x3FF00FF, 0x0, 0x0, 0x3FF00FF⟩,
  ⟨0x44, 1, 1, 0x0, 0x1FFF, 0x0, 0x0, 0x0⟩,
  ⟨0x45, 1, 1, 0x8496121A4, 0xFFFFFFFFF, 0x0, 0x0, 0xFFFFFFFFF⟩,
  ⟨0x46, 1, 1, 0x0, 0x73C, 0x0, 0x2, 0x730⟩,
  ⟨0x48, 1, 4, 0x280000000000, 0xFF330000FFFF, 0x0, 0x0, 0xFF3300000000⟩,
  ⟨0x4C, 1, 1, 0x0, 0x0, 0x0, 0x0, 0x0⟩,
  ⟨0x4D, 1, 1, 0x4E2040000000, 0x3FFFF00000000, 0x0, 0x0, 0x3FFFF00000000⟩,
  ⟨0x4E, 1, 1, 0x0, 0x0, 0x0, 0x0, 0x0⟩,
  ⟨0x80, 1, 2, 0x320D4D00008888, 0xFF0FFF0000FFFF, 0x0, 0x0, 0xFF0FFF0000FFFF⟩,
  ⟨0x82, 1, 1, 0x3C0D4D00008888, 0xFF0FFF0000FFFF, 0x0, 0x0, 0xFF0FFF0000FFFF⟩,
  ⟨0x83, 1, 1, 0x500D4D00008888, 0xFF0FFF0000FFFF, 0x0, 0x0, 0xFF0FFF0000FFFF⟩,
  ⟨0x84, 1, 1, 0x640D4D00008888, 0xFF0FFF0000FFFF, 0x0, 0x0, 0xFF0FFF0000FFFF⟩,
  ⟨0x88, 1, 1, 0xA00081E1800, 0xFF00FFFF3F01, 0x0, 0x0, 0xFF00FFFF3F01⟩,
  ⟨0x89, 1, 1, 0x550009901, 0xFFFF00FF01, 0x0, 0x0, 0xFFFF00FF01⟩,
  ⟨0x8A, 1, 1, 0xFFFF60001E020000, 0xFFFFFFFFFF0F0F0F, 0x0, 0x0, 0xFFFFFFFFFF0F0F0F⟩,
  ⟨0x8B, 1, 1, 0xA14000000, 0xFFFFFFFF03, 0x0, 0x0, 0xFFFFFFFF03⟩,
  ⟨0x90, 1, 1, 0x0, 0x0, 0x0, 0x0, 0x0⟩,
  ⟨0x0, 1, 1, 0x0, 0x0, 0x0, 0x0, 0x0⟩
]

/-- The registers of one axis block by offset (part 2). -/
def axRows2 : List RegRow := [
  ⟨0x1, 1, 1, 0x0, 0x7, 0x0, 0x0, 0x0⟩,
  ⟨0x2, 1, 1, 0x0, 0x0, 0x0, 0x0, 0x0⟩,
  ⟨0x3, 1, 1, 0x0, 0x0, 0x0, 0x7, 0x7⟩,
  ⟨0x6, 1, 1, 0x13880028, 0xFFFF0FFF, 0x0, 0x0, 0xFFFF0FFF⟩,
  ⟨0x180, 1, 1, 0x0, 0x0, 0x0, 0x0, 0x0⟩,
  ⟨0x181, 1, 1, 0x0, 0x0, 0x0, 0x0, 0x0⟩,
  ⟨0x182, 1, 1, 0x0, 0x0, 0x0, 0x0, 0x0⟩,
  ⟨0x183, 1, 1, 0x0, 0x0, 0x0, 0x0, 0x0⟩,
  ⟨0x184, 1, 1, 0x0, 0x0, 0x0, 0x0, 0x0⟩,
  ⟨0x188, 1, 1, 0x0, 0x0, 0x0, 0x1, 0x1⟩
]

/-- The registers of one axis block by offset, whole. -/
def axRows : List RegRow := axRows0 ++ axRows1 ++ axRows2

/-- The registers outside the axis blocks by address (part 0). -/
def devRows0 : List RegRow := [
  ⟨0x10, 1, 1, 0xAAAAAAAAAAAAA, 0x0, 0x0, 0x0, 0x0⟩,
  ⟨0x11, 1, 1, 0x8AA, 0x0, 0x0, 0x0, 0x0⟩,
  ⟨0x12, 1, 1, 0x0, 0xFF, 0x0, 0x0, 0x0⟩,
  ⟨0x14, 1, 1, 0x6, 0x0, 0x300, 0x0, 0x0⟩,
  ⟨0x15, 1, 1, 0x2, 0x2, 0x0, 0x5, 0x0⟩,
  ⟨0x20, 1, 1, 0x0, 0x0, 0x0, 0x0, 0x0⟩,
  ⟨0x21, 1, 1, 0x0, 0x7FFFFFFFFFFFF, 0x0, 0x0, 0x0⟩,
  ⟨0x22, 1, 1, 0x0, 0xFFFFFFFF, 0x0, 0x0, 0x0⟩,
  ⟨0x23, 1, 1, 0x0, 0x0, 0x0, 0x0, 0x0⟩,
  ⟨0x24, 1, 1, 0x0, 0x0, 0x0, 0xFFFFFFFFFFFFFFFF, 0x0⟩,
  ⟨0x2400, 1, 1, 0x9000000, 0x0, 0x0, 0x0, 0x0⟩,
  ⟨0x2401, 1, 1, 0x76543210, 0x0, 0x0, 0x0, 0x0⟩,
  ⟨0x2402, 1, 1, 0x64, 0xFFFF, 0x0, 0x0, 0x0⟩,
  ⟨0x2404, 1, 1, 0x0, 0x7, 0x0, 0x70, 0x0⟩,
  ⟨0x2405, 1, 1, 0x0, 0x0, 0x0, 0x0, 0x0⟩,
  ⟨0x2408, 1, 4, 0x0, 0x1FFFF, 0x0, 0x0, 0x0⟩,
  ⟨0x2410, 1, 1, 0x0, 0x3F, 0x0, 0x0, 0x0⟩,
  ⟨0x2411, 1, 1, 0x0, 0xFFFFFFFFFFFFFFFF, 0x0, 0x0, 0x0⟩,
  ⟨0x2418, 1, 1, 0x0, 0x0, 0x0, 0x0, 0x0⟩,
  ⟨0x2420, 1, 8, 0x0, 0x0, 0x0, 0x10000000000, 0x0⟩,
  ⟨0x40, 1, 8, 0x0, 0x0, 0x0, 0x0, 0x0⟩,
  ⟨0x2000, 16, 4, 0x100430400, 0x1FFFF03FF06F3, 0x0, 0x0, 0x1FFFF03FF06F3⟩,
  ⟨0x2001, 16, 4, 0x28002000A00000C7, 0xFFFF3F3FBFFF07FF, 0x0, 0x0, 0xFFFF3F3FBFFF07FF⟩,
  ⟨0x2002, 16, 4, 0x0, 0xFFFF001FFFFF, 0x0, 0x0, 0xFFFF001FFFFF⟩
]

/-- The registers outside the axis blocks by address (part 1). -/
def devRows1 : List RegRow := [
  ⟨0x2003, 16, 4, 0x0, 0xFFFFFFFF, 0x0, 0x0, 0xFFFFFFFF⟩,
  ⟨0x2004, 16, 4, 0x0, 0x0, 0x0, 0x1, 0x0⟩,
  ⟨0x2008, 16, 4, 0x0, 0x0, 0x0, 0x0, 0x0⟩,
  ⟨0x2009, 16, 4, 0x0, 0x0, 0x0, 0x0, 0x0⟩,
  ⟨0x200A, 16, 4, 0x0, 0x0, 0x0, 0x0, 0x0⟩,
  ⟨0x2100, 4, 4, 0x40000, 0x3F0F3F, 0x0, 0x0, 0x3F0F3F⟩,
  ⟨0x2101, 4, 4, 0x0, 0x0, 0x0, 0x0, 0x0⟩,
  ⟨0x2102, 4, 4, 0x0, 0x0, 0x0, 0x0, 0x0⟩,
  ⟨0x2200, 4, 2, 0x40000000100, 0x1FFFF00000373, 0x0, 0x0, 0x1FFFF00000373⟩,
  ⟨0x2201, 4, 2, 0x0, 0x0, 0x0, 0x0, 0x0⟩,
  ⟨0xB00, 1, 1, 0x0, 0x0, 0x0, 0x0, 0x0⟩,
  ⟨0xB10, 16, 2, 0xA2588EA1C, 0xFF3FFFFFFF, 0x0, 0x0, 0xFF3FFFFFFF⟩,
  ⟨0xB11, 16, 2, 0x4000000A00050190, 0xFFFF00FF000FFFFF, 0x0, 0x0, 0xFFFF00FF000FFFFF⟩,
  ⟨0xB12, 16, 2, 0x14800140005, 0xFFFFFFFF00FF, 0x0, 0x0, 0xFFFFFFFF00FF⟩,
  ⟨0xB13, 16, 2, 0x3C19322888004E20, 0xFFFFFFFFFF3FFFFF, 0x0, 0x0, 0xFFFFFFFFFF3FFFFF⟩,
  ⟨0xB14, 16, 2, 0x8000000000000000, 0x0, 0x0, 0x0, 0x0⟩,
  ⟨0xB15, 16, 2, 0x0, 0x0, 0x0, 0x3, 0x3⟩,
  ⟨0xA00, 1, 12, 0x0, 0x0, 0x0, 0x0, 0x0⟩,
  ⟨0xA10, 1, 8, 0x0, 0x0, 0x0, 0x0, 0x0⟩,
  ⟨0xA20, 1, 1, 0x400003E800FF0D6B, 0xFFFFFFFF00FFFFFF, 0x0, 0x0, 0xFFFFFFFF00FFFFFF⟩,
  ⟨0xA24, 1, 2, 0xA00000A04DA4518, 0xFF00000FFFFFFFFF, 0x0, 0x0, 0xFF00000FFFFFFFFF⟩,
  ⟨0xA26, 1, 1, 0xA00000823C1A4C8, 0xFF00000FFFFFFFFF, 0x0, 0x0, 0xFF00000FFFFFFFFF⟩,
  ⟨0xA28, 1, 3, 0xA001400C80064, 0x3FFFFFFFFFFFFFF, 0x0, 0x0, 0x3FFFFFFFFFFFFFF⟩,
  ⟨0xA2C, 1, 1, 0x2000141010000005, 0xFFFFFFFFFF00FFFF, 0x0, 0x0, 0xFFFFFFFFFF00FFFF⟩
]

/-- The registers outside the axis blocks by address (part 2). -/
def devRows2 : List RegRow := [
  ⟨0xA30, 1, 1, 0x249249007C01, 0x0, 0x0, 0x0, 0x0⟩,
  ⟨0xA31, 1, 1, 0x0, 0x0, 0x0, 0x0, 0x0⟩,
  ⟨0xC00, 1, 1, 0x0, 0x0, 0x0, 0x0, 0x0⟩,
  ⟨0xC01, 1, 1, 0x0, 0x0, 0x0, 0x0, 0x0⟩,
  ⟨0xC02, 1, 1, 0x0, 0x0, 0x0, 0x0, 0x0⟩,
  ⟨0xC03, 1, 1, 0x0, 0x0, 0x0, 0x0, 0x0⟩,
  ⟨0xC04, 1, 1, 0x0, 0x0, 0x0, 0x0, 0x0⟩,
  ⟨0xC08, 2, 2, 0x0, 0x0, 0x0, 0x0, 0x0⟩,
  ⟨0xC09, 2, 2, 0x0, 0x0, 0x0, 0x0, 0x0⟩,
  ⟨0xC0C, 1, 4, 0x0, 0x0, 0x0, 0x0, 0x0⟩,
  ⟨0xC10, 1, 1, 0x0, 0x0, 0x0, 0x1, 0x0⟩,
  ⟨0xC12, 1, 1, 0x0, 0x0, 0x0, 0x0, 0x0⟩,
  ⟨0xC13, 1, 1, 0x0, 0x0, 0x0, 0x0, 0x0⟩,
  ⟨0xC14, 1, 1, 0xFF, 0xFF, 0x0, 0x100, 0x0⟩,
  ⟨0xC15, 1, 1, 0x0, 0x0, 0x0, 0x0, 0x0⟩,
  ⟨0xC16, 1, 1, 0x0, 0x0, 0x0, 0x0, 0x0⟩,
  ⟨0x400, 16, 3, 0x3E80100301, 0xFFFFF0F80001, 0x0, 0x0, 0x0⟩,
  ⟨0x430, 16, 1, 0x3E80110301, 0xFFFFF0F80001, 0x0, 0x0, 0x0⟩,
  ⟨0x401, 16, 4, 0x3FAAAA003FAAAA, 0x3FFFFF, 0x0, 0x0, 0x0⟩,
  ⟨0x402, 16, 4, 0x0, 0x0, 0x0, 0x0, 0x0⟩,
  ⟨0x440, 1, 1, 0xFFFFFF, 0x0, 0x0, 0x0, 0x0⟩,
  ⟨0x441, 1, 1, 0x0, 0x0, 0x0, 0x1F, 0x0⟩,
  ⟨0x442, 1, 1, 0x0, 0x0, 0x0, 0x0, 0x0⟩,
  ⟨0x448, 1, 1, 0x6C82, 0xFFFF, 0x0, 0x0, 0x0⟩
]

/-- The registers outside the axis blocks by address (part 3). -/
def devRows3 : List RegRow := [
  ⟨0x450, 1, 1, 0x721447844081F840, 0x7FFFFFFFFFFFFFE0, 0x0, 0x0, 0x0⟩,
  ⟨0x451, 1, 1, 0x64100000640, 0x3FFFFFFF1FFFFFFF, 0x0, 0x0, 0x0⟩,
  ⟨0x452, 1, 1, 0x0, 0x0, 0x0, 0x0, 0x0⟩,
  ⟨0x2430, 1, 8, 0x0, 0x0, 0x0, 0x0, 0x0⟩,
  ⟨0x2438, 1, 1, 0x0, 0x0, 0x0, 0x0, 0x0⟩,
  ⟨0x900, 1, 1, 0x102, 0x3F07, 0x0, 0x0, 0x3F07⟩,
  ⟨0x901, 1, 1, 0x400400000000000, 0x0, 0x0, 0x0, 0x0⟩,
  ⟨0x902, 1, 1, 0x0, 0x0, 0x0, 0x0, 0x0⟩,
  ⟨0x903, 1, 1, 0x0, 0x0, 0x0, 0x3FFFF, 0x3FFFF⟩,
  ⟨0x904, 1, 1, 0xFF, 0xFF, 0x0, 0x0, 0xFF⟩,
  ⟨0x905, 1, 1, 0x0, 0xFFFFFFFFFFFFFFFF, 0x0, 0x0, 0xFFFFFFFFFFFFFFFF⟩,
  ⟨0x906, 1, 1, 0x0, 0x0, 0x0, 0x0, 0x0⟩,
  ⟨0x908, 1, 5, 0x0, 0x0, 0x0, 0x0, 0x0⟩,
  ⟨0x910, 1, 1, 0x0, 0x0, 0x0, 0x0, 0x0⟩,
  ⟨0x911, 1, 1, 0x0, 0x0, 0x0, 0x0, 0x0⟩,
  ⟨0x912, 1, 1, 0x0, 0x0, 0x0, 0x0, 0x0⟩,
  ⟨0x913, 1, 1, 0x7, 0x0, 0x0, 0x0, 0x0⟩,
  ⟨0x914, 1, 2, 0x0, 0x0, 0x0, 0x0, 0x0⟩,
  ⟨0x800, 1, 1, 0x0, 0x0, 0x0, 0x703, 0x703⟩,
  ⟨0x801, 1, 1, 0x0, 0x3FF, 0x0, 0x0, 0x3FF⟩,
  ⟨0x802, 1, 6, 0x0, 0xFFFFFFFFFFFFFFFF, 0x0, 0x0, 0xFFFFFFFFFFFFFFFF⟩,
  ⟨0x808, 1, 1, 0x0, 0x0, 0x0, 0x0, 0x0⟩,
  ⟨0x809, 1, 1, 0x0, 0x0, 0x0, 0x0, 0x0⟩,
  ⟨0x80A, 1, 1, 0x401F3F1000000000, 0x0, 0x0, 0x0, 0x0⟩
]

/-- The registers outside the axis blocks by address (part 4). -/
def devRows4 : List RegRow := [
  ⟨0x810, 1, 2, 0x0, 0x0, 0x0, 0x0, 0x0⟩,
  ⟨0x812, 1, 1, 0xFF, 0x0, 0x0, 0x0, 0x0⟩,
  ⟨0x813, 1, 1, 0x3, 0x0, 0x0, 0x0, 0x0⟩,
  ⟨0x814, 1, 4, 0x3FAAAA, 0x0, 0x0, 0x0, 0x0⟩,
  ⟨0x818, 1, 1, 0xFFFFFF, 0x0, 0x0, 0x0, 0x0⟩,
  ⟨0x819, 1, 2, 0x0, 0x0, 0x0, 0x0, 0x0⟩,
  ⟨0x81B, 1, 1, 0x40040, 0x0, 0x0, 0x0, 0x0⟩,
  ⟨0x81C, 1, 3, 0x0, 0x0, 0x0, 0x0, 0x0⟩,
  ⟨0x30, 1, 1, 0x1, 0x0, 0x0, 0x0, 0x0⟩,
  ⟨0x31, 1, 1, 0x0, 0x0, 0x0, 0x0, 0x0⟩,
  ⟨0x32, 1, 1, 0x11C, 0x0, 0x0, 0x0, 0x0⟩,
  ⟨0x33, 1, 1, 0xFF000000, 0x0, 0x0, 0x0, 0x0⟩,
  ⟨0x34, 1, 1, 0x0, 0x1, 0x0, 0x100, 0x0⟩,
  ⟨0x35, 1, 1, 0x0, 0x0, 0x0, 0x0, 0x0⟩,
  ⟨0x36, 1, 1, 0xFFFFFFFFFFFF, 0xFFFFFFFFFFFF, 0x0, 0x0, 0x0⟩
]

/-- The registers outside the axis blocks by address, whole. -/
def devRows : List RegRow := devRows0 ++ devRows1 ++ devRows2 ++ devRows3 ++ devRows4
/-- The row of an offset in an axis block. -/
def axRow (o : Nat) : Option RegRow := RegRow.find o axRows

/-- The row of an absolute address outside the axis blocks. -/
def devRow (a : Nat) : Option RegRow := RegRow.find a devRows

/-- The reset value of a word of an axis block; 0 where no register stands. -/
def axReset (o : Nat) : W64 := match axRow o with | some r => BitVec.ofNat 64 r.rst | none => 0

/-- The reset value of a word outside the axis blocks; 0 where no register stands. -/
def devReset (a : Nat) : W64 := match devRow a with | some r => BitVec.ofNat 64 r.rst | none => 0

end Sys2Proof.Machine
end

