-- ==== Sys2Proof/Machine/State.lean ====
section
/-! DEFINITION. The state of the OL864 as plain data: every register, bank, buffer, queue and hidden sequencer the manual
names, and the reset state. -/

namespace Sys2Proof.Machine

open Sys2Proof

/-- Why a run would stop with a fault. No meaning of this model raises it: the manual gives every command an effect, so
the type only fills the host's interface (safe: a command never stops the machine). -/
inductive Fault where
  /-- Raised by no meaning; safe. -/
  | neverRaised
  deriving DecidableEq, Repr

/-- Why a command could be refused. -/
inductive Refusal where
  /-- Raised by Dispatch for a command that has no meaning yet; safe. -/
  | notModelled (mnemonic : String)
  deriving DecidableEq, Repr

/-! ### Word maps: registers and banks -/

/-- A sparse map from word address to 64-bit word: addresses strictly rising, no entry equal to the default of its address. -/
abbrev WMap := List (Nat × W64)

/-! ### Engines -/

/-- Pool states of an engine (R35). -/
inductive PoolSt where
  | active | spare | selftest | migrating | halted | retired | stopped
  deriving DecidableEq, Repr

/-- The architectural state of an engine (R67). -/
structure Core where
  v : Vector W64 32
  k : Vector W32 16
  f : W32
  pc : BitVec 13
  lc : BitVec 12
  lk : BitVec 13
  deriving DecidableEq, Repr

/-- One engine: its pool state, its architectural state. -/
structure Engine where
  pool : PoolSt
  core : Core
  deriving DecidableEq, Repr

/-- What a commit-buffer entry does at the drain (R43). `discarded` is the entry of an instruction whose exception
discards the effect; it still takes its drain cycle. -/
inductive Effect where
  /-- ST: word address, `none` whole word, `some h` the half [31:0] or [63:32] (R99). -/
  | st (a : W16) (half : Option Bool) (v : W64)
  /-- IOW: absolute or own-axis address (R100). -/
  | iow (a : W16) (v : W64)
  /-- APPLY: mode, latched vector, whether its lookup used t = 2, the three duty operands (R102, R207), and the most recent
  PRED result (R103). -/
  | apply (mode : BitVec 2) (vec : BitVec 3) (neg : Bool) (ax ay bx : W32) (pred : Option W64)
  /-- SIG: code and value (R85). -/
  | sig (code : W16) (v : W32)
  /-- TRC: tag and the two sources (R104). -/
  | trc (tag : W16) (a b : W64)
  /-- SHR write: shared-page word, half as ST, value (R105). -/
  | shr (w : Nat) (half : Option Bool) (v : W64)
  | discarded
  deriving DecidableEq, Repr

/-- A commit-buffer entry: the position in the tick and the PC of the instruction that created it (R43, R106). -/
structure Entry where
  seq : Nat
  pc : BitVec 13
  eff : Effect
  deriving DecidableEq, Repr

/-- An exception of the running tick: position, PC and cause code (R106). -/
structure Exc where
  seq : Nat
  pc : BitVec 13
  code : BitVec 4
  deriving DecidableEq, Repr

/-- What a tick captures at its boundary and a recomputation sees again (R44, R101, R124, R147): TL, MIRCO, the sample set
with its flags. -/
structure Snap where
  tl : W64
  mirco : W64
  set : Vector W32 7
  win : BitVec 3
  mir : BitVec 3
  mlim : Bool
  kcf : Bool
  deriving DecidableEq, Repr

/-- The tick in progress on an axis. -/
structure TickRun where
  /-- Execution has begun and END has not been reached. -/
  running : Bool
  /-- CYC (R71). -/
  cyc : Nat
  /-- Instructions executed in this tick. -/
  seq : Nat
  /-- WAIT in progress: event mask, T, and the base tick at which it began (R80). -/
  wait : Option (Byte × Nat × Nat)
  /-- First and last word of the active LOOP body (R83). -/
  loop : Option (BitVec 13 × BitVec 13)
  /-- Commit buffer, oldest first (R43). -/
  buf : List Entry
  /-- Exceptions of the tick, oldest first (R106). -/
  exc : List Exc
  /-- The most recent PRED: position, PC and result (R103). -/
  pred : Option (Nat × BitVec 13 × W64)
  /-- The DTC latch: vector code, and whether the lookup used t = 2 (R94, R207); V0 at every boundary. -/
  swt : BitVec 3
  swtNeg : Bool
  /-- Events that reached F in this tick (R77). -/
  seen : Byte
  /-- TIME of the tick's boundary (R104). -/
  time : W64
  /-- This run recomputes a discarded tick (R44). -/
  recompute : Bool
  snap : Snap
  deriving DecidableEq, Repr

/-- A request of the tick program (R102). -/
structure Req where
  mode : BitVec 2
  vec : BitVec 3
  neg : Bool
  ax : W32
  ay : W32
  bx : W32
  /-- The PRED result that travelled with it (R103). -/
  pred : Option W64
  deriving DecidableEq, Repr

/-! ### Axes -/

/-- The states of an axis (R286). -/
inductive AxSt where
  | off | arming | starting | running | catching | decel | disarm | oasis
  deriving DecidableEq, Repr

/-- A phase state of stage 1 (R193). -/
inductive Ph where
  | h | l | off
  deriving DecidableEq, Repr

/-- A scheduled or emitted edge of a gate: absolute time in 1/32 base ticks (R200), gate, level, the requested instant of
a turn-on (R203), and whether it was off the schedule (R144). -/
structure Edge where
  t : Nat
  g : Gate
  on : Bool
  rq : Nat
  uns : Bool
  deriving DecidableEq, Repr

/-- The whole base tick that an edge falls back to without the delay line (R11, R200). -/
def wholeTick (t : Nat) : Nat := (t + 16) / 32 * 32

/-- An interval that stage 3 dropped or stretched: its requested turn-on (1/32 base ticks), its gate, whether dropped, and
whether it has been counted (R203). -/
structure Mark where
  t : Nat
  g : Gate
  drop : Bool
  done : Bool
  deriving DecidableEq, Repr

/-- What lasts for the rest of a carrier period (R207, R249): its end (1/32 base ticks), whether the current bound holds the
PWM phases at L, and the zero vector of OV2 behaviour. -/
structure Hold where
  stop : Nat
  bound : Bool
  ov : Option (BitVec 3)
  deriving DecidableEq, Repr

/-- The pulse-timing island (chapter 7), beside its registers. -/
structure Pulse where
  /-- The request committed by the tick program and not yet loaded (R42). -/
  committed : Option Req
  /-- The request in force; `none` before the first. -/
  loaded : Option Req
  /-- The request in force is a MISSED_TICK policy request (R213). -/
  policy : Bool
  /-- The request of the present tick per logical phase: segments of a start (1/32 base ticks) and a state (stage 1). -/
  plan : Vector (List (Nat × Ph)) 3
  /-- End of the DTC active segment of the present tick; the fill or zero vector in force. -/
  activeEnd : Nat
  fill : BitVec 3
  /-- Edges of the present tick not yet played, ascending (stage 3). -/
  sched : List Edge
  /-- Edges played since the boundary before last, ascending. -/
  emitted : List Edge
  /-- Boundary time (base ticks) of the present tick. -/
  start : Nat
  /-- Stage-3 gate commands, bit g (R193). -/
  cmd : BitVec 6
  /-- Per gate: the last commanded turn-off and the requested instant of the last turn-on, 1/32 base ticks. -/
  lastOff : Vector Nat 6
  onReq : Vector Nat 6
  /-- Per physical phase: the state requested last. -/
  prev : Vector Ph 3
  /-- Per physical phase: a turn-on deferred to the next boundary, its side (true high) and requested instant (R203); and the
  one that the last boundary took up. -/
  deferred : Vector (Option (Bool × Nat)) 3
  joined : Vector (Option (Bool × Nat)) 3
  /-- Drops and stretches of the present tick, counted as their instants pass (R203). -/
  marks : List Mark
  /-- Per physical phase: the end of the present tick's refresh pulse, 1/32 base ticks; 0 without one (R205). -/
  refEnd : Vector Nat 3
  /-- The dead time of the tick, base ticks: a band change acts at the boundary (R202). -/
  dt : Nat
  /-- The base tick at which the island froze (R214). -/
  frozenAt : Nat
  /-- A bound or OV2 vector that runs on with the carrier period (R207, R249). -/
  hold : Option Hold
  /-- Start of the free-running carrier, base ticks (R195); set at ARMING, moved by a freeze (R214). -/
  carrier : Nat
  /-- The duties the running carrier period carries; none is a zero vector (R195). -/
  duties : Option (W32 × W32 × W32)
  /-- Low side conducted in the present tick, per physical phase (R205). -/
  lowSeen : BitVec 3
  /-- Apertures chosen at the boundary for the present interval (R143): latest instant, count, phases; physical phases valid
  at each instant, latest first. -/
  t1 : Nat
  apertures : List (BitVec 3)
  /-- High-side turn-on edges in the open 1 ms window (R212). -/
  highOns : Nat
  /-- Window number of the last closed window (R212). -/
  window : Nat
  /-- A drained STEP write waits for the boundary (R209). -/
  stepReq : Bool
  /-- The words of AXn_PTOVR, AXn_PTMTAB, AXn_PTMCTL, AXn_PTCMP0 to 3 and AXn_PTSW in force: writes act at the boundary
  (R215). -/
  ovr : W64
  mtab : W64
  mctl : W64
  cmp : Vector W64 4
  ptsw : W64
  /-- The products ILIM × KMIN of the current bound, positive and negative torque, units of 2^-29 I_base, as the last boundary
  set them (R125, R207). -/
  bound : Nat × Nat
  /-- The bound has acted in the present tick, and that tick has drained (R125). -/
  curb : Bool
  drained : Bool
  /-- The islands stop 1 ms after this instant (R9). -/
  offSince : Nat
  /-- The delay line has failed to converge (R201). -/
  lineBad : Bool
  /-- TRGO levels the axis drives until the given base tick, by pin (R210). -/
  trgo : Vector Nat 4
  deriving DecidableEq, Repr

/-- The gate-drive part of ARMING (R141, R228): step 0 is the offset measurement, 1 the bootstrap charging, 2 and 3 the pulses
of the low and of the high sides, 4 the end. -/
structure Arming where
  step : Nat
  /-- Base tick at which step 1 began. -/
  at_ : Nat
  /-- The pulse under way; its end once its turn-on is issued, else the instant from which the next pulse may begin. -/
  pulse : Option Gate
  edge : Nat
  /-- The phase whose turn is next, and the low sides pulsed in step 1. -/
  turn : Nat
  pulsed : BitVec 3
  deriving DecidableEq, Repr

/-- The gate-drive channels of an axis (chapter 8), beside their registers. -/
structure Drive where
  /-- Final gate commands at the pins. -/
  on : BitVec 6
  /-- Turn-ons that Windbreak has issued (stage 4), those it holds back with their arrival, 1/32 base ticks (R193, R219), and
  the commands that the output mask passes (stage 5). -/
  iss : BitVec 6
  pend : BitVec 6
  pendAt : Vector Nat 6
  cmdd : BitVec 6
  /-- Per gate: its last edge at the pins, 1/32 base ticks; the step set it took there (R217). -/
  edgeAt : Vector Nat 6
  drv : Vector W64 6
  /-- Gates that have been confirmed below 1.5 V since their last turn-off (R219, R220). -/
  low : BitVec 6
  /-- Gates whose VGS the comparator holds above 1.5 V although commanded off (R220, R240), and the base tick of the last fall
  through 1.5 V of one of them (R290). -/
  vgs : BitVec 6
  fallAt : Nat
  /-- Gates found stuck on (R222); AXn_GDSTAT.STKOFF holds those found stuck off. -/
  stkOn : BitVec 6
  /-- Phases whose current the comparator holds above OCLVL now (R240). -/
  ocNow : BitVec 3
  /-- A trip latch set, or a stuck gate was found, outside OASIS at this base tick (R233 rank 2). -/
  hold : Option Nat
  /-- A trip latch set while in OASIS (R232). -/
  tripInOasis : Bool
  /-- A bootstrap low event during a high-side short (R226): all off. -/
  bstOff : Bool
  /-- Base tick of the last bootstrap low event, per phase (R227). -/
  bstLast : Vector (Option Nat) 3
  /-- Phases whose bootstrap has been reported at or below threshold plus hysteresis (R228). -/
  bstSub : BitVec 3
  /-- Phases whose high-side turn-on arrived on a low bootstrap; the event follows at the next base tick (R226). -/
  bstHit : BitVec 3
  /-- A bootstrap refresh of R226 holds this phase's low side, until the base tick of its end. -/
  refresh : BitVec 3
  refreshEnd : Vector Nat 3
  /-- Half-bridges whose final commands overlap, and the start of each one's last overlap (R223). -/
  overlap : BitVec 3
  overlapAt : Vector Nat 3
  /-- The ASC_AUTO short is applied (R237). -/
  autoShort : Bool
  /-- OPT in force for this OASIS entry (R234), ASC_AUTO forced by R255. -/
  opt : BitVec 2
  /-- The escalation output is applied (R256): off or short. -/
  esc : Bool
  escShort : Bool
  /-- The step set in force (R217): the band that the last edge of a gate took. -/
  band : BitVec 3
  arm : Arming
  deriving DecidableEq, Repr

/-- Sensing front end of an axis (chapter 5), beside its registers. -/
structure Sense where
  /-- The sample set of the tick: iU iV iW vBus vU vV vW (R101). -/
  set : Vector W32 7
  /-- Its flags: WIN, MIR by phase, MLIM, KCF. -/
  win : BitVec 3
  mir : BitVec 3
  mlim : Bool
  kcf : Bool
  /-- MIRCO captured at the boundary: word (R147). -/
  mirco : W64
  /-- Stator voltage mean of the previous interval: h_p v_bus per logical phase, units of 2^-60 (R146). -/
  uPrev : Vector Int 3
  /-- Runs of failing terminal checks per phase (R153). -/
  tvRun : Vector Nat 3
  /-- The present interval has a forced window (R148). -/
  forced : Bool
  /-- Squared phase currents since the last temperature reading: sum (A² × 2^20) and ticks; and the last 100 such pairs,
  newest first (R261). -/
  load : Nat × Nat
  loadHist : List (Nat × Nat)
  /-- The bus-current estimate of R248, signed Q2.30 of I_base; its summands over the last 1 µs, newest first, each with the
  base tick at which it began; and since when the axis regenerates with OV1 set (R255). -/
  ibus : Int
  ibRun : List (Nat × Int)
  regAt : Option Nat
  deriving DecidableEq, Repr

/-- The position logic of an axis (chapter 6), beside its registers. -/
structure Pos where
  /-- The code accepted last; the code that the pins show and since when, until it is accepted (R162). -/
  code : BitVec 3
  pend : Option (BitVec 3 × Nat)
  sector : Option (Fin 6)
  hinv : Bool
  /-- Start of the invalid episode, base ticks; INVTMO has passed in it (R164). -/
  hinvAt : Nat
  hinvHit : Bool
  /-- Commutation index delivered to PTn: a sector, or entry 6 (R164, R165). -/
  comm : BitVec 3
  commValid : Bool
  fallback : Bool
  /-- Encoder fallback ended; waits for the next good word or Z (R176). -/
  fbWait : Bool
  /-- The edge angle of R166, the base tick of that Hall edge, and the direction of the last one-sector change. -/
  edgeAngle : W32
  hallAt : Nat
  hallDir : Bool
  /-- Base tick of the source's last edge (R169). -/
  edgeAt : Nat
  /-- Times of the last accepted edges in one direction, newest first, at most 7 (R167). -/
  edges : List Nat
  dir : Bool
  /-- Consecutive one-sector changes in one direction, saturating at 2 (R166). -/
  runLen : Nat
  svalid : Bool
  steps : W16
  method : Bool
  stopped : Bool
  speed : Int
  /-- Net steps in the count window: time and signed step (R167). -/
  window : List (Nat × Int)
  /-- Base tick of the last capture or refresh (R159). -/
  refAt : Nat
  deriving DecidableEq, Repr

/-- Mailbox sequencing of an axis (R50 to R52). -/
structure Mbox where
  /-- Active inbound page. -/
  inPage : Bool
  /-- Published outbound page. -/
  outPage : Bool
  /-- The page copy of R42 step 6 runs until this base tick. -/
  copyUntil : Nat
  deriving DecidableEq, Repr

/-- One axis. -/
structure Axis where
  /-- Registers of the axis block, by offset. -/
  regs : WMap
  /-- Program and data banks (R36, R40). -/
  p : WMap
  d : WMap
  /-- Words of Pn whose check bits are uncorrectable are not held; the program is withdrawn (R279). -/
  withdrawn : Bool
  /-- The engine ENGINE_MAP names. -/
  engine : Option Eng
  st : AxSt
  /-- Base tick of the entry into the present state. -/
  since : Nat
  /-- An ENABLE is held (R292): port and tag, `none` for the internal one. -/
  held : Bool
  mb : Mbox
  run : TickRun
  /-- Event latches EV0 to EV7 (R77). -/
  ev : Byte
  /-- Halted for debug (R55); a halt is requested; the halted tick is being finished after RESUME. -/
  halted : Bool
  haltReq : Bool
  resuming : Bool
  /-- Boundaries missed while halted, saturating (ENGINE_DBGSTAT.MISSED, R56). -/
  missed : Nat
  pt : Pulse
  gd : Drive
  sense : Sense
  pos : Pos
  /-- TIME of the rotor losses inside LOSSWIN, base ticks, newest first (R185). -/
  losses : List Nat
  /-- The axis was in RUN or STARTING when the escalation output was applied, and the output has ended (R256). -/
  escExit : Bool
  /-- UV2 set since the last boundary (R247). -/
  uv2Req : Bool
  /-- A stall asks for DECEL at the next boundary (R128). -/
  stallReq : Bool
  /-- KTH at the last EV_THRM (R266). -/
  kthMark : W16
  deriving DecidableEq, Repr

/-! ### Host ports -/

/-- What a command that holds a slot does when it starts. -/
inductive Op where
  /-- Registers read in order (R338); with a slice, 16 bits of one register (R327, R331). -/
  | rd (a : W16) (cnt : Nat) (slice : Option (BitVec 2))
  /-- A slice of a mapped word read through the G1 window: state, GDSTAT, mailbox (R327). -/
  | win (a : W16) (lo : Nat)
  /-- Registers written in address order (R339). -/
  | wr (a : W16) (vs : List W64)
  /-- One 16-bit slice of a register (R328). -/
  | wrSlice (a : W16) (s : BitVec 2) (v : W16)
  /-- Inbound mailbox words, then POST (R50, R339). -/
  | mbox (n : Ax) (first : BitVec 4) (vs : List W64) (post : Bool)
  /-- A quarter of an inbound word (R331 MBWR). -/
  | mbq (n : Ax) (w : BitVec 4) (q : BitVec 2) (v : W16)
  /-- POST (R50). -/
  | post (n : Ax)
  | enable (n : Ax)
  | stop (n : Ax)
  | clear (n : Ax)
  /-- HOST_OWNREQ (R314). -/
  | own (n : Ax) (op : BitVec 2)
  /-- A command with a value fixed on acceptance: MBPTR, ADDR, NTF (R331), an unlisted G1 read (R327). -/
  | value (v : W16)
  | load (mask : Byte) (store : Bool)
  | applyBoot (mask : Byte)
  | fmt (key : W16) (answers : Bool)
  | format
  | fuse
  | user (blob : Byte) (total : W64)
  | userRead (blob : Byte) (off : Nat) (cnt : Nat)
  | userDelete (blob : Byte)
  | logRead (seq : W32)
  | traceRead (seq : W32)
  | lifeRead (unit : BitVec 5)
  | bootSelect (b : Bool)
  deriving DecidableEq, Repr

/-- A command accepted and not yet completed: it holds a slot (R315). -/
structure Cmd where
  tag : W16
  /-- Axes it addresses (R317). -/
  axes : Byte
  op : Op
  /-- What a WRITE still has to write after a state command among its registers: the next address and its values (R339). -/
  rest : Option (W16 × List W64)
  /-- Registers already written, of a WRITE (R339). -/
  wrote : Option W16
  started : Bool
  /-- Base tick of acceptance (R318). -/
  at_ : Nat
  deriving DecidableEq, Repr

/-- A completion record (R320). -/
structure Completion where
  tag : W16
  status : Byte
  axis : BitVec 4
  data : List W64
  time : W64
  cseq : W16
  /-- The number of registers written, of a WRITE that a register refused (R339). -/
  wrote : Option W16
  sent : Bool
  deriving DecidableEq, Repr

/-- A frame sent on CAN FD (R305): identifier, 29-bit format, FD format, bit-rate switching, data. -/
structure CanFrame where
  ident : BitVec 29
  ext : Bool
  fd : Bool
  brs : Bool
  data : List Byte
  deriving DecidableEq, Repr

/-- A notification (R322, R340). -/
structure Note where
  code : W16
  value : W32
  axis : BitVec 4
  time : W64
  nseq : W16
  sent : Bool
  deriving DecidableEq, Repr

/-- One host port, beside its registers. -/
structure PortSt where
  /-- Commands accepted and not completed, in issue order. -/
  cmds : List Cmd
  /-- Completions posted and not acknowledged, oldest first (R321). -/
  ring : List Completion
  /-- Next CSEQ and NSEQ. -/
  cseq : W16
  nseq : W16
  /-- Notification queue, oldest first, at most 32 (R322). -/
  notes : List Note
  /-- The inline answers of G1 and G2 not yet carried, oldest first: at most one on SPI, for the next frame (R329, R333); on
  CAN FD each waits for its own frame, with CSEQ the number of the first completion posted after it (R334). -/
  inl : List Completion
  /-- Next tag of a G1 or G2 command (R325). -/
  nextTag : W16
  /-- Mailbox pointers of G2: word and quarter per axis (R331). -/
  mbptr : Vector (BitVec 6) 8
  addr : W16
  exta : W16
  /-- The last response word shifted out in G1 and G2, with the CSEQ of the completion it carried (R329, R333). -/
  lastOut : W32 × Option W16
  /-- The word a POLL with REPEAT asked for again (R331). -/
  again : Option (W32 × Option W16)
  /-- Words of the packet being received (R336); segment number expected on CAN FD (R343). -/
  rx : List W64
  /-- Words left of a packet already discarded (R335). -/
  skip : Nat
  rxSeg : Option Nat
  /-- Words waiting to leave an SPI port in G3, the bytes sent last on SPI and UART, the frames sent last on CAN FD (R305, R340,
  R343). -/
  tx : List W64
  sentBytes : List Byte
  sentFrames : List CanFrame
  /-- Packets discarded since reset (R342). -/
  discards : W16
  /-- IRQk_N pulses given in pulse mode, and the base tick at which the last one ends (R309). -/
  irqPulses : Nat
  irqEnd : Nat
  /-- Operand banks of the fuse commands (R381). -/
  fuseAddr : W64
  fuseData : Vector W64 6
  deriving DecidableEq, Repr

/-- A Caravan load in progress (R345): the next chunk number, the words staged, the base tick of the last part, TIME of
LOAD_BEGIN; `waiting` while the COMMIT record of its bank is to be written (R368). -/
structure Load where
  port : Port
  tag : W16
  mask : Byte
  store : Bool
  next : Nat
  words : List W64
  last : Nat
  began : W64
  waiting : Bool
  deriving DecidableEq, Repr

/-- A USER write stream in progress (R361, R370); `waiting` while its records are to be written. -/
structure Stream where
  port : Port
  tag : W16
  blob : Byte
  total : Nat
  next : Nat
  words : List W64
  last : Nat
  waiting : Bool
  deriving DecidableEq, Repr

/-! ### Time, pool, store, fuses, buses, temperature -/

/-- The time base (R24 to R31). -/
structure TimeBase where
  /-- TIME in units of 2.5e-10 ns; a base tick adds 1e10 + TRIM units. -/
  acc : Nat
  /-- Units still to be slewed, and units per base tick (R27). -/
  slew : Int
  rate : Int
  /-- Base tick of the last accepted PPS edge (R29). -/
  lastEdge : Option Nat
  /-- Consecutive edges within 20 ns (R27). -/
  good : Nat
  /-- Fraction of the AON counter: 32768 per 400 000 000 base ticks. -/
  aonFrac : Nat
  deriving DecidableEq, Repr

/-- A need for a spare engine (R281, R282). -/
structure Need where
  axis : Ax
  failed : Eng
  cause : BitVec 4
  /-- Detection, and the first detection of its group (R282), base ticks. -/
  at_ : Nat
  grp : Nat
  /-- The spare chosen at step 3; whether steps 4 to 6 take the longer times. -/
  chosen : Option Eng
  late : Bool
  /-- Step 5 has connected the spare. -/
  connected : Bool
  /-- The discarded tick is to be run again: not once its program is withdrawn or replaced (R279). -/
  rerun : Bool
  deriving DecidableEq, Repr

/-- The engine pool's arbiter and self-test (R281 to R285). -/
structure Pool where
  needs : List Need
  /-- First detection of the newest group (R282); the group whose first axis has been taken, which set RRPTR. -/
  group : Option Nat
  served : Option Nat
  /-- Recomputations in progress: axis, detection, from, to, cause (R281 step 7). -/
  redo : List (Ax × Nat × Eng × Eng × BitVec 4)
  /-- The spare that took the last self-test and its instant (R285). -/
  lastTest : Option Eng
  testAt : Nat
  /-- The system controller is restarting (R280), and since when. -/
  restart : Bool
  restartAt : Nat
  /-- The scrubber (R39): the base tick at which its first pass began, none before step 4 of boot; and the words it has read
  since in P0 to P7, D0 to D7, the shared page, the staging buffer and the system-controller memory. -/
  scrubAt : Option Nat
  scrub : Vector Nat 19
  deriving DecidableEq, Repr

/-- A record of the store (R357); the payload as bytes. -/
structure Record where
  typ : Byte
  flags : Byte
  seq : W32
  time : W64
  payload : List Byte
  deriving DecidableEq, Repr

/-- A BOOT bank (R356, R367). -/
structure Bank where
  image : Option (List W64)
  valid : Bool
  gen : W32
  auth : Bool
  deriving DecidableEq, Repr

/-- What a queued BOOT record is: a part of an image, the COMMIT of a load, or the COMMIT of a BOOT_SELECT (R368). -/
inductive BootKind where
  | image
  | commit
  | select (p : Port) (tag : W16)
  deriving DecidableEq, Repr

/-- The Cistern beside its registers (chapter 14). -/
structure Store where
  /-- Pages of the LOG and TRACE rings, oldest first, and the records of LIFE. -/
  log : List (List Record)
  trace : List (List Record)
  lifeRecs : List Record
  /-- USER blobs: id, total bytes, words. -/
  blobs : List (Byte × Nat × List W64)
  banks : Vector Bank 2
  /-- LOG queue of 256 records (R362). -/
  logQ : List Record
  /-- BOOT and USER records waiting. -/
  bootQ : List (Fin 2 × Record × BootKind)
  userQ : List Record
  /-- Staged trace entries, oldest first: time, axis, tag, a, b (R359). -/
  stage : List (W64 × Ax × W16 × W64 × W64)
  /-- Records admitted since the last admitted decimated one, per axis (R359). -/
  dec : Vector Nat 8
  /-- The open run of lost trace records: count, first and last TIME (R360). -/
  gap : Option (Nat × W64 × W64)
  /-- Next SEQ per partition: BOOT, LOG, TRACE, LIFE, USER (R357). -/
  seqs : Vector W32 5
  /-- Lifetime counts in the LIFE partition and increments not yet written, keyed by 32·code + unit (R298). -/
  life : WMap
  lifeInc : WMap
  /-- The INFLIGHT list of the last power-fail write: port and tag (R369). -/
  inflight : Option (List (Port × W16))
  /-- Bad blocks, ascending; erase counts by block (R363, R364). -/
  bad : List Nat
  erases : WMap
  /-- Consecutive timeouts (R366). -/
  timeouts : Nat
  /-- Something written since the last checkpoint, and the last checkpoint's base tick (R354). -/
  dirty : Bool
  ckptAt : Nat
  /-- The running FORMAT: port, tag, the state it began in (R355). -/
  format : Option (Port × W16 × BitVec 3)
  /-- The shutdown record of the last shutdown has been written (R358). -/
  shutLogged : Bool
  deriving DecidableEq, Repr

/-- A word of the fuse shadow (R378). -/
structure ShadowWord where
  payload : W64
  committed : Bool
  marginal : Bool
  deriving DecidableEq, Repr

/-- The fuse array and programmer beside the FUSE registers (chapter 15). -/
structure Fuses where
  /-- Raw reads of every word that is not blank, ascending. -/
  array : List (Nat × FuseRead)
  /-- The shadow, for every word that is not blank. -/
  shadow : List (Nat × ShadowWord)
  /-- Words programmed since the shadow was loaded (R380). -/
  since : List Nat
  /-- The running command: port, tag, operation code, CNT (R381). -/
  busy : Option (Port × W16 × BitVec 2 × Nat)
  /-- Base tick at which it began; the REASON of R384 that has stopped it, 0 for none. -/
  began : Nat
  stop : Nat
  /-- A reread waits for the programmer (R380). -/
  rereadDue : Bool
  deriving DecidableEq, Repr

/-- A contended resource (R319): ownership of an axis, the fuse programmer, write admission. -/
inductive Rsc where
  | own (n : Ax)
  | fuse
  | adm
  deriving DecidableEq, Repr

/-- One motor bus beside its registers (chapter 9). -/
structure BusSt where
  /-- Consecutive open and shorted periods; failing tests. -/
  openRun : Nat
  shortRun : Nat
  testRun : Nat
  /-- BRK_FAULT latched (R252). -/
  fault : Bool
  /-- Base tick of the last test or of the last BUSx_BRK write; the end of the test pulse that has been given and not yet
  evaluated (R253). -/
  testAt : Nat
  pulse : Option Nat
  /-- The chopper period under way: its first base tick, and the base ticks its gate is on in PROP mode (R251). -/
  perAt : Nat
  perOn : Nat
  /-- The chopper gate, the base tick of its last edge, and whether it has been on, and off, beyond BLK in this period (R252). -/
  gate : Bool
  gateAt : Nat
  sawOn : Bool
  sawOff : Bool
  /-- The same two facts of the last whole period, until it is evaluated (R252). -/
  past : Option (Bool × Bool)
  deriving DecidableEq, Repr

/-- One temperature sensor's history (chapter 10). -/
structure Sensor where
  /-- Held temperature T_h, 1/16 C; none before the first reading (R264). -/
  held : Option Int
  /-- Past EFF values, newest first, for the rate window (R265). -/
  past : List Int
  warn : Bool
  rwarn : Bool
  thr : Bool
  rthr : Bool
  /-- Base tick at which it became suspect, or at which an NTC code last passed between its limits (R260, R262). -/
  since : Option Nat
  /-- A suspect sensor that has read at or above SHUT: the axes it serves are held at FLOOR (R267). -/
  hold : Bool
  deriving DecidableEq, Repr

/-- THERM beside its registers. -/
structure Therm where
  ts : Vector Sensor 12
  ntc : Vector Sensor 8
  /-- A first reading has set the bands (R270). -/
  first : Bool
  /-- Base tick of the last reading (R259). -/
  at_ : Option Nat
  /-- THERM_NTCCFG, THERM_LVL0 to 2, THERM_RATE0 to 2 and THERM_XCHK in force: writes act at the next reading (R273). -/
  ntccfg : W64
  lvl : Vector W64 3
  rate : Vector W64 3
  xchk : W64
  deriving DecidableEq, Repr

/-- One encoder channel beside its registers (R173 to R176). -/
structure EncSt where
  /-- The accepted levels, A in bit 0 and B in bit 1; the levels that the pins show and since when, until they are accepted. -/
  ab : BitVec 2
  pend : Option (BitVec 2 × Nat)
  /-- ENCkB as last shown; a timeout waits for it to read high (R175). -/
  b : Bool
  hold : Bool
  /-- An accepted state has been seen. -/
  seen : Bool
  /-- Request instant of the running transaction. -/
  reqAt : Option Nat
  /-- An illegal transition fell in the present tick (R176). -/
  illegal : Bool
  /-- A good word has been received. -/
  good : Bool
  deriving DecidableEq, Repr

/-- One probe beside its registers (R177): the accepted level; an edge that its filter has not passed: its direction, the base
tick, the value and the TIME at which it was first sampled. -/
structure PrbSt where
  level : Option Bool
  pend : Option (Bool × Nat × Nat × W64)
  deriving DecidableEq, Repr

/-- One emulation output beside its registers (R188 to R190). -/
structure EmuSt where
  /-- The accumulator, units of 1 / (360360 × 2^32) of a count: exact for every PP. -/
  num : Int
  /-- Signed counts still to be emitted. -/
  todo : Int
  /-- Reference angle; none while it must be taken afresh. -/
  ref : Option W32
  /-- Spacing of the counts of this tick in base ticks, the next emission, and the last one. -/
  gap : Nat
  next : Nat
  last : Nat
  /-- The EMUm_CFG word in force; whether a written one waits for the boundary (R190). -/
  cfg : W64
  fresh : Bool
  deriving DecidableEq, Repr

/-- Pins and supplies the commands report. -/
structure Pins where
  /-- VSUP is above the power-on-reset threshold and the device runs. -/
  powered : Bool
  /-- Stopped for standby (R402). -/
  asleep : Bool
  /-- A STANDBY request has completed: port and tag whose completion must be acknowledged (R402). -/
  standby : Option (Port × W16)
  /-- The early power-fail warning has been given (R400). -/
  warning : Bool
  safeLow : Bool
  /-- The VGD monitor is active (R224); VGD was below 9.2 V when last seen (R240). -/
  vgdUv : Bool
  /-- VGD has not exceeded 9.2 V since the reset (R392). -/
  vgdHeld : Bool
  vgdLow : Bool
  /-- Levels of TRIP0 to TRIP3, and since when each has its level, base ticks (R230). -/
  trip : BitVec 4
  tripAt : Vector Nat 4
  /-- PPS level. -/
  pps : Bool
  /-- Both PLLs have failed (R13). -/
  noClock : Bool
  /-- XIN has failed since, for the 10 ms of R15. -/
  xinBad : Bool
  /-- The last failure of PLL_A and of PLL_B, base ticks (R12). -/
  pllAt : Vector Nat 2
  /-- The base tick at which the delay lines last began to recalibrate (R11, R15). -/
  hresAt : Nat
  /-- The DRV island runs on its RC (R8). -/
  drvRc : Bool
  /-- Base tick at which the boot began (R396). -/
  bootAt : Nat
  deriving DecidableEq, Repr

/-- The OL864. -/
structure State where
  /-- Commands waiting, first in first out. -/
  pending : List Instr
  /-- The 400 MHz base count C since the model's reset (R41). -/
  clk : Nat
  /-- Inside a step only: the SYS cycle ends, and slice writes that waited for its drains apply (R328). -/
  cycleEnd : Bool
  tm : TimeBase
  /-- MODEL FIELD: how many free values have been taken. -/
  free : Nat
  /-- Registers outside the axis blocks, by address. -/
  dev : WMap
  axes : Vector Axis 8
  engines : Vector Engine 10
  pool : Pool
  ports : Vector PortSt 4
  /-- The in-flight list that the last reset left in AON, until the ports are ready; none when AON holds no valid list (R296). -/
  flight : Option (List (Port × W16))
  /-- Contentions decided in a SYS cycle: resource, cycle, a port that lost (R319). -/
  contest : List (Rsc × Nat × Port)
  load : Option Load
  stream : Option Stream
  /-- The shared page (R53). -/
  shared : WMap
  store : Store
  fuses : Fuses
  buses : Vector BusSt 2
  therm : Therm
  /-- The last conversions of AIN0 to AIN7, newest first, at most 8, and the base tick to which each channel's are counted
  (R155, R157). -/
  ain : Vector (List (BitVec 12)) 8
  ainAt : Vector Nat 8
  enc : Vector EncSt 4
  prb : Vector PrbSt 4
  emu : Vector EmuSt 2
  /-- BDIV in force on the UART, and the command that wrote the present HOST_UART (R306). -/
  bdiv : W16
  bdivBy : Option (Port × W16)
  pins : Pins
  deriving DecidableEq, Repr

/-! ### Reset -/

/-- The architectural state a load sets (R346) and reset leaves: all zero. -/
def Core.reset : Core := { v := Vector.replicate 32 0, k := Vector.replicate 16 0, f := 0, pc := 0, lc := 0, lk := 0 }

/-- No tick in progress. -/
def TickRun.idle : TickRun :=
  { running := false, cyc := 0, seq := 0, wait := none, loop := none, buf := [], exc := [], pred := none, swt := 0,
    swtNeg := false, seen := 0, time := 0, recompute := false,
    snap := { tl := 0, mirco := 0, set := Vector.replicate 7 0, win := 0, mir := 0, mlim := false, kcf := false } }

def Pulse.reset : Pulse :=
  { committed := none, loaded := none, policy := false, plan := Vector.replicate 3 [],
    activeEnd := 0, fill := 0, sched := [], emitted := [], start := 0, cmd := 0, lastOff := Vector.replicate 6 0,
    onReq := Vector.replicate 6 0, prev := Vector.replicate 3 .off, t1 := 0, apertures := [],
    deferred := Vector.replicate 3 none, joined := Vector.replicate 3 none, marks := [], refEnd := Vector.replicate 3 0, dt := 0, frozenAt := 0, hold := none,
    carrier := 0, duties := none, lowSeen := 0, highOns := 0, window := 0, stepReq := false, ovr := 0,
    mtab := 0x8496121A4, mctl := 0, cmp := Vector.replicate 4 0x280000000000, ptsw := 0x4E2040000000, bound := (0, 0),
    curb := false, drained := false, offSince := 0, lineBad := false, trgo := Vector.replicate 4 0 }

/-- No ARMING under way. -/
def Arming.idle : Arming := { step := 0, at_ := 0, pulse := none, edge := 0, turn := 0, pulsed := 0 }

/-- The gate-drive channels at reset: all gates off, confirmed below 1.5 V, on the step set of band B1 (R270). -/
def Drive.reset : Drive :=
  { on := 0, iss := 0, pend := 0, pendAt := Vector.replicate 6 0, cmdd := 0, edgeAt := Vector.replicate 6 0,
    drv := Vector.replicate 6 0x320D4D00008888, low := 0b111111, vgs := 0, fallAt := 0, stkOn := 0, ocNow := 0, hold := none,
    tripInOasis := false, bstOff := false, bstLast := Vector.replicate 3 none, bstSub := 0, bstHit := 0, refresh := 0,
    refreshEnd := Vector.replicate 3 0, overlap := 0, overlapAt := Vector.replicate 3 0, autoShort := false, opt := 0, esc := false,
    escShort := false, band := 0, arm := Arming.idle }

def Sense.reset : Sense :=
  { set := Vector.replicate 7 0, win := 0, mir := 0, mlim := false, kcf := false, mirco := 0,
    uPrev := Vector.replicate 3 0, tvRun := Vector.replicate 3 0, forced := false, load := (0, 0),
    loadHist := [], ibus := 0, ibRun := [], regAt := none }

def Pos.reset : Pos :=
  { code := 0, pend := none, sector := none, hinv := false, hinvAt := 0, hinvHit := false, comm := 6, commValid := false,
    fallback := false, fbWait := false, edgeAngle := 0, hallAt := 0, hallDir := false, edgeAt := 0, edges := [], dir := false, runLen := 0,
    svalid := false, steps := 0, method := false, stopped := true, speed := 0, window := [], refAt := 0 }

/-- Axis n at reset: OFF, served by engine n (R35), everything else at its table's reset value. -/
def Axis.reset (n : Ax) : Axis :=
  { regs := [], p := [], d := [], withdrawn := false, engine := some ⟨n.val, by omega⟩, st := .off, since := 0,
    held := false, mb := { inPage := false, outPage := false, copyUntil := 0 }, run := TickRun.idle, ev := 0,
    halted := false, haltReq := false, resuming := false, missed := 0, pt := Pulse.reset, gd := Drive.reset, sense := Sense.reset,
    pos := Pos.reset, losses := [], escExit := false, uv2Req := false, stallReq := false, kthMark := 0x8000 }

/-- Engine e at reset: E0 to E7 ACTIVE, E8 and E9 SPARE (R35). -/
def Engine.reset (e : Eng) : Engine :=
  { pool := if e.val < 8 then .active else .spare, core := Core.reset }

def PortSt.reset : PortSt :=
  { cmds := [], ring := [], cseq := 1, nseq := 1, notes := [], inl := [], nextTag := 0,
    mbptr := Vector.replicate 8 0, addr := 0, exta := 0, lastOut := (0xF000000, none), again := none, rx := [], skip := 0, rxSeg := none,
    tx := [], sentBytes := [], sentFrames := [], discards := 0, irqPulses := 0, irqEnd := 0, fuseAddr := 0, fuseData := Vector.replicate 6 0 }

def Store.reset : Store :=
  { log := [], trace := [], lifeRecs := [], blobs := [],
    banks := Vector.replicate 2 { image := none, valid := false, gen := 0, auth := false }, logQ := [], bootQ := [],
    userQ := [], stage := [], dec := Vector.replicate 8 0, gap := none, seqs := Vector.replicate 5 0, life := [],
    lifeInc := [], inflight := none, bad := [], erases := [], timeouts := 0, dirty := false, ckptAt := 0, format := none,
    shutLogged := true }

def Sensor.reset : Sensor :=
  { held := none, past := [], warn := false, rwarn := false, thr := false, rthr := false, since := none, hold := false }

/-- Word 224 of a device from the factory: the committed seal of words 0 to 63 (R372, R386), here with every vendor word 0,
whose content no host may depend on (R372, log 3). -/
def vendorSealRaw : BitVec 72 := 0x80FF003F30FCEDC0B9

/-- The machine right after reset: every register at its table's value (the fields the tables give as Fuse, AON, Strap or
Pin at the values of an unprogrammed array and of a first power-on, log 3), every bank and queue empty, boot not begun. -/
def State.reset : State :=
  { pending := [], clk := 0, cycleEnd := false,
    tm := { acc := 0, slew := 0, rate := 0, lastEdge := none, good := 0, aonFrac := 0 }, free := 0, dev := [],
    axes := Vector.ofFn Axis.reset, engines := Vector.ofFn Engine.reset,
    pool := { needs := [], group := none, served := none, redo := [], lastTest := none, testAt := 0, restart := false,
              restartAt := 0, scrubAt := none, scrub := Vector.replicate 19 0 },
    ports := Vector.replicate 4 PortSt.reset, flight := none, contest := [], load := none, stream := none, shared := [], store := Store.reset,
    fuses := { array := [(224, { normal := vendorSealRaw, high := vendorSealRaw, low := vendorSealRaw })],
               shadow := [(224, { payload := 0x80FF003F30FCEDC0, committed := true, marginal := false })], since := [], busy := none, began := 0,
               stop := 0, rereadDue := false },
    buses := Vector.replicate 2 { openRun := 0, shortRun := 0, testRun := 0, fault := false, testAt := 0, pulse := none,
                                  perAt := 0, perOn := 0, gate := false, gateAt := 0, sawOn := false, sawOff := false, past := none },
    therm := { ts := Vector.replicate 12 Sensor.reset, ntc := Vector.replicate 8 Sensor.reset, first := false, at_ := none,
               ntccfg := devReset THERM_NTCCFG, lvl := Vector.ofFn (fun g : Fin 3 => devReset (THERM_LVL g.val)),
               rate := Vector.ofFn (fun g : Fin 3 => devReset (THERM_RATE g.val)), xchk := devReset THERM_XCHK },
    ain := Vector.replicate 8 [], ainAt := Vector.replicate 8 0,
    enc := Vector.replicate 4 { ab := 0, pend := none, b := false, hold := false, seen := false, reqAt := none, illegal := false,
                                good := false },
    prb := Vector.replicate 4 { level := none, pend := none },
    emu := Vector.replicate 2 { num := 0, todo := 0, ref := none, gap := 0, next := 0, last := 0, cfg := 0x40000000100, fresh := false },
    bdiv := 27778, bdivBy := none,
    pins := { powered := true, asleep := false, standby := none, warning := false, safeLow := false, vgdUv := false, vgdHeld := false,
              vgdLow := false, trip := 0, tripAt := Vector.replicate 4 0, pps := false, noClock := false, xinBad := false, pllAt := Vector.replicate 2 0, hresAt := 0, drvRc := false, bootAt := 0 } }

end Sys2Proof.Machine
end

