-- ==== Sys2Proof/Machine/Operands.lean ====
section
/-! DEFINITION. The operand forms of Yunapen instructions (R68, R69, R78): what each operand code reads and writes. -/

namespace Sys2Proof.Machine

open Sys2Proof

/-- Operand classes of the instruction summary (R68): V0 to a last register; adding K0 to K15 and Z; every source. -/
inductive Cls where
  | v (last : Nat)
  | vk
  | vks
  deriving DecidableEq, Repr

/-- The codes a class allows (R68). -/
def Cls.allows (c : Cls) (code : BitVec 6) : Bool :=
  let n := code.toNat
  match c with
  | .v last => n ≤ last
  | .vk => n < 48 || n = 63
  | .vks => n < 49 || n = 50 || n = 52 || n = 53 || n = 54 || n = 63

/-- What an instruction may read beside the registers (R68, R70, R71). -/
structure Env where
  tl : W64
  cyc : W32
  axn : W32
  deriving DecidableEq, Repr

/-- A source value: the word, and whether it is a 32-bit source (R69). -/
structure Src where
  w : W64
  narrow : Bool
  deriving DecidableEq, Repr

/-- The value of an allowed operand code as a source (R68). -/
def srcVal (c : Core) (e : Env) (code : BitVec 6) : Src :=
  let n := code.toNat
  if h : n < 32 then ⟨c.v[n], false⟩
  else if h : n - 32 < 16 then ⟨(c.k[n - 32]).setWidth 64, true⟩
  else match n with
    | 48 => ⟨c.f.setWidth 64, true⟩
    | 50 => ⟨c.lc.setWidth 64, true⟩
    | 52 => ⟨e.tl, false⟩
    | 53 => ⟨e.cyc.setWidth 64, true⟩
    | 54 => ⟨e.axn.setWidth 64, true⟩
    | _ => ⟨0, false⟩

/-- The OPERAND exception, code 1 (R106). -/
abbrev excOPERAND : BitVec 4 := 1
abbrev excADDR : BitVec 4 := 2
abbrev excSTDISC : BitVec 4 := 3
abbrev excIOWDISC : BitVec 4 := 4
abbrev excHOSTONLY : BitVec 4 := 5
abbrev excSHRW : BitVec 4 := 6
abbrev excMODE : BitVec 4 := 7
abbrev excINDEX : BitVec 4 := 8
abbrev excPREDLATE : BitVec 4 := 9

/-- Read a source of a class: a code not allowed reads 0 and raises OPERAND (R68). -/
def readSrc (c : Core) (e : Env) (cls : Cls) (code : BitVec 6) : Src × List (BitVec 4) :=
  if cls.allows code then (srcVal c e code, []) else (⟨0, false⟩, [excOPERAND])

/-- The two lanes of a source of a lane instruction: a 32-bit source is broadcast (R69). -/
def Src.x (s : Src) : W32 := laneX s.w
def Src.y (s : Src) : W32 := if s.narrow then laneX s.w else laneY s.w

/-- The present word of a V destination: for the lanes a write mask leaves (R69), and as the operand that INTEG, FILT and PI
read (R91, R97). They take V only, so any other code is not allowed and reads 0 (R68). -/
def dstOld (c : Core) (code : BitVec 6) : W64 := if h : code.toNat < 32 then c.v[code.toNat] else 0

/-- Write a whole word to V, or a 32-bit value to K; Z discards (R68). -/
def putV (c : Core) (code : BitVec 6) (w : W64) : Core :=
  if h : code.toNat < 32 then { c with v := c.v.set code.toNat w } else c
def putK (c : Core) (code : BitVec 6) (w : W32) : Core :=
  if code.toNat < 32 then c
  else if h : code.toNat - 32 < 16 then { c with k := c.k.set (code.toNat - 32) w } else c

/-- Lanes a write mask selects (R78): 0 both, 1 x only, 2 y only. -/
def wmX (wm : Nat) : Bool := wm != 2
def wmY (wm : Nat) : Bool := wm != 1

/-- Write the lanes a write mask selects; a K destination receives lane x, or lane y when the mask selects y alone (R69). -/
def writeLanes (c : Core) (cls : Cls) (code : BitVec 6) (wm : Nat) (x y : W32) : Core × List (BitVec 4) :=
  if cls.allows code then
    if code.toNat < 32 then
      let old := dstOld c code
      (putV c code (lanes (if wmX wm then x else laneX old) (if wmY wm then y else laneY old)), [])
    else (putK c code (if wm = 2 then y else x), [])
  else (c, [excOPERAND])

/-- Fill a destination from a 64-bit word: V takes it whole, K takes [31:0], or [63:32] with H (R99). -/
def fillDst (c : Core) (cls : Cls) (code : BitVec 6) (h : Bool) (w : W64) : Core × List (BitVec 4) :=
  if cls.allows code then
    if code.toNat < 32 then (putV c code w, []) else (putK c code (if h then laneY w else laneX w), [])
  else (c, [excOPERAND])

/-- The value a TRC or IOW carries: a 32-bit source in [31:0] with [63:32] as 0 (R100, R104). -/
def Src.wide (s : Src) : W64 := s.w

/-- Negate a lane for the N modifier: -2 saturates (R78). -/
def negLane (x : W32) : W32 × Bool := sat32 (-x.toInt)

/-- Source B of an instruction of R78: IMM under I, lanes exchanged under S, negated under N. The flags tell which lane's
negation saturated. -/
def readB (c : Core) (e : Env) (i : Fields) (useS useN conj : Bool) :
    (W32 × W32) × (Bool × Bool) × List (BitVec 4) :=
  let r : Src × List (BitVec 4) :=
    if i.mod.getLsbD 5 then (⟨i.imm.setWidth 64, true⟩, []) else readSrc c e .vks i.b
  let x := r.1.x
  let y := r.1.y
  let p := if useS && i.mod.getLsbD 4 then (y, x) else (x, y)
  if useN && i.mod.getLsbD 3 then
    if conj then ((p.1, (negLane p.2).1), (false, (negLane p.2).2), r.2)
    else (((negLane p.1).1, (negLane p.2).1), ((negLane p.1).2, (negLane p.2).2), r.2)
  else (p, (false, false), r.2)

end Sys2Proof.Machine
end

