-- ==== Sys2Proof/Machine/Ops.lean ====
section
/-! DEFINITION. The named operations over State: word maps, registers and fields, time, fault accounting, events,
completions and notifications, the gate outputs, and the one entry into OASIS. -/

namespace Sys2Proof.Machine

open Sys2Proof

/-! ### Word maps -/

/-- The word at a: the listed one, or the default of its address. -/
def WMap.get (d : Nat → W64) (m : WMap) (a : Nat) : W64 := (m.lookup a).getD (d a)

/-- Insert or replace an entry, keeping addresses rising. -/
def WMap.ins (a : Nat) (v : W64) : WMap → WMap
  | [] => [(a, v)]
  | (k, w) :: t => if a < k then (a, v) :: (k, w) :: t else if a = k then (a, v) :: t else (k, w) :: WMap.ins a v t

/-- Remove the entry of an address. -/
def WMap.del (a : Nat) : WMap → WMap
  | [] => []
  | (k, w) :: t => if k = a then WMap.del a t else (k, w) :: WMap.del a t

/-- Write a word: an entry equal to its default is not kept. -/
def WMap.set (d : Nat → W64) (m : WMap) (a : Nat) (v : W64) : WMap :=
  if v = d a then WMap.del a m else WMap.ins a v m

/-- The canonical form: addresses strictly rising, no entry equal to its default. -/
def WMap.wf (d : Nat → W64) : WMap → Bool
  | [] => true
  | (k, w) :: t => decide (w ≠ d k) && t.all (fun e => decide (k < e.1)) && WMap.wf d t

/-- A bank word that nothing has written reads 0 (log 2). -/
def zeroWord (_ : Nat) : W64 := 0

/-! ### Fields -/

/-- The bits a field covers. -/
def Fld.mask (f : Fld) : W64 := (BitVec.ofNat 64 (2 ^ f.w - 1)) <<< f.lo

/-- The value of a field in a register word. -/
def Fld.get (f : Fld) (w : W64) : Nat := (w.toNat >>> f.lo) % 2 ^ f.w

/-- The register word with a field replaced (the value is taken modulo the field's width). -/
def Fld.put (f : Fld) (w : W64) (v : Nat) : W64 := (w &&& ~~~f.mask) ||| ((BitVec.ofNat 64 v <<< f.lo) &&& f.mask)

/-- The signed value of a field. -/
def Fld.sget (f : Fld) (w : W64) : Int := (BitVec.ofNat f.w (f.get w)).toInt

/-! ### Axes and registers -/

/-- Every axis, port, phase and gate, ascending. -/
def allAx : List Ax := [0, 1, 2, 3, 4, 5, 6, 7]
def allPorts : List Port := [0, 1, 2, 3]
def allEng : List Eng := [0, 1, 2, 3, 4, 5, 6, 7, 8, 9]
def allPh : List Phase := [0, 1, 2]
def allGates : List Gate := [0, 1, 2, 3, 4, 5]

/-- The stored word of a register of the axis block. -/
def Axis.reg (a : Axis) (o : Nat) : W64 := WMap.get axReset a.regs o
/-- Store a word of the axis block. -/
def Axis.setReg (a : Axis) (o : Nat) (v : W64) : Axis := { a with regs := WMap.set axReset a.regs o v }
/-- A field of the axis block. -/
def Axis.get (a : Axis) (f : Fld) : Nat := f.get (a.reg f.a)
def Axis.sget (a : Axis) (f : Fld) : Int := f.sget (a.reg f.a)
/-- Replace a field of the axis block. -/
def Axis.put (a : Axis) (f : Fld) (v : Nat) : Axis := a.setReg f.a (f.put (a.reg f.a) v)

/-- Axis n. -/
def State.ax (s : State) (n : Ax) : Axis := s.axes[n]
/-- Change axis n. -/
def State.modAx (s : State) (n : Ax) (f : Axis → Axis) : State :=
  { s with axes := s.axes.set n.val (f s.axes[n]) n.isLt }
/-- A field of axis n's block. -/
def State.aget (s : State) (n : Ax) (f : Fld) : Nat := (s.ax n).get f
def State.aput (s : State) (n : Ax) (f : Fld) (v : Nat) : State := s.modAx n (fun a => a.put f v)

/-- The stored word of a register outside the axis blocks. -/
def State.dreg (s : State) (a : Nat) : W64 := WMap.get devReset s.dev a
def State.setDreg (s : State) (a : Nat) (v : W64) : State := { s with dev := WMap.set devReset s.dev a v }
/-- A field outside the axis blocks. -/
def State.dget (s : State) (f : Fld) : Nat := f.get (s.dreg f.a)
def State.dput (s : State) (f : Fld) (v : Nat) : State := s.setDreg f.a (f.put (s.dreg f.a) v)

/-- Port p. -/
def State.port (s : State) (p : Port) : PortSt := s.ports[p]
def State.modPort (s : State) (p : Port) (f : PortSt → PortSt) : State :=
  { s with ports := s.ports.set p.val (f s.ports[p]) p.isLt }
/-- Engine e. -/
def State.eng (s : State) (e : Eng) : Engine := s.engines[e]
def State.modEng (s : State) (e : Eng) (f : Engine → Engine) : State :=
  { s with engines := s.engines.set e.val (f s.engines[e]) e.isLt }
def State.bus (s : State) (x : Bus) : BusSt := s.buses[x]
def State.modBus (s : State) (x : Bus) (f : BusSt → BusSt) : State :=
  { s with buses := s.buses.set x.val (f s.buses[x]) x.isLt }
def State.modStore (s : State) (f : Store → Store) : State := { s with store := f s.store }
def State.modPins (s : State) (f : Pins → Pins) : State := { s with pins := f s.pins }
def State.modPool (s : State) (f : Pool → Pool) : State := { s with pool := f s.pool }

/-- A saturating increment of a field. -/
def satField (f : Fld) (w : W64) : W64 := f.put w (min (f.get w + 1) (2 ^ f.w - 1))
/-- A saturating increment of a field outside the axis blocks; of a field of axis n. -/
def State.dinc (s : State) (f : Fld) : State := s.setDreg f.a (satField f (s.dreg f.a))
def State.ainc (s : State) (n : Ax) (f : Fld) : State := s.modAx n (fun a => a.setReg f.a (satField f (a.reg f.a)))

/-- The next free value (the counter advances; no proof can see the value). -/
def State.takeFree (s : State) : W64 × State := (Config.freeWord s.free, { s with free := s.free + 1 })

/-! ### Time -/

/-- Units of the TIME accumulator in one nanosecond (R24). -/
abbrev unitsPerNs : Nat := 4000000000

/-- TIME in nanoseconds (R24). -/
def State.time (s : State) : W64 := BitVec.ofNat 64 (s.tm.acc / unitsPerNs)

/-- Base ticks in a microsecond and a millisecond. -/
abbrev usTicks : Nat := 400
abbrev msTicks : Nat := 400000

/-! ### Store: presenting a record -/

/-- Cistern states (R371). -/
abbrev cisNone : Nat := 0
abbrev cisMounting : Nat := 1
abbrev cisReady : Nat := 2
abbrev cisBlank : Nat := 3
abbrev cisFormatting : Nat := 4
abbrev cisFailed : Nat := 5
abbrev cisPowerfail : Nat := 6

def State.cis (s : State) : Nat := s.dget CISTERN_STAT_STATE

/-- FLAGS of a record formed now (R357). -/
def State.recFlags (s : State) : Byte :=
  BitVec.ofNat 8 (8 * s.dget SYS_TIMESTAT_DEGRADED + s.dget SYS_TIMESTAT_STATE)

/-- The bytes of a word, most significant first. -/
def wordBytes (w : W64) : List Byte := (List.range 8).map (fun i => (w >>> (8 * (7 - i))).setWidth 8)

/-- The five partitions with a CISTERN_LOSTp counter (R371). -/
abbrev partBoot : Fin 5 := 0
abbrev partLog : Fin 5 := 1
abbrev partTrace : Fin 5 := 2
abbrev partLife : Fin 5 := 3
abbrev partUser : Fin 5 := 4

/-- A record lost under R365: counted in CISTERN_LOSTp of its partition. -/
def State.lostRecord (s : State) (p : Fin 5) : State := s.dinc (CISTERN_LOST_RECORDS p.val)

/-- The next SEQ of a partition (R357). -/
def State.nextSeq (s : State) (p : Fin 5) : W32 × State :=
  (s.store.seqs[p], s.modStore (fun c => { c with seqs := c.seqs.set p.val (c.seqs[p] + 1) p.isLt }))

/-- A LOG record is presented (R358, R362): queued, or lost where the store cannot take it (R352, R365, R366). -/
def State.presentLog (s : State) (typ : Byte) (time : W64) (payload : List Byte) : State :=
  if s.cis = cisNone ∨ s.cis = cisFailed ∨ s.cis = cisFormatting ∨ s.store.logQ.length ≥ 256 then s.lostRecord partLog
  else
    let q := s.nextSeq partLog
    q.2.modStore (fun c => { c with
      logQ := c.logQ ++ [{ typ := typ, flags := s.recFlags, seq := q.1, time := time, payload := payload }] })

/-! ### Fault accounting (R297 to R302) -/

/-- The counter of a code in the axis block (R301). -/
def axCounter (c : Nat) : Option Fld :=
  match c with
  | 1 => some AX_CNT0_OC_TRIP | 2 => some AX_CNT0_DESAT | 3 => some AX_CNT0_GATE_STUCK | 4 => some AX_CNT0_HB_CONFLICT
  | 5 => some AX_CNT1_BST_UV | 7 => some AX_CNT1_PULSE_DROPPED | 14 => some AX_CNT1_ROTOR_LOST
  | 15 => some AX_CNT1_STALL | 16 => some AX_CNT2_ENC_CRC | 17 => some AX_CNT2_ENC_TIMEOUT
  | 18 => some AX_CNT2_HALL_INVALID | 19 => some AX_CNT2_SENSE_MISMATCH | 20 => some AX_CNT3_MIRAGE_LIMIT
  | 25 => some AX_CNT3_ENG_MISMATCH | 26 => some AX_CNT3_ENG_MIGRATED | 28 => some AX_CNT3_MEM_UNCORRECTABLE
  | 27 => some AX_CNT4_MEM_CORRECTED | 31 => some AX_CNT4_CDC_MISMATCH
  | _ => none

/-- The device counter of a code (R302). -/
def devCounter (c : Nat) : Option Fld :=
  match c with
  | 6 => some FAULT_DCNT0_VGD_UV | 29 => some FAULT_DCNT0_CLK_SWITCH | 30 => some FAULT_DCNT0_REF_LOST
  | 31 => some FAULT_DCNT0_CDC_MISMATCH | 21 => some FAULT_DCNT1_TEMP_WARN | 22 => some FAULT_DCNT1_TEMP_THROTTLE
  | 23 => some FAULT_DCNT1_TEMP_SHUTDOWN | 24 => some FAULT_DCNT1_TEMP_SENSOR_BAD
  | 25 => some FAULT_DCNT2_ENG_MISMATCH | 27 => some FAULT_DCNT2_MEM_CORRECTED
  | 28 => some FAULT_DCNT2_MEM_UNCORRECTABLE | 38 => some FAULT_DCNT2_PPS_LOST
  | 32 => some FAULT_DCNT3_FUSE_MARGINAL | 33 => some FAULT_DCNT3_FUSE_DRIFT | 34 => some FAULT_DCNT3_FUSE_TORN
  | 37 => some FAULT_DCNT3_STORE_FAIL | 16 => some FAULT_DCNT4_ENC_CRC | 17 => some FAULT_DCNT4_ENC_TIMEOUT
  | _ => none

/-- The counter of a code of bus x (R302); of port k (R302). -/
def busCounter (x : Nat) (c : Nat) : Option Fld :=
  match c with
  | 8 => some (FAULT_BUS0_BUS_OV1 x) | 9 => some (FAULT_BUS0_BUS_OV2 x) | 10 => some (FAULT_BUS0_BUS_OV3 x)
  | 11 => some (FAULT_BUS0_BUS_UV1 x) | 12 => some (FAULT_BUS1_BUS_UV2 x) | 13 => some (FAULT_BUS1_BRK_FAULT x)
  | _ => none
def linkCounter (k : Nat) (c : Nat) : Option Fld :=
  match c with
  | 35 => some (FAULT_LINK_LINK_CORRECTED k) | 36 => some (FAULT_LINK_LINK_CRC k)
  | _ => none

/-- Units of FAULT_LAST (R302). -/
abbrev unitSys : Nat := 30
abbrev unitDev : Nat := 31

/-- The increment of a lifetime counter waiting to be written (R298, R366): saturating, 16 bits while the store is FAILED. -/
def State.lifeCount (s : State) (code unit : Nat) : State :=
  s.modStore (fun c =>
    let k := 32 * code + unit
    let v := (WMap.get zeroWord c.lifeInc k).toNat
    let top := if s.cis = cisFailed then 2 ^ 16 - 1 else 2 ^ 32 - 1
    { c with lifeInc := WMap.set zeroWord c.lifeInc k (BitVec.ofNat 64 (if v < top then v + 1 else v)) })

/-- One occurrence of a code for a unit (R297): the 16-bit counter of the unit's block, else the device counter, and
always the lifetime counter. -/
def State.count (s : State) (code unit : Nat) : State :=
  let s := s.lifeCount code unit
  if h : unit < 8 then
    match axCounter code with
    | some f => s.ainc ⟨unit, h⟩ f
    | none => match devCounter code with | some f => s.dinc f | none => s
  else
    let own := if unit < 10 then busCounter (unit - 8) code else if 10 ≤ unit ∧ unit < 14 then linkCounter (unit - 10) code else none
    match own with
    | some f => s.dinc f
    | none => match devCounter code with | some f => s.dinc f | none => s

/-- A detected fault (R278): FAULT_LAST, FAULT_LASTTIME and a FAULT record of LOG (R358). -/
def State.detect (s : State) (code unit detail : Nat) : State :=
  let w := FAULT_LAST_DETAIL.put (FAULT_LAST_UNIT.put (FAULT_LAST_CODE.put 0 code) unit) detail
  ((s.setDreg FAULT_LAST w).setDreg FAULT_LASTTIME s.time).presentLog 0x10 s.time (wordBytes w)

/-! ### Events (R76, R77) -/

/-- The event bits of R76, as numbers of EV latches. -/
abbrev evMb : Nat := 0
abbrev evHall : Nat := 1
abbrev evEnc : Nat := 2
abbrev evPrb : Nat := 3
abbrev evDir : Nat := 4
abbrev evTrip : Nat := 5
abbrev evBus : Nat := 6
abbrev evThrm : Nat := 7

/-- The program counter moves to t; the word after an active LOOP body returns to its first word while LC is above 1
(R83), whether the body's last word falls through or is a CALL that returns. -/
def nextPc (lp : Option (BitVec 13 × BitVec 13)) (c : Core) (t : BitVec 13) (ret : Bool) :
    Core × Option (BitVec 13 × BitVec 13) :=
  match lp with
  | some (first, last) =>
    if t = last + 1 ∧ (c.pc = last ∨ ret = true) then
      if c.lc > 1 then ({ c with pc := first, lc := c.lc - 1 }, lp) else ({ c with pc := t }, none)
    else ({ c with pc := t }, lp)
  | none => ({ c with pc := t }, none)

/-- The engine of axis n halts: PTn freezes with its outputs as they are (R55, R214). -/
def State.haltNow (s : State) (n : Ax) : State :=
  match (s.ax n).engine with
  | some e =>
    (s.modEng e (fun g => { g with pool := .halted })).modAx n
      (fun a => { a.put AX_PTSTAT_FROZEN 1 with
        pt := { a.pt with frozenAt := if a.get AX_PTSTAT_FROZEN = 1 then a.pt.frozenAt else s.clk }
        halted := true, haltReq := false, missed := 0 })
  | none => s

/-- A WAIT of axis n ends after c cycles: the PC moves on, and a halt requested meanwhile takes effect (R80). -/
def State.endWait (s : State) (n : Ax) (c : Nat) : State :=
  match (s.ax n).engine with
  | some e =>
    let g := (s.eng e).core
    let r := nextPc (s.ax n).run.loop g (g.pc + 1) false
    let s := (s.modEng e (fun x => { x with core := r.1 })).modAx n
      (fun a => { a with run := { a.run with wait := none, cyc := a.run.cyc + c, loop := r.2 } })
    if (s.ax n).haltReq then s.haltNow n else s
  | none => s

/-- An event of axis n: during a tick it reaches F at once, is remembered for a recomputation and may end a WAIT;
otherwise its latch sets (R77, R80). -/
def State.raiseEv (s : State) (n : Ax) (b : Nat) : State :=
  let a := s.ax n
  let m : Byte := (1 : Byte) <<< b
  match a.run.running, a.engine with
  | true, some e =>
    let s := (s.modEng e (fun g => { g with core := { g.core with f := g.core.f ||| ((1 : W32) <<< (16 + b)) } })).modAx n
      (fun a => { a with run := { a.run with seen := a.run.seen ||| m } })
    match a.run.wait with
    | some (mask, t, t0) => if mask &&& m ≠ 0 then s.endWait n (min t (s.clk - t0)) else s
    | none => s
  | _, _ => s.modAx n (fun a => { a with ev := a.ev ||| m })

/-! ### Ports: completions and notifications -/

/-- The generation of a port (R307). -/
def State.gen (s : State) (p : Port) : Nat := s.dget (HOST_PCFG_GEN p.val)

/-- Status codes of R320. -/
abbrev stOk : Byte := 0
abbrev stCancelled : Byte := 1
abbrev stAxisFault : Byte := 2
abbrev stDeviceFault : Byte := 3
abbrev stTimeout : Byte := 4
abbrev stLostArb : Byte := 5
abbrev stNotPermitted : Byte := 6
abbrev stNotOwner : Byte := 7
abbrev stStillActive : Byte := 8
abbrev stQueueFull : Byte := 9
abbrev stBadFrame : Byte := 10
abbrev stWcet : Byte := 11
abbrev stAuth : Byte := 12
abbrev stLevel : Byte := 13
abbrev stAbandoned : Byte := 14

/-- The owner field of axis n (R313): 7 is none. -/
def State.owner (s : State) (n : Ax) : Nat := (s.dget HOST_OWN_OWNER >>> (3 * n.val)) % 8
def State.owns (s : State) (p : Port) (n : Ax) : Bool := s.owner n == p.val
def State.setOwner (s : State) (n : Ax) (o : Nat) : State :=
  s.dput HOST_OWN_OWNER ((s.dget HOST_OWN_OWNER &&& (2 ^ 24 - 1 - (7 <<< (3 * n.val)))) ||| (o <<< (3 * n.val)))

/-- A pulse of IRQk_N in pulse mode when a new completion or notification is posted under an enabled condition (R309). -/
def State.irqPulse (s : State) (p : Port) (bit : Nat) : State :=
  if s.dget (HOST_PCFG_EN p.val) = 1 ∧ s.dget (HOST_PCFG_IRQPULSE p.val) = 1 ∧ (s.dget (HOST_PCFG_IRQEN p.val) >>> bit) % 2 = 1 then
    s.modPort p (fun q => { q with irqPulses := q.irqPulses + 1, irqEnd := s.clk + usTicks })
  else s

/-- An axis that port p owns is in OASIS (R309). -/
def State.oasisOwned (s : State) (p : Port) : Bool := allAx.any (fun n => s.owns p n && (s.ax n).st == .oasis)

/-- Pulses for the conditions OAS and DEV that became true since a state (R309). -/
def State.irqRise (s old : State) : State :=
  allPorts.foldl (fun s p =>
    let s := if s.oasisOwned p && !old.oasisOwned p then s.irqPulse p 2 else s
    if s.dget FAULT_FNCTL_DEVLATCH = 1 ∧ old.dget FAULT_FNCTL_DEVLATCH = 0 then s.irqPulse p 3 else s) s

/-- DEVLATCH sets (R278, R309). -/
def State.devLatch (s : State) : State := (s.dput FAULT_FNCTL_DEVLATCH 1).irqRise s

/-- The axis a completion names (R320): the command's, 0xF for none and for a load. -/
def Cmd.axisNo (c : Cmd) : BitVec 4 :=
  match c.op with
  | .load _ _ => 15
  | .applyBoot _ => 15
  | _ => match allAx.find? (fun n => c.axes.getLsbD n.val) with | some n => BitVec.ofNat 4 n.val | none => 15

/-- Post a completion to port p's ring (R294, R321), with the count of R339: the command leaves the list of commands in
flight. -/
def State.completeWith (s : State) (p : Port) (tag : W16) (status : Byte) (axis : BitVec 4) (data : List W64)
    (wrote : Option W16) : State :=
  (s.modPort p (fun q => { q with
    cmds := q.cmds.filter (fun c => c.tag != tag),
    ring := q.ring ++ [{ tag := tag, status := status, axis := axis, data := data, time := s.time, cseq := q.cseq,
                         wrote := wrote, sent := false }],
    cseq := q.cseq + 1 })).irqPulse p 0

/-- Post a completion that counts no registers. -/
def State.complete (s : State) (p : Port) (tag : W16) (status : Byte) (axis : BitVec 4) (data : List W64) : State :=
  s.completeWith p tag status axis data none

/-- A notification for axis n's owner (R322). -/
def State.notifyPort (s : State) (p : Port) (n : Ax) (code : W16) (v : W32) : State :=
  if (s.port p).notes.length ≥ 32 then s.dinc (HOST_QSTAT_NLOST p.val)
  else
    (s.modPort p (fun q => { q with
      notes := q.notes ++ [{ code := code, value := v, axis := BitVec.ofNat 4 n.val, time := s.time, nseq := q.nseq,
                             sent := false }],
      nseq := q.nseq + 1 })).irqPulse p 1

def State.notify (s : State) (n : Ax) (code : W16) (v : W32) : State :=
  if h : s.owner n < 4 then s.notifyPort ⟨s.owner n, h⟩ n code v else s.dinc HOST_ARB_NOOWN

/-! ### Bus and fuse facts -/

/-- The bus of axis n (R242). -/
def State.busOf (s : State) (n : Ax) : Bus := if (s.dget BUS_MAP_AXBUS >>> n.val) % 2 = 1 then 1 else 0
/-- The axes of a bus. -/
def State.axesOf (s : State) (x : Bus) : List Ax := allAx.filter (fun n => s.busOf n == x)
/-- The chopper of a bus counts as faulty: BRK_FAULT latched, or MODE 0 (R251, R255). -/
def State.chopperBad (s : State) (x : Bus) : Bool := (s.bus x).fault || s.dget (BUS_BRK_MODE x.val) == 0
/-- OV2 behaviour is in force on a bus (R249, R255). -/
def State.ov2Behaviour (s : State) (x : Bus) : Bool :=
  s.dget (BUS_STAT_OV2 x.val) == 1 || (s.chopperBad x && s.dget (BUS_STAT_OV1 x.val) == 1)

/-! ### Gate outputs -/

/-- The partner of a gate. -/
def gatePartner (g : Gate) : Gate := if g.val % 2 = 0 then ⟨(g.val + 1) % 6, by omega⟩ else ⟨g.val - 1, by omega⟩
/-- The phase of a gate. -/
def gatePhase (g : Gate) : Phase := ⟨g.val / 2, by omega⟩
/-- The high and the low gate of a phase. -/
def highGate (p : Phase) : Gate := ⟨2 * p.val, by omega⟩
def lowGate (p : Phase) : Gate := ⟨2 * p.val + 1, by omega⟩

/-- All high sides, all low sides. -/
abbrev highs : BitVec 6 := 0b010101
abbrev lows : BitVec 6 := 0b101010

/-- Whether the latched faults of an axis call for a short on the high side, and on the low side (R235). -/
def Axis.calls (a : Axis) : Bool × Bool :=
  let on := a.gd.stkOn
  let open_ := BitVec.ofNat 6 (a.get AX_GDSTAT_STKOFF) ||| BitVec.ofNat 6 (a.get AX_GDSTAT_DESATG)
  ((on &&& highs != 0) || (open_ &&& lows != 0), (on &&& lows != 0) || (open_ &&& highs != 0))

/-- The short an axis applies when its option names a side (R235): 0 off, 2 low sides, 3 high sides. -/
def Axis.shortSide (a : Axis) (high : Bool) : Nat :=
  match a.calls with
  | (true, true) => 0
  | (true, false) => 3
  | (false, true) => 2
  | (false, false) => if high then 3 else 2

/-- The Oasis option in force (R234), ASC_AUTO while R255 forces it. -/
def State.oasisOpt (s : State) (n : Ax) : Nat :=
  let x := s.busOf n
  if s.chopperBad x && s.dget (BUS_STAT_OV3 x.val) == 1 then 3 else (s.ax n).gd.opt.toNat

/-- Rank 1 or 2 of R233 holds, or the hold of R392. -/
def State.heldOff (s : State) (n : Ax) : Bool :=
  let g := (s.ax n).gd
  s.pins.vgdUv || s.pins.vgdHeld || g.tripInOasis || g.bstOff || g.hold.isSome

/-- The Oasis output of axis n (R236): 0 all off, 2 low sides, 3 high sides. -/
def State.oasisOut (s : State) (n : Ax) : Nat :=
  let a := s.ax n
  if s.heldOff n then 0
  else match s.oasisOpt n with
    | 1 => a.shortSide false
    | 2 => a.shortSide true
    | 3 => if a.gd.autoShort then a.shortSide false else 0
    | _ => 0

/-- The gates of a short code. -/
def shortGates (c : Nat) : BitVec 6 := if c = 2 then lows else if c = 3 then highs else 0

/-- Physical phase of a logical one (R198). -/
def phmap (m : Nat) (p : Phase) : Phase :=
  match m, p with
  | 1, 0 => 0 | 1, 1 => 2 | 1, 2 => 1
  | 2, 0 => 2 | 2, 1 => 1 | 2, 2 => 0
  | 3, 0 => 1 | 3, 1 => 0 | 3, 2 => 2
  | 4, 0 => 1 | 4, 1 => 2 | 4, 2 => 0
  | 5, 0 => 2 | 5, 1 => 0 | 5, 2 => 1
  | _, p => p

/-- The role a mask entry gives a logical phase (R208): 0 OFF, 1 PWM, 2 LOW, 3 HIGH. -/
def Axis.role (a : Axis) (p : Phase) : Nat :=
  let e := a.get AX_PTMCTL_INDEX
  if AX_PTMCTL_FORCEOFF.get a.pt.mctl = 1 ∨ e ≥ 6 then 0
  else (AX_PTMTAB_ENTRY.get a.pt.mtab >>> (6 * e + 2 * p.val)) % 4

/-- Whether the output mask acts (R209): FORCEOFF, SRC 1 or 2, or SIX mode. -/
def Axis.maskActs (a : Axis) : Bool :=
  AX_PTMCTL_FORCEOFF.get a.pt.mctl == 1 || AX_PTMCTL_SRC.get a.pt.mctl != 0 ||
     (match a.pt.loaded with | some r => r.mode == 2 | none => false)

/-- The gates the output mask passes, physical, after swap and inversion of the roles (R208). -/
def Axis.maskGates (a : Axis) : BitVec 6 :=
  if a.maskActs then
    allPh.foldl (fun m p =>
      let q := phmap (a.get AX_PTMAP_PHMAP) p
      let inv := (a.get AX_PTMAP_INV >>> q.val) % 2 == 1
      let r := a.role p
      let hi := r == 1 || (if inv then r == 2 else r == 3)
      let lo := r == 1 || (if inv then r == 3 else r == 2)
      m ||| (if hi then (1 : BitVec 6) <<< (highGate q).val else 0) ||| (if lo then (1 : BitVec 6) <<< (lowGate q).val else 0)) 0
  else 0b111111

/-- The greatest line-to-line magnitude of the terminal voltages of one instant, and the maximum kept over a window (R237). -/
def lineToLine (x : Nat × Nat × Nat) : Nat := max x.1 (max x.2.1 x.2.2) - min x.1 (min x.2.1 x.2.2)
def keptMax (xs : List (Nat × Nat × Nat)) : Nat := xs.foldl (fun m x => max m (lineToLine x)) 0

/-- The half-bridges in overlap are held off (R223). -/
def overlapMask (o : BitVec 3) : BitVec 6 :=
  allPh.foldl (fun m p => if o.getLsbD p.val then m &&& ~~~((3 : BitVec 6) <<< (2 * p.val)) else m) 0b111111

/-- The high and the low gates of a set of phases. -/
def highsOf (v : BitVec 3) : BitVec 6 := (~~~(overlapMask v)) &&& highs
def lowsOf (v : BitVec 3) : BitVec 6 := (~~~(overlapMask v)) &&& lows

/-- A phase under a refresh of R226 has its high side off and its low side on, whatever else it is commanded. -/
def Drive.refreshed (g : Drive) (cmd : BitVec 6) : BitVec 6 := (cmd &&& overlapMask g.refresh) ||| lowsOf g.refresh

/-- The protective output that stands on axis n (R194, R233 ranks 1 to 4, R228, R286); none while the PTn command rules. -/
def State.protective (s : State) (n : Ax) : Option (BitVec 6) :=
  let a := s.ax n
  if s.heldOff n then some 0
  else if a.st = .oasis then some (shortGates (s.oasisOut n))
  else if a.gd.esc then some (if a.gd.escShort then shortGates (a.shortSide false) else 0)
  else match a.st with
    | .off | .catching | .disarm => some 0
    | .arming => some (a.gd.refreshed (match a.gd.arm.pulse with | some g => (1 : BitVec 6) <<< g.val | none => 0))
    | _ => none

/-- The gate output that R233 resolves for axis n, as it reaches Windbreak (stage 3 of R193). -/
def State.wanted (s : State) (n : Ax) : BitVec 6 := (s.protective n).getD ((s.ax n).gd.refreshed (s.ax n).pt.cmd)

/-- The gates that stages 5 and 6 let through (R193): the output mask acts on the PTn command alone (R194, R226), and the
half-bridges in overlap are held off (R223). -/
def State.passed (s : State) (n : Ax) : BitVec 6 :=
  let a := s.ax n
  (match s.protective n with
    | some _ => 0b111111
    | none => (a.maskGates &&& overlapMask a.gd.refresh) ||| lowsOf a.gd.refresh) &&& overlapMask a.gd.overlap

/-- The band that axis n is in (R270). -/
def State.axBand (s : State) (n : Ax) : Nat := (s.dget THERM_STAT_AXBAND >>> (3 * n.val)) % 8

/-- The edges between two sets of commands at time t (1/32 base ticks). -/
def edgesOf (t : Nat) (uns : Bool) (old new : BitVec 6) : List Edge :=
  allGates.filterMap (fun g =>
    let o := old.getLsbD g.val
    let w := new.getLsbD g.val
    if o == w then none else some { t := t, g := g, on := w, rq := t, uns := uns })

/-- Set the entries of the given gates. -/
def setGates {α : Type} (v : Vector α 6) (gs : BitVec 6) (x : α) : Vector α 6 :=
  Vector.ofFn (fun g => if gs.getLsbD g.val then x else v[g])

/-- Windbreak takes the commands of stage 3 at time t (R219): turn-offs act at once; a turn-on is issued if the opposite gate
is commanded off and has been confirmed below 1.5 V, and waits otherwise. A high-side turn-on that arrives on a low bootstrap
is not issued (R226). -/
def Axis.windbreak (a : Axis) (t : Nat) (want : BitVec 6) : Axis :=
  let g := a.gd
  let low := BitVec.ofNat 3 (a.get AX_GDSTAT_BSTLOW)
  let new := want &&& ~~~(g.iss ||| g.pend) &&& ~~~(highsOf g.bstHit)
  let hit := allPh.foldl (fun m p =>
    if low.getLsbD p.val && new.getLsbD (highGate p).val then m ||| ((1 : BitVec 3) <<< p.val) else m) 0
  let iss := g.iss &&& want
  let pend := (g.pend &&& want) ||| (new &&& ~~~(highsOf hit))
  let go := allGates.foldl (fun m x =>
    let y := gatePartner x
    if pend.getLsbD x.val && !want.getLsbD y.val && g.low.getLsbD y.val && !g.vgs.getLsbD y.val then
      m ||| ((1 : BitVec 6) <<< x.val) else m) 0
  { a with gd := { g with
    iss := iss ||| go, pend := pend &&& ~~~go, pendAt := setGates g.pendAt new t, bstHit := g.bstHit ||| hit } }

/-- The gates at the pins follow the issued turn-ons at time t (stages 5 and 6 of R193). Every edge takes the step set of the
band (R217); a high-side turn-on counts for the switching rate (R212); a refresh lasts REFW base ticks from the turn-on of its
low side (R226). -/
def State.atPins (s : State) (n : Ax) (t : Nat) : State :=
  let pass := s.passed n
  let band := s.axBand n
  s.modAx n (fun a =>
    let g := a.gd
    let on := g.iss &&& pass
    let ch := on ^^^ g.on
    let up := on &&& ~~~g.on
    { a with
      gd := { g with
        on := on, edgeAt := setGates g.edgeAt ch t, drv := setGates g.drv ch (a.reg (AX_GDBAND band))
        band := if ch = 0 then g.band else BitVec.ofNat 3 band, low := g.low &&& ~~~up
        refreshEnd := Vector.ofFn (fun p : Phase =>
          if up.getLsbD (lowGate p).val && g.refresh.getLsbD p.val then t / 32 + a.get AX_PTBST_REFW else g.refreshEnd[p]) }
      pt := { a.pt with highOns := a.pt.highOns + (allPh.filter (fun p => up.getLsbD (highGate p).val)).length } })

/-- The low sides that the request path turns on (R205); none in CATCH, where PTn holds the gates off (R184). -/
def Axis.lowCmds (a : Axis) : BitVec 3 :=
  if a.st = .catching then 0
  else allPh.foldl (fun m p =>
    if (a.pt.cmd &&& a.maskGates).getLsbD (lowGate p).val then m ||| ((1 : BitVec 3) <<< p.val) else m) 0

/-- The channels of axis n take the output that R233 resolves, stage by stage (R193), and the commanded edges are recorded for
the sensing front end; `uns` when they are not on its schedule (R144). -/
def State.settleAt (s : State) (n : Ax) (t : Nat) (uns : Bool) : State :=
  let want := s.wanted n
  let cmdd := want &&& s.passed n
  (s.modAx n (fun a =>
    let a := a.windbreak t want
    { a with
      gd := { a.gd with cmdd := cmdd }
      pt := { a.pt with emitted := a.pt.emitted ++ edgesOf t uns a.gd.cmdd cmdd, lowSeen := a.pt.lowSeen ||| a.lowCmds } })).atPins n t

def State.settle (s : State) (n : Ax) : State := s.settleAt n (32 * s.clk) true

/-- Every axis settles. -/
def State.settleAll (s : State) : State := allAx.foldl (fun s n => s.settle n) s

/-! ### Entering OASIS -/

/-- Set the state of an axis; its instant is kept. -/
def State.setSt (s : State) (n : Ax) (st : AxSt) : State := s.modAx n (fun a => { a with st := st, since := s.clk })

/-- Bits hi to lo of a word. -/
def wbits (w : W64) (hi lo : Nat) : Nat := (w.toNat >>> lo) % 2 ^ (hi + 1 - lo)

/-- LEVEL and VERSION as an image's first word gives them. -/
def imageLevel (ws : List W64) : Nat := wbits (ws.headD 0) 47 40
def imageVersion (ws : List W64) : Nat := wbits (ws.headD 0) 31 16

/-- The LOAD record: axis mask, LEVEL, VERSION, source, status; 0 to 3 a port, 16 and 17 bank A and bank B (log 44). -/
def State.loadRecord (s : State) (m : Byte) (ws : List W64) (src : Nat) (st : Byte) : State :=
  let v := imageVersion ws
  s.presentLog 0x13 s.time [m, BitVec.ofNat 8 (imageLevel ws), BitVec.ofNat 8 (v / 256), BitVec.ofNat 8 v,
    BitVec.ofNat 8 src, st, 0, 0]

/-- Cistern write admission is given up by a port (R361). -/
def State.releaseAdm (s : State) (p : Port) : State := if s.dget CISTERN_ADM_HOLDER = p.val then s.dput CISTERN_ADM_HOLDER 7 else s

/-- The commands that act on every axis of a mask (R347). -/
def isLoadOp : Op → Bool
  | .load _ _ => true
  | .applyBoot _ => true
  | _ => false

/-- The commands of a port that address axis n complete with a status (R295); a load or APPLY_BOOT addresses every axis of its
mask (R347), and what it has staged is dropped with it. -/
def State.failAxisCmds (s : State) (n : Ax) (p : Port) (status : Byte) : State :=
  ((s.port p).cmds.filter (fun c => c.axes.getLsbD n.val)).foldl (fun s c =>
    let s := match s.load with
      | some l =>
        if l.port = p ∧ l.tag = c.tag then
          let s := if l.store then s.releaseAdm p else s
          { s with load := none }.loadRecord l.mask l.words p.val status
        else s
      | none => s
    s.complete p c.tag status (if isLoadOp c.op then 15 else BitVec.ofNat 4 n.val) []) s

/-- Axis n enters OASIS (R287, R295): CAUSE, OASTIME, the OASIS record, the commands in flight fail, the Oasis option in
force is taken (R234), the escalation output ends. An axis already in OASIS is unchanged. -/
def State.enterOasis (s : State) (n : Ax) (cause : Nat) : State :=
  if (s.ax n).st = .oasis then s
  else
    let t := s.time
    let s0 := s
    let s := s.modAx n (fun a =>
      { ((a.put AX_STATE_CAUSE cause).setReg AX_OASTIME t) with
        st := .oasis, since := s.clk, held := false, escExit := false, uv2Req := false, stallReq := false,
        gd := { a.gd with opt := BitVec.ofNat 2 (a.get AX_OASIS_OPT), autoShort := false, esc := false,
                          escShort := false, tripInOasis := false, bstOff := false, bstHit := 0, refresh := 0, arm := Arming.idle } })
    let s := s.aput n AX_SPD_STCNT 0
    let s := allPorts.foldl (fun s p => s.failAxisCmds n p stAxisFault) s
    let s := s.irqRise s0
    (s.presentLog 0x11 t [0, 0, 0, 0, 0, 0, BitVec.ofNat 8 n.val, BitVec.ofNat 8 cause]).settle n

/-- A detected fault of axis n: counted, recorded, and the axis enters OASIS. -/
def State.axisFault (s : State) (n : Ax) (code detail : Nat) : State :=
  ((s.count code n.val).detect code n.val detail).enterOasis n code

/-! ### Views of FAULT_N and IRQ (R278, R309) -/

/-- FAULT_N is driven low (R278); in standby it follows the thermal latch alone (R405). -/
def State.faultN (s : State) : Bool :=
  if s.pins.asleep then s.dget THERM_STAT_SHUT == 1
  else allAx.any (fun n => (s.dget FAULT_FNCTL_AXMASK >>> n.val) % 2 == 1 && (s.ax n).st == .oasis) ||
    s.dget THERM_STAT_SHUT == 1 || s.dget FAULT_FNCTL_DEVLATCH == 1

/-- IRQk_N is driven low (R309): in level mode while an enabled condition holds, in pulse mode for 1 µs; it
is released in standby (R405). -/
def State.irq (s : State) (p : Port) : Bool :=
  let e := s.dget (HOST_PCFG_IRQEN p.val)
  !s.pins.asleep && s.dget (HOST_PCFG_EN p.val) == 1 &&
    (if s.dget (HOST_PCFG_IRQPULSE p.val) = 1 then decide (s.clk < (s.port p).irqEnd)
     else (e % 2 == 1 && !(s.port p).ring.isEmpty) || ((e >>> 1) % 2 == 1 && !(s.port p).notes.isEmpty) ||
       ((e >>> 2) % 2 == 1 && s.oasisOwned p) || ((e >>> 3) % 2 == 1 && s.dget FAULT_FNCTL_DEVLATCH == 1))

end Sys2Proof.Machine
end

