-- ==== Sys2Proof/Machine/Views.lean ====
section
/-! DEFINITION. What a read returns: the engine view of a D bank (R40), the mailbox windows (R50, R52), the registers whose
value other state gives, and the device register space as hosts and engines read it (R58 to R61). -/

namespace Sys2Proof.Machine

open Sys2Proof

/-! ### Banks -/

/-- A word of Pn and of Dn as the system port sees it; a word nothing has written reads 0. -/
def Axis.pword (a : Axis) (w : Nat) : W64 := WMap.get zeroWord a.p w
def Axis.dword (a : Axis) (w : Nat) : W64 := WMap.get zeroWord a.d w
def Axis.setD (a : Axis) (w : Nat) (v : W64) : Axis := { a with d := WMap.set zeroWord a.d w v }

/-- Physical words of the inbound and outbound pages (R40). -/
def inWord (page : Bool) (i : Nat) : Nat := 0x40 + (if page then 16 else 0) + i
def outWord (page : Bool) (i : Nat) : Nat := 0x60 + (if page then 32 else 0) + i

/-- The physical word an engine-view address names for reading; none reads 0 (R40). -/
def engineRead (a : Axis) (w : Nat) : Option Nat :=
  if w < 0x30 then some w
  else if w < 0x40 then none
  else if w < 0x50 then some (inWord a.mb.inPage (w - 0x40))
  else if w < 0x60 then none
  else if w < 0x80 then some (outWord (!a.mb.outPage) (w - 0x60))
  else if w < 0x100 then none
  else if w < 0x2000 then some w
  else none

/-- The engine view of a D-bank word (R40). -/
def Axis.view (a : Axis) (w : Nat) : W64 :=
  match engineRead a w with | some p => a.dword p | none => 0

/-- Whether a store to an engine-view address is kept (R40): the outbound write page and the free words. -/
def storeKept (w : Nat) : Bool := (0x60 ≤ w && w < 0x80) || (0x100 ≤ w && w < 0x2000)

/-- A word with one half, or all, replaced (R99). -/
def mergeHalf (old : W64) (half : Option Bool) (v : W64) : W64 :=
  match half with
  | none => v
  | some false => lanes (laneX v) (laneY old)
  | some true => lanes (laneX old) (laneX v)

/-- The engine view with the tick's buffered stores applied (R43). -/
def Axis.fwd (a : Axis) (w : Nat) : W64 :=
  a.run.buf.foldl (fun v e => match e.eff with
    | .st x h d => if x.toNat = w then mergeHalf v h d else v
    | _ => v) (a.view w)

/-! ### Islands (R7, R22, R32) -/

abbrev islStopped : Nat := 0
abbrev islStarting : Nat := 1
abbrev islRun : Nat := 2

/-- The state of PTn and of ADCn. -/
def State.ptIsl (s : State) (n : Ax) : Nat := (s.dget SYS_ISLAND0_PT >>> (2 * n.val)) % 4
def State.adcIsl (s : State) (n : Ax) : Nat := (s.dget SYS_ISLAND0_ADC >>> (2 * n.val)) % 4

/-- Replace the w-bit item i of a field value. -/
def putItem (v i w x : Nat) : Nat := v - ((v >>> (w * i)) % 2 ^ w) * 2 ^ (w * i) + (x % 2 ^ w) * 2 ^ (w * i)

def State.setIsl (s : State) (n : Ax) (st : Nat) : State :=
  (s.dput SYS_ISLAND0_PT (putItem (s.dget SYS_ISLAND0_PT) n.val 2 st)).dput SYS_ISLAND0_ADC
    (putItem (s.dget SYS_ISLAND0_ADC) n.val 2 st)

/-- Whether the island of a sub-block of axis n is in RUN: pulse timing is PTn, sensing is ADCn, the rest SYS and DRV (log 20). -/
def State.islOk (s : State) (n : Ax) (o : Nat) : Bool :=
  if 0x40 ≤ o && o < 0x80 then s.ptIsl n == islRun
  else if 0xC0 ≤ o && o < 0x100 then s.adcIsl n == islRun
  else true

/-! ### Running ticks -/

/-- Axis n has a loaded program (R63: WCET 0 is none). -/
def Axis.loaded (a : Axis) : Bool := a.get AX_WCET_WCET != 0

/-- The program of axis n has running ticks (R41, R50): a program, PTn in RUN, an engine that executes. -/
def State.ticks (s : State) (n : Ax) : Bool :=
  (s.ax n).loaded && s.ptIsl n == islRun &&
    (match (s.ax n).engine with | some e => (s.eng e).pool == .active || (s.eng e).pool == .halted | none => false)

/-! ### Registers that other state gives -/

/-- The state code of R286. -/
def AxSt.code : AxSt → Nat
  | .off => 0 | .arming => 1 | .starting => 2 | .running => 3 | .catching => 4 | .decel => 5 | .disarm => 6 | .oasis => 7

/-- The pool code of R35. -/
def PoolSt.code : PoolSt → Nat
  | .active => 0 | .spare => 1 | .selftest => 2 | .migrating => 3 | .halted => 4 | .retired => 5 | .stopped => 6

/-- Placement in base-tick steps is in force on axis n (R200, R201). -/
def State.hrfb (s : State) (n : Ax) : Bool := s.dget SYS_CLKSTAT_HRES_FB == 1 || (s.ax n).pt.lineBad

/-- The losses within the last LOSSWIN, base ticks (R185). -/
def State.recentLosses (s : State) (n : Ax) : List Nat :=
  (s.ax n).losses.filter (fun t => s.clk ≤ t + s.aget n AX_CATCH_LOSSWIN * msTicks)

/-- A word of the axis block as it reads: the stored word with the fields that other state gives. -/
def State.readAx (s : State) (n : Ax) (o : Nat) : W64 :=
  let a := s.ax n
  let w := a.reg o
  if o = AX_STATE then AX_STATE_STATE.put (AX_STATE_HELD.put w (if a.held then 1 else 0)) a.st.code
  else if 0x10 ≤ o ∧ o < 0x20 then a.dword (inWord (!a.mb.inPage) (o - 0x10))
  else if 0x20 ≤ o ∧ o < 0x40 then a.dword (outWord a.mb.outPage (o - 0x20))
  else if o = AX_GDSTAT then
    let oo := if a.st = .oasis then (if s.heldOff n || s.oasisOut n == 0 then 1 else s.oasisOut n) else 0
    AX_GDSTAT_VGDUV.put (AX_GDSTAT_CONF.put (AX_GDSTAT_OOUT.put (AX_GDSTAT_BAND.put w a.gd.band.toNat) oo)
      (if a.gd.overlap = 0 then 0 else 1)) (if s.pins.vgdUv then 1 else 0)
  else if o = AX_CATCH then AX_CATCH_RECENT.put w (s.recentLosses n).length
  else if o = AX_PTSTAT then AX_PTSTAT_HRFB.put w (if s.hrfb n then 1 else 0)
  else if o = AX_PTMCTL then (if AX_PTMCTL_FORCEOFF.get a.pt.mctl = 1 then AX_PTMCTL_INDEX.put w 6 else w)
  else if o = AX_PTSW then (if AX_PTSW_TARGET.get a.pt.ptsw = 0 then AX_PTSW_RATIO.put w (2 ^ 30) else w)
  else w

/-- The register of an engine that ENGINE_DBGSEL names (R62). -/
def Core.dbg (c : Core) (r : Nat) : W64 :=
  if h : r < 32 then c.v[r]
  else if h : r - 32 < 16 then c.k[r - 32].setWidth 64
  else if r = 48 then c.f.setWidth 64
  else if r = 49 then c.pc.setWidth 64
  else if r = 50 then c.lc.setWidth 64
  else if r = 51 then c.lk.setWidth 64
  else 0

/-- The axis ENGINE_DBGCTL selects. -/
def State.dbgAxis (s : State) : Ax := ⟨s.dget ENGINE_DBGCTL_AXIS % 8, by omega⟩

/-- Slots in use on a port: commands in flight and completions held (R315). -/
def PortSt.slots (q : PortSt) : Nat := q.cmds.length + q.ring.length

/-- The band and VSUP conditions of PROGRAM hold (R382): device band B1 or B2, VSUP 10.0 to 16.0 V. -/
def State.bandOk (s : State) : Bool := s.dget THERM_STAT_DBAND == 1 || s.dget THERM_STAT_DBAND == 2
def State.vsupOk (s : State) : Bool := 1000 ≤ s.dget SYS_PWRMON_VSUP && s.dget SYS_PWRMON_VSUP ≤ 1600

/-- The island state of an engine (R7, R32, R35): it is stopped while the engine is retired or in standby. -/
def PoolSt.isl (p : PoolSt) : Nat := if p = .retired ∨ p = .stopped then islStopped else islRun

/-- The island state of a host port (R7, R308): stopped while the port is disabled. -/
def State.hostIsl (s : State) (p : Port) : Nat := if s.dget (HOST_PCFG_EN p.val) = 1 then islRun else islStopped

/-- The island state of the store (R7, R32): stopped without a mounted Cistern, starting while it mounts (log 121). -/
def State.storeIsl (s : State) : Nat :=
  if s.cis = cisNone ∨ s.cis = cisFailed then islStopped else if s.cis = cisMounting then islStarting else islRun

/-- The escalation output stands on an axis of the bus (R257). -/
def State.escOn (s : State) (x : Bus) : Nat := if (s.axesOf x).any (fun n => (s.ax n).gd.esc) then 1 else 0

/-- A word outside the axis blocks as port p (or no port) reads it. -/
def State.readDev (s : State) (p : Option Port) (a : Nat) : W64 :=
  let w := s.dreg a
  if a = SYS_TIME then s.time
  else if a = SYS_ISLAND0 then
    SYS_ISLAND0_ENG.put w (allEng.foldl (fun v e => v + (s.eng e).pool.isl * 4 ^ e.val) 0)
  else if a = SYS_ISLAND1 then
    SYS_ISLAND1_STORE.put (SYS_ISLAND1_HOST.put w (allPorts.foldl (fun v p => v + s.hostIsl p * 4 ^ p.val) 0)) s.storeIsl
  else if a = ENGINE_POOL then
    BitVec.ofNat 64 (allEng.foldl (fun v e => v + (s.eng e).pool.code * 8 ^ e.val) 0)
  else if a = ENGINE_MAP then
    BitVec.ofNat 64 (allAx.foldl (fun v n => v + (match (s.ax n).engine with | some e => e.val | none => 15) * 16 ^ n.val) 0)
  else if a = ENGINE_LEVEL then
    let ls := (allAx.map (fun n => s.dget (ENGINE_CAR_LEVEL n.val))).filter (· != 0)
    ENGINE_LEVEL_MAX.put (ENGINE_LEVEL_MIN.put 0 (ls.foldl min (ls.headD 0))) (ls.foldl max 0)
  else if a = ENGINE_DBGSTAT then
    let n := s.dbgAxis
    let pc := match (s.ax n).halted, (s.ax n).engine with | true, some e => (s.eng e).core.pc.toNat | _, _ => 0
    ENGINE_DBGSTAT_MISSED.put (ENGINE_DBGSTAT_PC.put (ENGINE_DBGSTAT_HALTED.put w
      (allAx.foldl (fun v n => v + (if (s.ax n).halted then 2 ^ n.val else 0)) 0)) pc) (s.ax n).missed
  else if a = ENGINE_DBGDATA then
    match (s.ax s.dbgAxis).halted, (s.ax s.dbgAxis).engine with
    | true, some e => (s.eng e).core.dbg (s.dget ENGINE_DBGSEL_REG)
    | _, _ => 0
  else if allPorts.any (fun p => a == HOST_QSTAT p.val) then
    match allPorts.find? (fun p => a == HOST_QSTAT p.val) with
    | some k =>
      let q := s.port k
      (HOST_QSTAT_NTF k.val).put ((HOST_QSTAT_HELD k.val).put ((HOST_QSTAT_SLOTS k.val).put w q.slots) q.ring.length) q.notes.length
    | none => w
  else if a = FAULT_FNCTL then FAULT_FNCTL_FN.put w (if s.faultN then 1 else 0)
  else if a = FUSE_ADDR then (match p with | some k => (s.port k).fuseAddr | none => 0)
  else if 0x802 ≤ a ∧ a < 0x808 then
    (match p with | some k => (s.port k).fuseData.toList.getD (a - 0x802) 0 | none => 0)
  else if a = FUSE_STAT then
    FUSE_STAT_BUSY.put (FUSE_STAT_PROGOK.put w (if s.bandOk && s.vsupOk then 1 else 0))
      (if s.fuses.busy.isSome then 1 else 0)
  else if a = BUS_STAT 0 then (BUS_STAT_ESC 0).put w (s.escOn 0)
  else if a = BUS_STAT 1 then (BUS_STAT_ESC 1).put w (s.escOn 1)
  else if a = CISTERN_TRSTAT then CISTERN_TRSTAT_FILL.put w s.store.stage.length
  else w

/-! ### The register space (R58 to R61) -/

/-- Where an address falls (R58): an axis block, another block, or no range. -/
inductive Place where
  | axis (n : Ax) (o : Nat)
  | dev (a : Nat)
  | none
  deriving DecidableEq, Repr

/-- The place of an address; the own-axis window is no place here (R60). -/
def place (a : Nat) : Place :=
  if a < 0x1000 then .dev a
  else if h : a < 0x2000 then .axis ⟨(a - 0x1000) / 0x200, by omega⟩ ((a - 0x1000) % 0x200)
  else if a < 0x2800 then .dev a
  else .none

/-- A read of the register space by port p, or by an engine (none). -/
def State.readReg (s : State) (p : Option Port) (a : Nat) : W64 :=
  match place a with
  | .axis n o => s.readAx n o
  | .dev d => s.readDev p d
  | .none => 0

/-- The absolute address of an engine access by axis n: the window word 0x3000 + k is word k of its own block (R61). -/
def unalias (n : Ax) (a : Nat) : Nat :=
  if 0x3000 ≤ a ∧ a < 0x3200 then 0x1000 + 0x200 * n.val + (a - 0x3000) else a

/-- IOR by the engine of axis n (R22, R61, R100): a sub-block whose island is not in RUN reads 0. -/
def State.ior (s : State) (n : Ax) (a : Nat) : W64 :=
  match place (unalias n a) with
  | .axis m o => if s.islOk m o then s.readAx m o else 0
  | .dev d => s.readDev none d
  | .none => 0

end Sys2Proof.Machine
end

