-- ==== Sys2Proof/Machine/Yunapen.lean ====
section
/-! DEFINITION. How an engine executes one instruction (R64 to R72, R79): the frame every Yunapen instruction shares. -/

namespace Sys2Proof.Machine

open Sys2Proof

/-- What one instruction does: the registers and flags, the exceptions raised, the commit-buffer entries, where the PC goes
when not to the next word, and the sequencer's hidden state. -/
structure Res where
  core : Core
  exc : List (BitVec 4) := []
  ent : List Effect := []
  jump : Option (BitVec 13) := none
  ret : Bool := false
  loop : Option (BitVec 13 × BitVec 13) := none
  latch : Option (BitVec 3 × Bool) := none
  pred : Option W64 := none
  wait : Option (Byte × Nat) := none
  deriving DecidableEq, Repr

/-- What the engine of axis n may read beside its registers (R68, R70, R71). -/
def Axis.env (a : Axis) (n : Ax) : Env :=
  { tl := a.run.snap.tl, cyc := BitVec.ofNat 32 a.run.cyc, axn := BitVec.ofNat 32 n.val }

/-- The engine that can execute the next instruction of axis n: mapped, ACTIVE, inside a tick, not waiting (R42, R55, R80). -/
def State.ready (s : State) (n : Ax) : Option Eng :=
  let a := s.ax n
  match a.engine with
  | some e =>
    if (s.eng e).pool = .active ∧ a.run.running = true ∧ a.run.wait = none ∧ a.halted = false then some e else none
  | none => none

/-- Commit one instruction's result: F.EXC (R106), the PC (R83), CYC (R71), entries and exceptions in program order (R43). -/
def State.retire (s : State) (n : Ax) (e : Eng) (cyc : Nat) (r : Res) : State :=
  let pc := (s.eng e).core.pc
  let c := { r.core with f := fSet r.core.f fEXC (!r.exc.isEmpty) }
  let run := (s.ax n).run
  let lp := match r.loop with | some l => some l | none => run.loop
  let nx := match r.wait with
    | some _ => (c, lp)
    | none => nextPc lp c (r.jump.getD (pc + 1)) r.ret
  (s.modEng e (fun g => { g with core := nx.1 })).modAx n (fun a => { a with
    run := { a.run with
      cyc := run.cyc + cyc
      seq := run.seq + 1
      loop := nx.2
      wait := r.wait.map (fun w => (w.1, w.2, s.clk))
      buf := run.buf ++ r.ent.map (fun x => { seq := run.seq, pc := pc, eff := x })
      exc := run.exc ++ r.exc.map (fun x => { seq := run.seq, pc := pc, code := x })
      pred := match r.pred with | some v => some (run.seq, pc, v) | none => run.pred
      swt := match r.latch with | some l => l.1 | none => run.swt
      swtNeg := match r.latch with | some l => l.2 | none => run.swtNeg } })

/-- The result of an instruction that only writes registers and flags. -/
def Res.of (c : Core) (x : List (BitVec 4)) : Res := { core := c, exc := x }

/-- Set F.SAT when a lane saturated (R72). -/
def Core.sat (c : Core) (b : Bool) : Core := { c with f := fSet c.f fSAT b }

/-- Whether an evaluated lane saturated: a lane the write mask excludes is not judged (R72). -/
def satOf (wm : Nat) (x y : Bool) : Bool := (wmX wm && x) || (wmY wm && y)

/-- Write both lanes of a result and SAT. -/
def finish (c : Core) (cls : Cls) (i : Fields) (wm : Nat) (x y : W32 × Bool) (ex : Bool × Bool) (exc : List (BitVec 4)) : Res :=
  let w := writeLanes c cls i.dst wm x.1 y.1
  Res.of (w.1.sat (satOf wm (x.2 || ex.1) (y.2 || ex.2))) (exc ++ w.2)

/-- The write mask of R78. -/
def wmOf (i : Fields) : Nat := i.mod.toNat % 4

/-- The instruction word of R64 without its opcode. -/
def fieldsOf (w : W64) : Fields :=
  { dst := (w >>> 50).setWidth 6, a := (w >>> 44).setWidth 6, b := (w >>> 38).setWidth 6, mod := (w >>> 32).setWidth 6,
    imm := w.setWidth 32 }
/-- The opcode of a word. -/
def opcOf (w : W64) : Byte := (w >>> 56).setWidth 8

end Sys2Proof.Machine
end

