-- ==== Sys2Proof/Machine/YunData.lean ====
section
/-! DEFINITION. Data-path instructions of the Yunapen engine (R87 to R98, R103). -/

namespace Sys2Proof.Machine

open Sys2Proof

/-- A reserved modifier (R78, R96): nothing is written. MODE is raised, and OPERAND for every operand code that is not
allowed (R68), in the order sources, MODE, destination (log 104). -/
def modeStop (i : Fields) (c : Core) (e : Env) (cls : Cls) : Res :=
  Res.of c ((readSrc c e .vks i.a).2 ++ (readB c e i false false false).2.2 ++ [excMODE] ++
    (if cls.allows i.dst then [] else [excOPERAND]))

/-- A lane operation of R78: both lanes of A and B under the modifiers. Under INT the negation of N is part of the wrapping
integer operation of R87: it does not saturate and sets no SAT, although R78 states the saturation for every instruction that
takes N (DESIGN CHOICE, log 114). -/
def laneOp (i : Fields) (c : Core) (e : Env) (f : W32 → W32 → W32 × Bool) (wraps : Bool) : Res :=
  if (wmOf i) = 3 then modeStop i c e .vk
  else
    let a := readSrc c e .vks i.a
    let b := readB c e i true (!wraps) false
    let neg := wraps && i.mod.getLsbD 3
    let bx := if neg then -b.1.1 else b.1.1
    let by_ := if neg then -b.1.2 else b.1.2
    finish c .vk i (wmOf i) (f a.1.x bx) (f a.1.y by_) b.2.1 (a.2 ++ b.2.2)

/-- VADD (R87): saturating, or wrapping under INT. -/
def effVadd (i : Fields) (c : Core) (e : Env) : Res :=
  if i.mod.getLsbD 2 then laneOp i c e (fun x y => (x + y, false)) true
  else laneOp i c e (fun x y => sat32 (x.toInt + y.toInt)) false

/-- VSUB (R87). -/
def effVsub (i : Fields) (c : Core) (e : Env) : Res :=
  if i.mod.getLsbD 2 then laneOp i c e (fun x y => (x - y, false)) true
  else laneOp i c e (fun x y => sat32 (x.toInt - y.toInt)) false

/-- VMUL (R87): (a * b) / 2^30, or / 2^24 with W. -/
def effVmul (i : Fields) (c : Core) (e : Env) : Res :=
  let d := if i.mod.getLsbD 2 then 2 ^ 24 else 2 ^ 30
  laneOp i c e (fun x y => sat32 (roundDiv (x.toInt * y.toInt) d)) false

/-- CMUL (R88): the complex product; N conjugates B, and the negation of y saturates as R78 states (log 21). -/
def effCmul (i : Fields) (c : Core) (e : Env) : Res :=
  if (wmOf i) = 3 then modeStop i c e (.v 31)
  else
    let a := readSrc c e .vks i.a
    let b := readB c e i true true true
    let ax := a.1.x.toInt
    let ay := a.1.y.toInt
    let bx := b.1.1.toInt
    let by_ := b.1.2.toInt
    finish c (.v 31) i (wmOf i) (round60 (ax * bx - ay * by_)) (round60 (ax * by_ + ay * bx)) (b.2.1.2, b.2.1.2) (a.2 ++ b.2.2)

/-- CLARKE (R89): alpha-beta with the common mode removed; TWO ignores B. -/
def effClarke (i : Fields) (c : Core) (e : Env) : Res :=
  let a := readSrc c e (.v 31) i.a
  let u := a.1.x.toInt
  let v := a.1.y.toInt
  if i.mod.getLsbD 2 then
    finish c (.v 31) i 0 (sat32 u) (sat32 (roundRoot3 0 (u + 2 * v) 3)) (false, false) a.2
  else
    let b := readSrc c e .vks i.b
    let w := b.1.x.toInt
    finish c (.v 31) i 0 (sat32 (roundDiv (2 * u - v - w) 3)) (sat32 (roundRoot3 0 (v - w) 3)) (false, false) (a.2 ++ b.2)

/-- The three phase values of an alpha-beta pair, units of 2^-30, each rounded once (R89). -/
def iclarke3 (al be : Int) : (W32 × Bool) × (W32 × Bool) × (W32 × Bool) :=
  (sat32 al, sat32 (roundRoot3 (-al) be 2), sat32 (roundRoot3 (-al) (-be) 2))

/-- ICLARKE (R89): u and v to Vd, w and 0 to V(d+1). -/
def effIclarke (i : Fields) (c : Core) (e : Env) : Res :=
  let a := readSrc c e (.v 31) i.a
  let p := iclarke3 a.1.x.toInt a.1.y.toInt
  let c := c.sat (p.1.2 || p.2.1.2 || p.2.2.2)
  if (Cls.v 30).allows i.dst then
    Res.of (putV (putV c i.dst (lanes p.1.1 p.2.1.1)) (i.dst + 1) (lanes p.2.2.1 0)) a.2
  else Res.of c (a.2 ++ [excOPERAND])

/-- ROT (R90): each lane one of the values within 2 least significant bits of the exact result; which one is free (log 10). -/
def effRot (i : Fields) (c : Core) (e : Env) : Res :=
  let a := readSrc c e (.v 31) i.a
  let b : Src × List (BitVec 4) :=
    if i.mod.getLsbD 5 then (⟨i.imm.setWidth 64, true⟩, []) else readSrc c e .vks i.b
  let t := if i.mod.getLsbD 3 then -b.1.x else b.1.x
  let f := rotFloor a.1.x.toInt a.1.y.toInt t
  let k := Config.rotPick a.1.w t
  finish c (.v 31) i 0 (sat32 (f.1 - 1 + (k.1 % 4 : Nat))) (sat32 (f.2 - 1 + (k.2 % 4 : Nat))) (false, false) (a.2 ++ b.2)

/-- A result in lane x with 0 in lane y. -/
def scalarOp (i : Fields) (c : Core) (e : Env) (two : Bool) (f : Int → Int → Int → Int → W32 × Bool) : Res :=
  let a := readSrc c e (.v 31) i.a
  let b := if two then readSrc c e (.v 31) i.b else (⟨0, false⟩, [])
  finish c .vk i 0 (f a.1.x.toInt a.1.y.toInt b.1.x.toInt b.1.y.toInt) (0, false) (false, false) (a.2 ++ b.2)

/-- CROSS (R88). -/
def effCross (i : Fields) (c : Core) (e : Env) : Res :=
  scalarOp i c e true (fun ax ay bx by_ => round60 (ax * by_ - ay * bx))
/-- DOT (R88). -/
def effDot (i : Fields) (c : Core) (e : Env) : Res :=
  scalarOp i c e true (fun ax ay bx by_ => round60 (ax * bx + ay * by_))
/-- The nearest integer to the root of n. -/
def nearestRoot (n : Nat) : Int := let r := isqrt n; if n - r * r > r then r + 1 else r
/-- MAG (R88). -/
def effMag (i : Fields) (c : Core) (e : Env) : Res :=
  scalarOp i c e false (fun ax ay _ _ => sat32 (nearestRoot (ax * ax + ay * ay).toNat))
/-- ATAN2 (R90): an angle within 2^12 units of the exact one, which one is free (log 11); 0 for (0, 0). -/
def effAtan2 (i : Fields) (c : Core) (e : Env) : Res :=
  let a := readSrc c e (.v 31) i.a
  let r : W32 := if a.1.x = 0 ∧ a.1.y = 0 then 0
    else atanFloor a.1.x.toInt a.1.y.toInt - 4095 + BitVec.ofNat 32 (Config.atanPick a.1.w % 8192)
  finish c .vk i 0 (r, false) (0, false) (false, false) a.2

/-- INTEG (R91): the leaky integrator. -/
def effInteg (i : Fields) (c : Core) (e : Env) : Res :=
  let a := readSrc c e .vks i.a
  let b := readB c e i false false false
  let o := dstOld c i.dst
  let k := b.1.1.toInt
  let l := b.1.2.toInt
  let f := fun (v x : W32) => round60 (v.toInt * 2 ^ 30 - l * v.toInt + k * x.toInt)
  finish c (.v 31) i 0 (f (laneX o) a.1.x) (f (laneY o) a.1.y) (false, false) (a.2 ++ b.2.2)

/-- FILT (R91): the first-order filter, under the modifiers of R78 (log 22). -/
def effFilt (i : Fields) (c : Core) (e : Env) : Res :=
  if (wmOf i) = 3 then modeStop i c e (.v 31)
  else
    let a := readSrc c e .vks i.a
    let b := readB c e i true true false
    let o := dstOld c i.dst
    let f := fun (v x k : W32) => round60 (v.toInt * 2 ^ 30 + k.toInt * (x.toInt - v.toInt))
    finish c (.v 31) i (wmOf i) (f (laneX o) a.1.x b.1.1) (f (laneY o) a.1.y b.1.2) b.2.1 (a.2 ++ b.2.2)

/-- The torque comparator's output from TRQI and TRQD: 1, 0 or -1 (R92). -/
def trqOut (f : W32) : Int := if f.getLsbD fTRQI then 1 else if f.getLsbD fTRQD then -1 else 0

/-- The output's move for the difference d and the band h (R92). -/
def trqNext (o d h : Int) : Int :=
  if o = 1 then (if d ≤ 0 then 0 else 1)
  else if o = -1 then (if d ≥ 0 then 0 else -1)
  else if d ≥ h then 1 else if d ≤ -h then -1 else 0

/-- HYST (R92): the flux or torque comparator. -/
def effHyst (i : Fields) (c : Core) (e : Env) : Res :=
  let a := readSrc c e (.v 31) i.a
  let b := readSrc c e .vks i.b
  let m := a.1.y.toInt
  if i.mod.getLsbD 0 then
    let h := b.1.y.toInt
    let r0 := a.1.x.toInt
    let hi := (laneX e.tl).toInt
    let lo := -(laneY e.tl).toInt
    let r := if r0 > hi then hi else if r0 < lo then lo else r0
    let d := r - m
    let o := trqNext (trqOut c.f) d h
    let f := fPut (fPut (fSet c.f fTLIM (decide (r ≠ r0))) fTRQI (decide (o = 1))) fTRQD (decide (o = -1))
    let y : W32 := if o = 1 then 0x40000000 else if o = -1 then 0xC0000000 else 0
    finish { c with f := f } .vk i 0 (sat32 d) (y, false) (false, false) (a.2 ++ b.2)
  else
    let h := b.1.x.toInt
    let d := a.1.x.toInt - m
    let x := if d ≥ h then true else if d ≤ -h then false else c.f.getLsbD fFLX
    finish { c with f := fPut c.f fFLX x } .vk i 0 (sat32 d) (if x then 0x40000000 else 0, false) (false, false) (a.2 ++ b.2)

/-- SECT (R93): the sector of an angle. -/
def sectorOf (twelve : Bool) (t : W32) : Nat :=
  if twelve then (t + 0x0AAAAAAB).toNat * 12 / 2 ^ 32 else (t + 0x15555555).toNat * 6 / 2 ^ 32
def effSect (i : Fields) (c : Core) (e : Env) : Res :=
  let a := readSrc c e .vks i.a
  finish c .vk i 0 (BitVec.ofNat 32 (sectorOf (i.mod.getLsbD 0) a.1.x), false) (0, false) (false, false) a.2

/-- SWT (R94): the switching-table word, latched as the DTC vector. -/
def effSwt (i : Fields) (ax : Axis) (c : Core) (e : Env) : Res :=
  let a := readSrc c e .vks i.a
  let top : Int := if i.mod.getLsbD 0 then 11 else 5
  let s0 := a.1.x.toInt
  let s := if s0 < 0 then 0 else if s0 > top then top else s0
  let x1 := if s0 < 0 ∨ s0 > top then [excINDEX] else []
  let t := if c.f.getLsbD fTRQI then 0 else if c.f.getLsbD fTRQD then 2 else 1
  let addr := i.imm.toNat % 2 ^ 13 + 6 * s.toNat + (if c.f.getLsbD fFLX then 3 else 0) + t
  let x2 := if addr ≥ 0x2000 then [excADDR] else []
  let v : BitVec 3 := if addr ≥ 0x2000 then 0 else (ax.view addr).setWidth 3
  let r := finish c .vk i 0 (v.setWidth 32, false) (0, false) (false, false) (a.2 ++ x1 ++ x2)
  { r with latch := some (v, t == 2) }

/-- LIM (R96): clamp, with the high and low results to the target flags; the lanes of an empty range are free (log 105). -/
def effLim (i : Fields) (c : Core) (e : Env) : Res :=
  let tgt := i.mod.toNat / 4 % 8
  if (wmOf i) = 3 ∨ tgt ≥ 4 then modeStop i c e .vk
  else
    let a := readSrc c e .vks i.a
    let b := readSrc c e .vks i.b
    let useI := i.mod.getLsbD 5
    let m : Int := if i.imm.toInt < 0 then -i.imm.toInt else i.imm.toInt
    let lo := if useI then -m else b.1.x.toInt
    let hi := if useI then m else b.1.y.toInt
    let clampL := fun (v : W32) =>
      if lo > hi then Config.limEmpty v b.1.x b.1.y
      else if v.toInt > hi then (BitVec.ofInt 32 hi) else if v.toInt < lo then (BitVec.ofInt 32 lo) else v
    let high := (wmX (wmOf i) && decide (a.1.x.toInt > hi)) || (wmY (wmOf i) && decide (a.1.y.toInt > hi))
    let low := (wmX (wmOf i) && decide (a.1.x.toInt < lo)) || (wmY (wmOf i) && decide (a.1.y.toInt < lo))
    let f := match tgt with
      | 0 => fPut (fPut c.f fLIMH high) fLIML low
      | 1 => fPut (fPut c.f fU0 high) (fU0 + 1) low
      | 2 => fPut (fPut c.f (fU0 + 2) high) (fU0 + 3) low
      | _ => fPut c.f fVLIM high
    let w := writeLanes { c with f := f } .vk i.dst (wmOf i) (clampL a.1.x) (clampL a.1.y)
    Res.of w.1 (a.2 ++ (if useI then [] else b.2) ++ w.2)

/-- PI (R97): exact, in units of 2^-60, rounded once at the end. -/
def effPi (i : Fields) (c : Core) (e : Env) : Res :=
  let a := readSrc c e .vks i.a
  let b := readSrc c e .vks i.b
  let err := a.1.x.toInt
  let kp := b.1.x.toInt
  let ki := b.1.y.toInt
  let kl := (c.k.toList.getD (i.mod.toNat % 16) 0).toInt
  let l := (if kl < 0 then -kl else kl) * 2 ^ 30
  let s := if i.mod.getLsbD 5 then 0 else (laneY (dstOld c i.dst)).toInt * 2 ^ 30
  let s1 := s + ki * err
  let s1 := if i.mod.getLsbD 4 && c.f.getLsbD fVLIM then s else s1
  let u := kp * err + s1
  let s1 := if (u > l ∨ u < -l) ∧ Int.sign err = Int.sign u then s else s1
  let s1 := if s1 > l then l else if s1 < -l then -l else s1
  let u := kp * err + s1
  let hi := decide (u > l)
  let lo := decide (u < -l)
  let u := if hi then l else if lo then -l else u
  let f := fSet (fSet c.f fLIMH hi) fLIML lo
  finish { c with f := f } (.v 31) i 0 (round60 u) (round60 s1) (false, false) (a.2 ++ b.2)

/-- One table axis (R98): the lower entry, the fraction, and whether the input was above or below. -/
def lutIndex (x : Int) (n s : Nat) (x0 : Int) : Nat × Nat × Bool × Bool :=
  let d := x - x0
  if d < 0 then (0, 0, false, true)
  else if d > n * 2 ^ s then (n, 0, true, false)
  else (d.toNat / 2 ^ s, d.toNat % 2 ^ s, false, false)

/-- Header fields of a table (R98). -/
def lutN (w : W64) : Nat := (w.toNat >>> 44) % 1024
def lutS (w : W64) : Nat := (w.toNat >>> 32) % 32
def lut0 (w : W64) : Int := (laneX w).toInt

/-- The result of a lookup: the destination word, LIMH and LIML. -/
def lutDone (i : Fields) (c : Core) (w : W64) (hi lo : Bool) (x : List (BitVec 4)) : Res :=
  let f := fSet (fSet c.f fLIMH hi) fLIML lo
  let r := fillDst { c with f := f } (.v 31) i.dst false w
  Res.of r.1 (x ++ r.2)

/-- LUT1 (R98). The table words are read as SWT reads its table, through the engine view of R40 without the tick's buffered
stores (DESIGN CHOICE, log 115). An N of 0 and a table past 0x1FFF each raise their own exception, MODE first (log 104). -/
def effLut1 (i : Fields) (ax : Axis) (c : Core) (e : Env) : Res :=
  let a := readSrc c e .vks i.a
  let b := i.imm.toNat % 2 ^ 13
  let h := ax.view b
  let n := lutN h
  let x := (if n = 0 then [excMODE] else []) ++ (if b + 1 + n > 0x1FFF then [excADDR] else [])
  if x ≠ [] then lutDone i c 0 false false (a.2 ++ x)
  else
    let j := lutIndex a.1.x.toInt n (lutS h) (lut0 h)
    let e0 := ax.view (b + 1 + j.1)
    let e1 := if j.1 < n then ax.view (b + 2 + j.1) else e0
    let f := fun (l : W64 → W32) => BitVec.ofInt 32 (lerp (l e0).toInt (l e1).toInt j.2.1 (lutS h))
    lutDone i c (lanes (f laneX) (f laneY)) j.2.2.1 j.2.2.2 a.2

/-- LUT2 (R98), read and checked as LUT1; where the second header word would lie past 0x1FFF there is no N2 to judge. -/
def effLut2 (i : Fields) (ax : Axis) (c : Core) (e : Env) : Res :=
  let a := readSrc c e (.v 31) i.a
  let b := i.imm.toNat % 2 ^ 13
  let h1 := ax.view b
  let h2 := ax.view (b + 1)
  let n1 := lutN h1
  let n2 := lutN h2
  let x := (if n1 = 0 ∨ (n2 = 0 ∧ b + 1 ≤ 0x1FFF) then [excMODE] else []) ++
    (if b + 2 + n2 * (n1 + 1) + n1 > 0x1FFF then [excADDR] else [])
  if x ≠ [] then lutDone i c 0 false false (a.2 ++ x)
  else
    let j := lutIndex a.1.x.toInt n1 (lutS h1) (lut0 h1)
    let k := lutIndex a.1.y.toInt n2 (lutS h2) (lut0 h2)
    let j1 := if j.1 < n1 then j.1 + 1 else j.1
    let k1 := if k.1 < n2 then k.1 + 1 else k.1
    let at_ := fun (x y : Nat) => ax.view (b + 2 + y * (n1 + 1) + x)
    let f := fun (l : W64 → W32) => BitVec.ofInt 32 (bilerp (l (at_ j.1 k.1)).toInt (l (at_ j1 k.1)).toInt
      (l (at_ j.1 k1)).toInt (l (at_ j1 k1)).toInt j.2.1 (lutS h1) k.2.1 (lutS h2))
    lutDone i c (lanes (f laneX) (f laneY)) (j.2.2.1 || k.2.2.1) (j.2.2.2 || k.2.2.2) a.2

/-- PRED (R103): i - k1 * (Rs * i + e) with the coefficients captured at the boundary, units of 2^-20. -/
def effPred (i : Fields) (ax : Axis) (c : Core) (e : Env) : Res :=
  let a := readSrc c e (.v 31) i.a
  let b := readSrc c e (.v 31) i.b
  let k1 : Int := AX_MIRCO_K1.get ax.run.snap.mirco
  let rs : Int := AX_MIRCO_RS.get ax.run.snap.mirco
  let f := fun (x y : W32) => sat32 (roundDiv (x.toInt * 2 ^ 40 - k1 * (rs * x.toInt + y.toInt * 2 ^ 20)) (2 ^ 40))
  let x := f a.1.x b.1.x
  let y := f a.1.y b.1.y
  let r := finish c (.v 31) i 0 x y (false, false) (a.2 ++ b.2)
  { r with pred := some (lanes x.1 y.1) }

end Sys2Proof.Machine
end

