-- ==== Sys2Proof/Machine/YunSeq.lean ====
section
/-! DEFINITION. Sequencer, memory and I/O instructions of the Yunapen engine (R80 to R85, R99 to R105), and the table of
every instruction by opcode (R79). -/

namespace Sys2Proof.Machine

open Sys2Proof

/-- WAIT (R80): over in one cycle when a masked event bit is already set. -/
def effWait (i : Fields) (c : Core) : Res :=
  let mask : Byte := (i.imm >>> 16).setWidth 8
  if fEvents c.f &&& mask ≠ 0 then Res.of c [] else { core := c, wait := some (mask, i.imm.toNat % 2 ^ 12) }

/-- The bit of F that MOD[4:0] names; F[31:29] read 0 (R75, R81). -/
def brBit (f : W32) (m : BitVec 6) : Bool := decide (m.toNat % 32 < 29) && f.getLsbD (m.toNat % 32)

/-- BR (R81). -/
def effBr (i : Fields) (c : Core) : Res :=
  let bit := brBit c.f i.mod
  if bit != i.mod.getLsbD 5 then { core := c, jump := some (i.imm.setWidth 13) } else Res.of c []

/-- CALL and RET (R82). -/
def effCall (i : Fields) (c : Core) : Res := { core := { c with lk := c.pc + 1 }, jump := some (i.imm.setWidth 13) }
def effRet (c : Core) : Res := { core := c, jump := some c.lk, ret := true }

/-- LOOP (R83). -/
def effLoop (i : Fields) (c : Core) : Res :=
  { core := { c with lc := (i.imm >>> 16).setWidth 12 }, loop := some (c.pc + 1, i.imm.setWidth 13) }

/-- STEP (R84): a clamped index into the jump table that follows the word. -/
def effStep (i : Fields) (ax : Axis) (c : Core) (e : Env) : Res :=
  let a := readSrc c e .vks i.a
  let n : Int := i.imm.toNat % 2 ^ 10
  let k0 := a.1.x.toInt
  let k := if k0 < 0 then 0 else if k0 > n - 1 then n - 1 else k0
  let x := if k0 < 0 ∨ k0 > n - 1 then [excINDEX] else []
  let w := ax.pword (c.pc + 1 + BitVec.ofNat 13 k.toNat).toNat
  { core := c, exc := a.2 ++ x, jump := some (w.setWidth 13) }

/-- SIG (R85). -/
def effSig (i : Fields) (c : Core) (e : Env) : Res :=
  let a := readSrc c e .vks i.a
  { core := c, exc := a.2, ent := [.sig (i.imm.setWidth 16) a.1.x] }

/-- The address of LD, ST, IOR and IOW (R99): lane x of A plus IMM[15:0], modulo 2^16. -/
def memAddr (i : Fields) (a : Src) : W16 := a.x.setWidth 16 + i.imm.setWidth 16

/-- LD (R99). -/
def effLd (i : Fields) (ax : Axis) (c : Core) (e : Env) : Res :=
  let a := readSrc c e .vks i.a
  let ad := (memAddr i a.1).toNat
  let out := decide (ad ≥ 0x2000)
  let w := fillDst c .vk i.dst (i.mod.getLsbD 0) (if out then 0 else ax.fwd ad)
  Res.of w.1 (a.2 ++ (if out then [excADDR] else []) ++ w.2)

/-- ST (R99): one entry, whatever happens to the store (R43). R99 names V sources and 32-bit sources: TL, Z and a code that
is not allowed (which reads 0) are taken as 64-bit values and write the whole word (DESIGN CHOICE, log 113). -/
def effSt (i : Fields) (c : Core) (e : Env) : Res :=
  let a := readSrc c e .vks i.a
  let b := readSrc c e .vks i.b
  let ad := memAddr i a.1
  let x := if ad.toNat ≥ 0x2000 then [excADDR] else if storeKept ad.toNat then [] else [excSTDISC]
  let eff := if x.isEmpty then Effect.st ad (if b.1.narrow then some (i.mod.getLsbD 0) else none) b.1.w else .discarded
  { core := c, exc := a.2 ++ b.2 ++ x, ent := [eff] }

/-- IOR (R100). -/
def effIor (i : Fields) (s : State) (n : Ax) (c : Core) (e : Env) : Res :=
  let a := readSrc c e .vks i.a
  let w := fillDst c .vk i.dst (i.mod.getLsbD 0) (s.ior n (memAddr i a.1).toNat)
  Res.of w.1 (a.2 ++ w.2)

/-- IOW (R100): the write and its exceptions come at the drain. -/
def effIow (i : Fields) (c : Core) (e : Env) : Res :=
  let a := readSrc c e .vks i.a
  let b := readSrc c e .vks i.b
  { core := c, exc := a.2 ++ b.2, ent := [.iow (memAddr i a.1) b.1.wide] }

/-- SAMP (R101): the tick's sample set and its flags. -/
def effSamp (i : Fields) (ax : Axis) (c : Core) : Res :=
  let q := ax.run.snap
  let f := fSamp c.f q.win q.mir q.mlim q.kcf
  let c := { c with f := f }
  if (Cls.v 28).allows i.dst then
    let c := putV c i.dst (lanes q.set[0] q.set[1])
    let c := putV c (i.dst + 1) (lanes q.set[2] q.set[3])
    let c := putV c (i.dst + 2) (lanes q.set[4] q.set[5])
    Res.of (putV c (i.dst + 3) (lanes q.set[6] 0)) []
  else Res.of c [excOPERAND]

/-- APPLY (R102): one entry, none in the reserved mode. -/
def effApply (i : Fields) (ax : Axis) (c : Core) (e : Env) : Res :=
  let m : BitVec 2 := i.mod.setWidth 2
  if m = 3 then Res.of c [excMODE]
  else
    let b : Src × List (BitVec 4) :=
      if i.mod.getLsbD 5 then (⟨i.imm.setWidth 64, true⟩, []) else readSrc c e .vks i.b
    let a := if m = 1 then readSrc c e .vks i.a else (⟨0, false⟩, [])
    { core := c, exc := a.2 ++ b.2, ent := [.apply m ax.run.swt ax.run.swtNeg a.1.x a.1.y b.1.x
      (ax.run.pred.map (fun p => p.2.2))] }

/-- TRC (R104). -/
def effTrc (i : Fields) (c : Core) (e : Env) : Res :=
  let a := readSrc c e .vks i.a
  let b := readSrc c e .vks i.b
  { core := c, exc := a.2 ++ b.2, ent := [.trc (i.imm.setWidth 16) a.1.wide b.1.wide] }

/-- SHR (R105): the shared page; a read returns the engine's own buffered write to that word where there is one, also one
that the drain will discard under SHRW (R43, R106). A source that is neither V nor 32 bits wide writes the whole word, as in
ST (log 113). -/
def effShr (i : Fields) (s : State) (n : Ax) (c : Core) (e : Env) : Res :=
  let a := readSrc c e .vks i.a
  let w := (a.1.x + (i.imm &&& 0x1FF)).toNat % 512
  if i.mod.getLsbD 1 then
    let b := readSrc c e .vks i.b
    { core := c, exc := a.2 ++ b.2,
      ent := [.shr w (if b.1.narrow then some (i.mod.getLsbD 0) else none) b.1.w] }
  else
    let v := (s.ax n).run.buf.foldl (fun v x => match x.eff with
      | .shr q h d => if q = w then mergeHalf v h d else v
      | _ => v) (WMap.get zeroWord s.shared w)
    let r := fillDst c .vk i.dst (i.mod.getLsbD 0) v
    Res.of r.1 (a.2 ++ r.2)

/-- Every instruction of R79 but END: its cycles and its effect. -/
def effectOf (opc : Nat) (i : Fields) (s : State) (n : Ax) (c : Core) (e : Env) : Option (Nat × Res) :=
  let ax := s.ax n
  match opc with
  | 0x01 => some (1, effWait i c) | 0x02 => some (1, effBr i c) | 0x03 => some (1, effCall i c)
  | 0x04 => some (1, effRet c) | 0x05 => some (1, effLoop i c) | 0x06 => some (1, effStep i ax c e)
  | 0x07 => some (1, effSig i c e)
  | 0x10 => some (1, effVadd i c e) | 0x11 => some (1, effVsub i c e) | 0x12 => some (1, effVmul i c e)
  | 0x13 => some (1, effCmul i c e) | 0x14 => some (1, effClarke i c e) | 0x15 => some (1, effIclarke i c e)
  | 0x16 => some (4, effRot i c e) | 0x17 => some (1, effCross i c e) | 0x18 => some (1, effDot i c e)
  | 0x19 => some (4, effMag i c e) | 0x1A => some (4, effAtan2 i c e) | 0x1B => some (1, effInteg i c e)
  | 0x1C => some (1, effHyst i c e) | 0x1D => some (1, effSect i c e) | 0x1E => some (1, effSwt i ax c e)
  | 0x1F => some (1, effLim i c e) | 0x20 => some (1, effPi i c e) | 0x21 => some (1, effFilt i c e)
  | 0x22 => some (1, effLut1 i ax c e) | 0x23 => some (1, effLut2 i ax c e)
  | 0x30 => some (1, effLd i ax c e) | 0x31 => some (1, effSt i c e) | 0x32 => some (1, effIor i s n c e)
  | 0x33 => some (1, effIow i c e) | 0x34 => some (1, effSamp i ax c) | 0x35 => some (1, effApply i ax c e)
  | 0x36 => some (1, effPred i ax c e) | 0x37 => some (1, effTrc i c e) | 0x38 => some (1, effShr i s n c e)
  | _ => none

/-- Axis n's engine executes the instruction of an opcode; nothing happens while it cannot execute. -/
def State.engineRun (s : State) (n : Ax) (opc : Nat) (i : Fields) : State :=
  match s.ready n with
  | none => s
  | some e =>
    match effectOf opc i s n (s.eng e).core ((s.ax n).env n) with
    | some (cyc, r) => s.retire n e cyc r
    | none => s

end Sys2Proof.Machine
end

