-- ==== Sys2Proof/Machine/Drain.lean ====
section
/-! DEFINITION. The END of a tick (R43, R86): the commit buffer drains in program order, the tick's exceptions are recorded,
the outbound page is published. -/

namespace Sys2Proof.Machine

open Sys2Proof

/-! ### Engine writes of the register space (R61, R100) -/

/-- The host-only bits of a word of the axis block, the owner-only clears among them (R61, log 23). -/
def axHostMask (o : Nat) : W64 :=
  match axRow o with
  | some r => BitVec.ofNat 64 r.host |||
      (if o = AX_CNTCLR ∨ o = AX_PCTL then BitVec.ofNat 64 r.wo else if o = AX_CATCH then AX_CATCH_CLR.mask else 0)
  | none => 0

/-- The bits an engine write of a word of the axis block may change. -/
def axEngineMask (o : Nat) : W64 :=
  match axRow o with | some r => BitVec.ofNat 64 r.rw &&& ~~~(axHostMask o) | none => 0

/-- An engine write into its own axis block: HOSTONLY when it would change a host-only field; the other fields take effect. -/
def State.iowAxis (s : State) (n : Ax) (o : Nat) (v : W64) : State × List (BitVec 4) :=
  if s.islOk n o then
    let old := (s.ax n).reg o
    let hm := axHostMask o
    let x := if (v ^^^ s.readAx n o) &&& hm ≠ 0 then [excHOSTONLY] else []
    let m := axEngineMask o
    let s := s.modAx n (fun a => a.setReg o ((old &&& ~~~m) ||| (v &&& m)))
    let s := if o = AX_PTMCTL ∧ AX_PTMCTL_STEP.get v = 1 then
        s.modAx n (fun a => { a with pt := { a.pt with stepReq := true } }) else s
    (s, x)
  else (s, [])

/-- The channel that serves axis n for SSRC = 2 and EV_ENC: the first that names it (R171). -/
def State.servedBy (s : State) (n : Ax) : Option Chan :=
  ([0, 1, 2, 3] : List Chan).find? (fun k => s.dget (ENC_CFG_AXEN k.val) == 1 && s.dget (ENC_CFG_AXIS k.val) == n.val)

/-- The axis a channel serves (R171). -/
def State.encAxis (s : State) (k : Chan) : Option Ax :=
  if s.dget (ENC_CFG_AXEN k.val) = 1 then some ⟨s.dget (ENC_CFG_AXIS k.val) % 8, by omega⟩ else none

/-- The axis a channel serves for SSRC = 2 and EV_ENC (R171). -/
def State.encFirst (s : State) (k : Chan) : Option Ax := (s.encAxis k).filter (fun n => s.servedBy n == some k)

/-- A request for an SSI word (R174): ignored and counted while a transaction runs; after a timeout none is served until ENCkB
has read high (R175). -/
def State.ssiStart (s : State) (k : Chan) : State :=
  let q := s.enc[k]
  if s.dget (ENC_CFG_MODE k.val) ≠ 2 then s
  else if q.reqAt.isSome then s.dinc (ENC_STAT_OVERRUN k.val)
  else if q.hold then s
  else
    ({ s with enc := s.enc.set k.val { q with reqAt := some s.clk } k.isLt }).dput (ENC_STAT_BUSY k.val) 1

/-- An engine write into the ENC block (R172): only ENCk_REQ.REQ of a channel that serves its axis. -/
def State.iowEnc (s : State) (n : Ax) (a : Nat) (v : W64) : State × List (BitVec 4) :=
  match ([0, 1, 2, 3] : List Chan).find? (fun k => a == ENC_REQ k.val) with
  | some k =>
    if s.encAxis k = some n then ((if (ENC_REQ_REQ k.val).get v = 1 then s.ssiStart k else s), [])
    else (s, [excIOWDISC])
  | none =>
    match devRow a with
    | some r => (s, if (v ^^^ s.dreg a) &&& BitVec.ofNat 64 (r.rw ||| r.wo) ≠ 0 then [excHOSTONLY] else [])
    | none => (s, [])

/-- IOW at the drain (R61, R100). -/
def State.iow (s : State) (n : Ax) (a : Nat) (v : W64) : State × List (BitVec 4) :=
  match place (unalias n a) with
  | .axis m o => if m = n then s.iowAxis n o v else (s, [excIOWDISC])
  | .dev d => if 0x2000 ≤ d ∧ d < 0x2400 then s.iowEnc n d v else (s, [excIOWDISC])
  | .none => (s, [excIOWDISC])

/-! ### Trace records (R104, R359, R360) -/

/-- A lost trace record: OVF, STORE_FAIL once per run of losses, the run's span for the GAP record (R360). -/
def State.traceLost (s : State) (t : W64) : State :=
  let s := s.dinc CISTERN_TRSTAT_OVF
  match s.store.gap with
  | none => (s.count 37 unitDev).modStore (fun c => { c with gap := some (1, t, t) })
  | some g => s.modStore (fun c => { c with gap := some (g.1 + 1, g.2.1, t) })

/-- TRC at the drain: admission, then staging (R359, R360, R352). -/
def State.trace (s : State) (n : Ax) (tag : W16) (a b : W64) : State :=
  if (s.dget CISTERN_TRCFG_EN).testBit n.val then
    let dec := (s.dget CISTERN_TRDEC_DEC >>> (8 * n.val)) % 256
    let cnt := s.store.dec[n]
    let taken := tag.getLsbD 11 || dec ≤ cnt
    let s := if tag.getLsbD 11 then s
      else s.modStore (fun c => { c with dec := c.dec.set n.val (if dec ≤ cnt then 0 else cnt + 1) n.isLt })
    if taken then
      let t := (s.ax n).run.time
      if s.cis = cisNone then s.lostRecord partTrace
      else if s.store.stage.length ≥ 32768 then s.traceLost t
      else match s.load with
        | some l => if l.store then s.modStore (fun c => { c with stage := c.stage ++ [(t, n, tag, a, b)] }) else s.traceLost t
        | none => s.modStore (fun c => { c with stage := c.stage ++ [(t, n, tag, a, b)] })
    else s
  else s

/-! ### The drain -/

/-- One entry of the commit buffer acts (R43). -/
def State.drainOne (s : State) (n : Ax) (x : Entry) : State × List Exc :=
  let tagged := fun (cs : List (BitVec 4)) => cs.map (fun c => ({ seq := x.seq, pc := x.pc, code := c } : Exc))
  match x.eff with
  | .st a h v =>
    (match engineRead (s.ax n) a.toNat with
      | some w => s.modAx n (fun q => q.setD w (mergeHalf (q.dword w) h v))
      | none => s, [])
  | .iow a v => let r := s.iow n a.toNat v; (r.1, tagged r.2)
  | .apply m vec neg ax ay bx pr =>
    (s.modAx n (fun q => { q with pt := { q.pt with
      committed := some { mode := m, vec := vec, neg := neg, ax := ax, ay := ay, bx := bx, pred := pr } } }), [])
  | .sig c v => (s.notify n c v, [])
  | .trc t a b => (s.trace n t a b, [])
  | .shr w h v =>
    if w / 64 = n.val ∧ w % 64 ≠ 0 then
      ({ s with shared := WMap.set zeroWord s.shared w (mergeHalf (WMap.get zeroWord s.shared w) h v) }, [])
    else (s, tagged [excSHRW])
  | .discarded => (s, [])

/-- SEQ of segment n advances by one (R54). -/
def State.bumpSeq (s : State) (n : Ax) : State :=
  { s with shared := WMap.set zeroWord s.shared (64 * n.val) (WMap.get zeroWord s.shared (64 * n.val) + 1) }

/-- Whether an entry writes the axis's own segment. -/
def Entry.writesShared (n : Ax) (x : Entry) : Bool :=
  match x.eff with | .shr w _ _ => decide (w / 64 = n.val ∧ w % 64 ≠ 0) | _ => false

/-- The whole buffer drains, in program order. A drain whose only SHR writes are discarded under SHRW carries no write of the
segment, and SEQ stays (R54; DESIGN CHOICE, log 116). -/
def State.drainAll (s : State) (n : Ax) (buf : List Entry) : State × List Exc :=
  let shr := buf.any (Entry.writesShared n)
  let s := if shr then s.bumpSeq n else s
  let r := buf.foldl (fun (p : State × List Exc) x => let q := p.1.drainOne n x; (q.1, p.2 ++ q.2)) (s, [])
  (if shr then r.1.bumpSeq n else r.1, r.2)

/-- Insert an exception behind those of the same or an earlier instruction. -/
def insExc (x : Exc) : List Exc → List Exc
  | [] => [x]
  | y :: t => if x.seq < y.seq then x :: y :: t else y :: insExc x t

/-- ENGINE_EXCn takes the tick's exceptions in the order of the instructions that raised them (R106, R107). -/
def State.recordExc (s : State) (n : Ax) (xs : List Exc) : State :=
  xs.foldl (fun s x =>
    let w := s.dreg (ENGINE_EXC n.val)
    let w := if (ENGINE_EXC_COUNT n.val).get w = 0 then
        (ENGINE_EXC_FPC n.val).put ((ENGINE_EXC_FIRST n.val).put w x.code.toNat) x.pc.toNat else w
    s.setDreg (ENGINE_EXC n.val) ((ENGINE_EXC_LAST n.val).put (satField (ENGINE_EXC_COUNT n.val) w) x.code.toNat)) s

/-- The prediction that came after the tick's last APPLY (R103). -/
def TickRun.latePred (r : TickRun) : Option (Nat × BitVec 13) :=
  let last := (r.buf.filterMap (fun x => match x.eff with | .apply _ _ _ _ _ _ _ => some x.seq | _ => none)).getLast?
  match last, r.pred with
  | some q, some (p, pc, _) => if p > q then some (p, pc) else none
  | _, _ => none

/-- The write page becomes the published page, OSEQ advances, and the new write page is filled from it (R52). -/
def Axis.publish (a : Axis) : Axis :=
  let pub := !a.mb.outPage
  let a := { a.put AX_MBCTL_OSEQ ((a.get AX_MBCTL_OSEQ + 1) % 2 ^ 16) with mb := { a.mb with outPage := pub } }
  (List.range 32).foldl (fun a i => a.setD (outWord (!pub) i) (a.dword (outWord pub i))) a

/-- The stall monitor evaluates a committed tick (R127): STCNT of a qualifying tick in RUN, else 0. -/
def Axis.stallTick (a : Axis) (tlim curb : Bool) : Axis :=
  if a.st = .running ∧ a.get AX_STALL_TICKS ≠ 0 then
    if (a.sget AX_SPD_SPEED).natAbs < a.get AX_STALL_SPDTH * 2 ^ 16 ∧ (tlim || curb) = true then
      a.setReg AX_SPD (satField AX_SPD_STCNT (a.reg AX_SPD))
    else a.put AX_SPD_STCNT 0
  else a.put AX_SPD_STCNT 0

/-- The migration that this commit completes (R281 step 7, R434): ENG_MIGRATED and FAULT_MIGLAST. -/
def State.migrated (s : State) (n : Ax) : State :=
  match s.pool.redo.find? (fun r => r.1 == n) with
  | some (_, t0, fr, sp, cause) =>
    let s := s.count 26 n.val
    let w := satField FAULT_MIGLAST_COUNT (s.dreg FAULT_MIGLAST)
    let w := FAULT_MIGLAST_DUR.put w (min ((s.clk - t0) / 4) 65535)
    let w := FAULT_MIGLAST_CAUSE.put w cause.toNat
    let w := FAULT_MIGLAST_TO.put (FAULT_MIGLAST_FROM.put w fr.val) sp.val
    let w := FAULT_MIGLAST_AXIS.put w n.val
    (s.setDreg FAULT_MIGLAST w).modPool (fun p => { p with redo := p.redo.filter (fun r => r.1 != n) })
  | none => s

/-- END of axis n's tick (R43, R86): drain, exceptions, publication, LAST, the stall monitor; a debug resume unfreezes the
pulse island here (R56); a halt requested during the drain follows it. -/
def State.endTick (s : State) (n : Ax) (e : Eng) : State :=
  let run := (s.ax n).run
  let late := run.latePred
  let d := s.drainAll n run.buf
  let pl := match late with | some (q, pc) => [({ seq := q, pc := pc, code := excPREDLATE } : Exc)] | none => []
  let xs := (d.2 ++ pl).foldl (fun xs x => insExc x xs) run.exc
  let s := d.1.recordExc n xs
  let f := (s.eng e).core.f
  let s := s.modAx n (fun a =>
    let a := match late, a.pt.committed with
      | some _, some r => { a with pt := { a.pt with committed := some { r with pred := none } } }
      | _, _ => a
    let curb := a.pt.curb
    let a := (a.publish.put AX_WCET_LAST (run.cyc + 1 + run.buf.length)).put AX_TLSTAT_CURB (if curb then 1 else 0)
    let a := a.stallTick (f.getLsbD fTLIM) curb
    let a := if a.resuming then a.put AX_PTSTAT_FROZEN 0 else a
    { a with run := { TickRun.idle with time := run.time, cyc := run.cyc + 1 },
             resuming := false, pt := { a.pt with drained := true } })
  let s := if run.recompute then s.migrated n else s
  let s := s.settle n
  if (s.ax n).haltReq then s.haltNow n else s

end Sys2Proof.Machine
end

