-- ==== Sys2Proof/Machine/Pulse.lean ====
section
/-! DEFINITION. The pulse-timing island (chapter 7): from the loaded request to the schedule of gate edges, stages 1 to 3 of
R193; the apertures the sensing front end chooses on that schedule (R142, R143). Times are in 1/32 base ticks (R200). -/

namespace Sys2Proof.Machine

open Sys2Proof

/-- A phase's segments of one tick: ascending starts, each with a state. -/
abbrev Segs := List (Nat × Ph)

/-- The state of a phase in a switch vector (R95). -/
def vecPh (v : Nat) (p : Phase) : Ph :=
  let hi := match p.val with
    | 0 => v == 1 || v == 2 || v == 6 || v == 7
    | 1 => v == 2 || v == 3 || v == 4 || v == 7
    | _ => v == 4 || v == 5 || v == 6 || v == 7
  if hi then .h else .l

/-- The fill vector that ZFILL chooses against a latched vector (R196); V0 and V7 carry the whole tick themselves (R195). -/
def fillVec (zfill vec : Nat) : Nat :=
  if vec = 0 ∨ vec = 7 then vec
  else match zfill with
    | 1 => 0
    | 2 => 7
    | _ => if vec % 2 = 0 then 7 else 0

/-- The zero vector of DUTY and SIX modes (R195, R213, R249). -/
def zeroVec (zfill : Nat) : Nat := if zfill = 2 then 7 else 0

/-- A duty clamped to 0 to 1.0, Q2.30. -/
def duty01 (d : W32) : Nat := min d.toInt.toNat (2 ^ 30)

/-- An exact time num / den rounded to the placement step (R200). -/
def placeStep (hrfb : Bool) (num den : Nat) : Nat :=
  if hrfb then 32 * ((2 * num + 32 * den) / (64 * den)) else (2 * num + den) / (2 * den)

/-- The segments of one carrier period that starts at c with duty d, cut to [lo, hi): H centred on the midpoint, each edge
placed on its step (R195, R200). -/
def carrierSegs (hrfb : Bool) (c tp d lo hi : Nat) : Segs :=
  let a := c + placeStep hrfb (2 ^ 30 * tp - d * tp) (2 ^ 31)
  let b := c + placeStep hrfb (2 ^ 30 * tp + d * tp) (2 ^ 31)
  let raw : Segs := if d ≥ 2 ^ 30 then [(c, .h)] else if b ≤ a then [(c, .l)] else [(c, .l), (a, .h), (b, .l)]
  let st := fun (t : Nat) => (raw.filter (fun x => x.1 ≤ t)).getLastD (c, .l)
  (lo, (st lo).2) :: raw.filter (fun x => lo < x.1 ∧ x.1 < hi)

/-- The carrier periods that start in (from, to_), at most k of them. -/
def carrierStarts (tp to_ : Nat) : Nat → Nat → List Nat
  | 0, _ => []
  | k + 1, c => if c < to_ then c :: carrierStarts tp to_ k (c + tp) else []

/-- A PWM phase over one tick: the running period carries the old duty (none: the zero vector z), later ones the new (R195). -/
def pwmSegs (hrfb : Bool) (c0 tp b e : Nat) (old : Option Nat) (z : Ph) (d : Nat) : Segs :=
  let c := c0 + (b - c0) / tp * tp
  let next := if c = b then b else c + tp
  let head : Segs := if c = b then [] else match old with
    | some o => carrierSegs hrfb c tp o b (min next e)
    | none => [(b, z)]
  head ++ ((carrierStarts tp e 24 next).flatMap (fun k => carrierSegs hrfb k tp d k (min (k + tp) e)))

/-- Whether a carrier period starts in [b, e). -/
def carrierNew (c0 tp b e : Nat) : Bool :=
  let c := c0 + (b - c0) / tp * tp
  c == b || c + tp < e

/-- Merge neighbours of equal state. -/
def mergeSegs : Segs → Segs
  | [] => []
  | [x] => [x]
  | x :: y :: t => if x.2 = y.2 then mergeSegs (x :: t) else x :: mergeSegs (y :: t)

/-- The state of a phase at an instant. -/
def segAt (l : Segs) (t : Nat) : Ph := ((l.filter (fun x => x.1 ≤ t)).getLastD (0, .off)).2

/-- Replace a span of a phase's request: the forced window (R148), the current bound (R207), OV2 behaviour (R249). -/
def replaceSpan (l : Segs) (t1 t2 : Nat) (x : Ph) : Segs :=
  l.filter (fun q => q.1 < t1) ++ (t1, x) :: (t2, segAt l t2) :: l.filter (fun q => t2 < q.1)
def replaceFrom (l : Segs) (t1 : Nat) (x : Ph) : Segs := l.filter (fun q => q.1 < t1) ++ [(t1, x)]

/-! ### Stage 1 -/

/-- The request in force as phase segments over the tick that starts at b (base ticks) with period T, the end of the DTC
active segment, the zero vector of the tick, and the duties the last carrier period carries. -/
def formRequest (a : Axis) (hrfb : Bool) (r : Req) (zeroed : Bool) (b per : Nat) :
    Vector Segs 3 × Nat × Nat × Option (W32 × W32 × W32) :=
  let b32 := 32 * b
  let e := 32 * (b + per)
  let z := a.get AX_PTCFG_ZFILL
  match r.mode with
  | 0 =>
    let v := r.vec.toNat
    let f := fillVec z v
    if zeroed ∨ v = 0 ∨ v = 7 then (Vector.ofFn (fun p => [(b32, vecPh f p)]), b32, f, none)
    else
      let dmin := a.get AX_PTCFG_DMIN * 2 ^ 18
      let d := max (duty01 r.bx) dmin
      let len := placeStep hrfb (d * 32 * per) (2 ^ 30)
      if d ≥ 2 ^ 30 ∨ 32 * per ≤ len then (Vector.ofFn (fun p => [(b32, vecPh v p)]), e, f, none)
      else (Vector.ofFn (fun p => [(b32, vecPh v p), (b32 + len, vecPh f p)]), b32 + len, f, none)
  | m =>
    let f := zeroVec z
    if zeroed then (Vector.ofFn (fun p => [(b32, vecPh f p)]), b32, f, none)
    else
      let tp := 32 * max 1 (a.get AX_PTCFG_PWMPER)
      let c0 := 32 * a.pt.carrier
      let ds : W32 × W32 × W32 := if m = 1 then (r.ax, r.ay, r.bx) else (r.bx, r.bx, r.bx)
      let dOf := fun (q : W32 × W32 × W32) (p : Phase) => duty01 (match p.val with | 0 => q.1 | 1 => q.2.1 | _ => q.2.2)
      let pwm := fun (p : Phase) =>
        pwmSegs hrfb c0 tp b32 e (a.pt.duties.map (fun q => dOf q p)) (vecPh f p) (dOf ds p)
      let segs := Vector.ofFn (fun p : Phase =>
        if m = 1 then pwm p
        else match a.role p with
          | 1 => pwm p
          | 2 => [(b32, .l)]
          | 3 => [(b32, .h)]
          | _ => [(b32, .off)])
      (segs, e, f, if carrierNew c0 tp b32 e then some ds else a.pt.duties)

/-- One override code pair applied to a phase state (R197): the new state, and whether the two codes conflict. -/
def override (w : W64) (p : Phase) (x : Ph) : Ph × Bool :=
  if AX_PTOVR_EN.get w = 1 then
    let g := AX_PTOVR_GATE.get w
    let ch := (g >>> (4 * p.val)) % 4
    let cl := (g >>> (4 * p.val + 2)) % 4
    let hi := if ch = 0 then x = .h else ch = 2
    let lo := if cl = 0 then x = .l else cl = 2
    if hi ∧ lo then (.off, true) else if hi then (.h, false) else if lo then (.l, false) else (.off, false)
  else (x, false)

/-! ### Stage 2 -/

/-- The logical phase that drives a physical one (R198). -/
def unmap (m : Nat) (q : Phase) : Phase := (allPh.find? (fun p => phmap m p == q)).getD q

/-- A physical phase's segments: overrides, swap and inversion (R197 to R199). -/
def physSegs (a : Axis) (plan : Vector Segs 3) (q : Phase) : Segs × Bool :=
  let p := unmap (a.get AX_PTMAP_PHMAP) q
  let inv := (a.get AX_PTMAP_INV).testBit q.val
  let l := plan[p].map (fun x => (x.1, override a.pt.ovr p x.2))
  (mergeSegs (l.map (fun x => (x.1, match x.2.1 with
    | .h => if inv then .l else .h
    | .l => if inv then .h else .l
    | .off => .off))), l.any (fun x => x.2.2))

/-! ### Stage 3: dead time, narrow pulses, refresh -/

/-- Parameters of stage 3, 1/32 base ticks: dead time, t_min, whether NARROW is STRETCH, whether a frozen island runs again,
the instant from which the schedule is built, the tick's end. -/
structure S3Cfg where
  tdt : Nat
  tmin : Nat
  stretch : Bool
  thaw : Bool
  now : Nat
  stop : Nat
  deriving DecidableEq, Repr

/-- The narrow-pulse limit t_dt + t_min (R203). -/
def S3Cfg.lim (k : S3Cfg) : Nat := k.tdt + k.tmin

/-- Stage 3 of one physical phase as it walks its segments: gates commanded, last turn-offs (which may lie ahead, at the end
of a stretch), stretch ends, the state requested before, the edges so far, the intervals dropped and stretched (requested
turn-on, side, true for a drop), a deferred turn-on. Side true is the high gate. -/
structure S3 where
  hi : Bool
  lo : Bool
  offH : Nat
  offL : Nat
  holdH : Nat
  holdL : Nat
  prev : Ph
  out : List (Nat × Bool × Bool × Nat)
  marks : List (Nat × Bool × Bool)
  defer : Option (Bool × Nat)
  deriving DecidableEq, Repr

/-- Turn a side off at t, or at the end of its stretch (R203). -/
def S3.off (x : S3) (side : Bool) (t : Nat) : S3 :=
  if side then
    if x.hi then let u := max t x.holdH; { x with hi := false, offH := u, out := x.out ++ [(u, true, false, u)] } else x
  else if x.lo then let u := max t x.holdL; { x with lo := false, offL := u, out := x.out ++ [(u, false, false, u)] } else x

/-- Turn a side on at t; rq is the requested instant, moved with a turn-on that a stretch of the partner moves (R203). -/
def S3.on (k : S3Cfg) (x : S3) (side : Bool) (t rq : Nat) : S3 :=
  let q := max rq (t - k.tdt)
  if side then { x with hi := true, out := x.out ++ [(t, true, true, q)] }
  else { x with lo := true, out := x.out ++ [(t, false, true, q)] }

/-- A side whose turn-off at u lies ahead stays on: the two intervals join (R203). -/
def S3.rejoin (x : S3) (side : Bool) (u : Nat) : S3 :=
  let out := x.out.filter (fun o => !(o.1 == u && o.2.1 == side && !o.2.2.1))
  if side then { x with hi := true, out := out } else { x with lo := true, out := out }

def S3.isOn (x : S3) (side : Bool) : Bool := if side then x.hi else x.lo
def S3.offAt (x : S3) (side : Bool) : Nat := if side then x.offH else x.offL
def S3.setHold (x : S3) (side : Bool) (t : Nat) : S3 := if side then { x with holdH := t } else { x with holdL := t }
def S3.mark (x : S3) (t : Nat) (side drop : Bool) : S3 := { x with marks := x.marks ++ [(t, side, drop)] }

/-- The side a state asks for. -/
def Ph.side : Ph → Option Bool
  | .h => some true
  | .l => some false
  | .off => none

/-- When a side is commanded on that is asked for at s (first at rq, if deferred) and whose partner's last turn-off is at offT
(R202): t_dt after the partner, or t_dt after rq where the state changes from the partner's to this one, or at s from OFF. An
island that runs again keeps t_dt from the turn-off that it froze after. -/
def turnOn (k : S3Cfg) (s rq offT : Nat) (wasOn opp : Bool) : Nat :=
  if wasOn || decide (offT > s) || (k.thaw && decide (0 < offT)) then max k.now (offT + k.tdt)
  else if opp then max k.now (max s (max rq offT + k.tdt))
  else max k.now s

/-- One requested interval of a side (R202, R203), asked for from s to e; rq is the instant its length counts from (earlier
than s when it was deferred) and nx the state requested after it. -/
def S3.interval (k : S3Cfg) (x : S3) (side : Bool) (s e rq : Nat) (nx : Option Ph) : S3 :=
  if x.isOn side then x
  else
    let y := !side
    let opp := x.prev.side == some y
    let wasOn := x.isOn y
    let own := x.offAt side
    let x1 := x.off y (max s k.now)
    let offT := x1.offAt y
    let late := decide (offT > s)
    let tOn := turnOn k s rq offT wasOn opp
    let w := e - rq
    if own > max s k.now ∧ late = false then
      -- its own stretch still runs, and the partner was never on between
      if k.lim ≤ w ∨ e ≥ k.stop then (x1.rejoin side own).setHold side own
      else if k.stretch then ((x1.rejoin side own).setHold side (max own (s + k.lim))).mark rq side false
      else x1.mark rq side true
    else if e < k.stop ∧ late = true ∧ e < tOn + k.tmin ∧ (k.stretch = true ∨ k.lim ≤ w) then x1.mark rq side true
    else if k.lim ≤ w ∧ tOn + k.tmin ≤ e then S3.on k x1 side tOn s
    else if e ≥ k.stop then { x1 with defer := some (side, rq) }
    else if k.stretch then ((S3.on k x1 side tOn s).setHold side (max (s + k.lim) (tOn + k.tmin))).mark rq side false
    else if opp && wasOn && (nx.bind Ph.side == some y) then x.mark rq side true
    else x1.mark rq side true

/-- Walk the segments of a tick. -/
def S3.walk (k : S3Cfg) : S3 → Segs → S3
  | x, [] => x
  | x, (s, st) :: rest =>
    let e := match rest with | (t, _) :: _ => t | [] => k.stop
    let nx := match rest with | (_, q) :: _ => some q | [] => none
    let x := match st.side with
      | none => (x.off true (max s k.now)).off false (max s k.now)
      | some side => S3.interval k x side s e s nx
    S3.walk k { x with prev := st } rest

/-- A turn-on that the last boundary took up and that a rewrite finds still to be issued: its side and requested instant, while
the segment that runs is the tick's first one and asks for that side (R203). -/
def S3.waits (x : S3) (d : Option (Bool × Nat)) (b : Nat) (segs : Segs) : Option (Bool × Nat) :=
  match d, segs with
  | some (side, rq), (s, st) :: _ => if st.side = some side ∧ s ≤ b ∧ x.isOn side = false then some (side, rq) else none
  | _, _ => none

/-- A turn-on deferred to this boundary (R203): joined to the first segment when it asks for the side, else judged here. -/
def S3.resume (k : S3Cfg) (d : Option (Bool × Nat)) (x : S3) (segs : Segs) : S3 × Segs :=
  match d, segs with
  | some (side, rq), (s, st) :: rest =>
    let y := !side
    let offY := if x.isOn y then max s (if y then x.holdH else x.holdL) else x.offAt y
    if st.side = some side then
      let e := match rest with | (t, _) :: _ => t | [] => k.stop
      let nx := match rest with | (_, q) :: _ => some q | [] => none
      let x := { x with prev := if offY ≥ rq then (if y then .h else .l) else .off }
      let x1 := S3.interval k x side s e rq nx
      ({ x1 with prev := st }, rest)
    else
      let tOn := if offY ≥ rq then max s (offY + k.tdt) else s
      if k.stretch = true ∧ tOn + k.tmin ≤ s + k.lim then
        let x1 := ((S3.on k (x.off y s) side tOn s).setHold side (s + k.lim)).mark s side false
        ({ x1 with prev := if side then .h else .l }, segs)
      else ({ x.mark s side true with prev := .off }, segs)
  | _, _ => (x, segs)

/-- Stage 3 of one physical phase: a refresh pulse that ends at r takes precedence (R205: the high side off at once, the low
side on from t_dt after the boundary until r, then the request); else a deferred turn-on, then the request's segments. A
turn-on that was deferred to a boundary with a refresh and is not asked for there is judged at that boundary. -/
def stage3 (k : S3Cfg) (ref : Option (Nat × Nat)) (x : S3) (d : Option (Bool × Nat)) (segs : Segs) : S3 :=
  match ref with
  | some (b, r) =>
    let x := match d, segs with
      | some (side, _), (s, st) :: _ =>
        if st.side = some side then x else x.mark s side (side || !k.stretch)
      | _, _ => x
    let x := { x with holdH := 0 }.off true (max b k.now)
    let x := if x.lo then x else S3.on k x false (max k.now (b + k.tdt)) b
    S3.walk k { x.setHold false r with prev := .l } ((r, segAt segs r) :: segs.filter (fun q => r < q.1))
  | none =>
    let q := S3.resume k d x segs
    S3.walk k q.1 q.2

/-! ### The tick's schedule -/

/-- The dead time of the band that the axis is in, base ticks (R202). -/
def State.deadTime (s : State) (n : Ax) : Nat :=
  let a := s.ax n
  let add := match (s.dget THERM_STAT_AXBAND >>> (3 * n.val)) % 8 with
    | 0 => AX_PTDT_ADD0 | 1 => AX_PTDT_ADD1 | 2 => AX_PTDT_ADD2 | 3 => AX_PTDT_ADD3 | _ => AX_PTDT_ADD4
  min (a.get AX_PTDT_DT + a.get add) 1023

/-- The pending turn-off of a gate on the schedule at or after the boundary t: a stretch that runs on (R203). -/
def holdOf (es : List Edge) (g : Gate) (t : Nat) : Nat :=
  es.foldl (fun m e => if e.g = g ∧ e.on = false ∧ t ≤ e.t then max m e.t else m) 0

/-- A stretched turn-on of a gate that lies at or after the boundary t, as an edge of the new schedule (R203). -/
def pendOn (es : List Edge) (g : Gate) (side : Bool) (t : Nat) : List (Nat × Bool × Bool × Nat) :=
  (es.filter (fun e => e.g == g && e.on && decide (t ≤ e.t))).map (fun e => (e.t, side, true, e.rq))

/-- Insert an edge by time. -/
def insEdge (x : Edge) : List Edge → List Edge
  | [] => [x]
  | y :: t => if x.t < y.t then x :: y :: t else y :: insEdge x t

/-- Why a schedule is built: the tick begins, its request was rewritten, or a frozen island runs again. -/
inductive Build where
  | boundary | rewrite | thaw
  deriving DecidableEq, Repr

/-- The segments from instant t on, and the state before the first of them. A rewrite keeps the requested start of the segment
that ran until t, since its turn-on may be still to come (R203). -/
def segsFrom (why : Build) (l : Segs) (t b : Nat) (prev : Ph) (offH offL : Nat) : Segs × Ph :=
  match why with
  | .rewrite =>
    let past := l.filter (fun x => x.1 < t ∨ x.1 ≤ b)
    let cur := past.getLastD (t, .off)
    let p : Ph := match past.dropLast.getLast? with
      | some q => q.2
      | none => match cur.2 with
        | .h => if offL ≥ b then .l else .off
        | .l => if offH ≥ b then .h else .off
        | .off => .off
    (cur :: l.filter (fun x => t ≤ x.1 ∧ b < x.1), p)
  | _ => ((t, segAt l t) :: l.filter (fun x => t < x.1), prev)

/-- The marks of a new schedule: those counted before stay, the new ones join, each interval once (R203). -/
def newMarks (old : List Mark) (hg lg : Gate) (l : List (Nat × Bool × Bool)) : List Mark :=
  l.foldl (fun m x =>
    let g := if x.2.1 then hg else lg
    if m.any (fun o => o.t == x.1 && o.g == g) then m else m ++ [{ t := x.1, g := g, drop := x.2.2, done := false }]) old

/-- Build the schedule of axis n from instant t (1/32 base ticks) to the tick's end (R200 to R205). At a boundary DROP and
STRETCH take what the tick that ends there did (R215). A conducting gate keeps the
end of a stretch from the last tick (an edge after the tick's end holds it until then); when the request is rewritten it stays
on for t_dt + t_min from its turn-on (R203). -/
def State.schedule (s : State) (n : Ax) (t : Nat) (why : Build) : State :=
  let a := s.ax n
  let b := 32 * a.pt.start
  let k : S3Cfg := { tdt := 32 * a.pt.dt, tmin := 32 * a.get AX_PTDT_MINP, stretch := a.get AX_PTCFG_NARROW == 1,
                     thaw := why == .thaw, now := t, stop := 32 * (a.pt.start + a.get AX_TICK_PERIOD) }
  let held := if why = .boundary then [] else a.pt.marks.filter (·.done)
  let step := fun (acc : Axis × List Edge × List Mark × Bool) (q : Phase) =>
    let (a, es, marks, conf) := acc
    let p := physSegs a a.pt.plan q
    let hg := highGate q
    let lg := lowGate q
    let re := a.pt.refEnd[q]
    let pend := fun (g : Gate) (side : Bool) => if why = .boundary ∧ re ≤ t then pendOn a.pt.sched g side t else []
    let hi := a.pt.cmd.getLsbD hg.val || !(pend hg true).isEmpty
    let lo := a.pt.cmd.getLsbD lg.val || !(pend lg false).isEmpty
    let prev : Ph := if why = .thaw then (if hi then .h else if lo then .l else .off) else a.pt.prev[q]
    let sg := segsFrom why (mergeSegs p.1) t b prev a.pt.lastOff[hg] a.pt.lastOff[lg]
    let hold := fun (g : Gate) (v : Bool) => match why with
      | .boundary => holdOf a.pt.sched g t
      | .rewrite => if v then a.pt.onReq[g] + k.lim else 0
      | .thaw => 0
    let x : S3 := { hi := hi, lo := lo, offH := a.pt.lastOff[hg], offL := a.pt.lastOff[lg], holdH := hold hg hi,
                    holdL := hold lg lo, prev := sg.2, out := pend hg true ++ pend lg false, marks := [], defer := none }
    let d := match why with
      | .boundary => a.pt.deferred[q]
      | .rewrite => x.waits a.pt.joined[q] b (mergeSegs sg.1)
      | .thaw => none
    let r := stage3 k (if t < re then some (b, re) else none) x d (mergeSegs sg.1)
    let runsOn := fun (g : Gate) (side : Bool) (v : Bool) (u : Nat) =>
      if v && decide (k.stop < u) then [({ t := u, g := g, on := false, rq := u, uns := false } : Edge)] else []
    let es := (runsOn hg true r.hi r.holdH ++ runsOn lg false r.lo r.holdL).foldl (fun es o => insEdge o es) es
    let es := r.out.foldl (fun es o => insEdge { t := o.1, g := if o.2.1 then hg else lg, on := o.2.2.1, rq := o.2.2.2,
                                                 uns := why != .boundary || (t < re && o.1 ≤ re + k.tdt) } es) es
    ({ a with pt := { a.pt with deferred := a.pt.deferred.set q.val r.defer q.isLt,
                                joined := a.pt.joined.set q.val d q.isLt,
                                prev := a.pt.prev.set q.val r.prev q.isLt } }, es, newMarks marks hg lg r.marks, conf || p.2)
  let r := allPh.foldl step (a, [], held, false)
  let a := r.1
  let was := a.pt.marks
  let a := { a with pt := { a.pt with sched := r.2.1, marks := r.2.2.1 } }
  let a := if why = .boundary then
      (a.put AX_PTSTAT_DROP (if was.any (·.drop) then 1 else 0)).put AX_PTSTAT_STRETCH (if was.any (fun m => !m.drop) then 1 else 0)
    else a
  let a := a.put AX_PTSTAT_CONFLICT (if r.2.2.2 then 1 else 0)
  let s := s.modAx n (fun _ => a)
  if r.2.2.2 && why == .boundary then s.count 4 n.val else s

/-- Count the drops whose instants lie before t (R203). -/
def State.playMarks (s : State) (n : Ax) (t : Nat) : State :=
  let due := (s.ax n).pt.marks.filter (fun m => !m.done && decide (m.t < t))
  let s := s.modAx n (fun a => { a with pt := { a.pt with
    marks := a.pt.marks.map (fun m => if m.t < t then { m with done := true } else m) } })
  (due.filter (·.drop)).foldl (fun s _ => s.count 7 n.val) s

/-- Play one scheduled edge: the stage-3 command changes and the channel takes it. -/
def State.playEdge (s : State) (n : Ax) (x : Edge) : State :=
  let s := s.modAx n (fun a => { a with pt := { a.pt with
    cmd := if x.on then a.pt.cmd ||| ((1 : BitVec 6) <<< x.g.val) else a.pt.cmd &&& ~~~((1 : BitVec 6) <<< x.g.val)
    lastOff := if x.on then a.pt.lastOff else a.pt.lastOff.set x.g.val x.t x.g.isLt
    onReq := if x.on then a.pt.onReq.set x.g.val x.rq x.g.isLt else a.pt.onReq } })
  s.settleAt n x.t x.uns

/-- Play every scheduled edge of axis n before instant t; a frozen island plays none (R214). -/
def State.playUntil (s : State) (n : Ax) (t : Nat) : State :=
  if (s.ax n).get AX_PTSTAT_FROZEN = 1 then s
  else
    let s := s.playMarks n t
    let due := (s.ax n).pt.sched.filter (fun x => x.t < t)
    let s := s.modAx n (fun a => { a with pt := { a.pt with sched := a.pt.sched.filter (fun x => !(x.t < t)) } })
    due.foldl (fun s x => s.playEdge n x) s

/-! ### Apertures (R142, R143) -/

/-- The stage-3 command of a gate at instant t (1/32), from the commands at the boundary and the edges after it. -/
def gateAt (cmd : BitVec 6) (es : List Edge) (g : Gate) (t : Nat) : Bool :=
  es.foldl (fun v e => if e.g = g ∧ e.t ≤ t then e.on else v) (cmd.getLsbD g.val)

/-- The physical phases for which an aperture at base tick t is valid (R142): no edge inside its span, whose ends may carry
one, since a gap of exactly t_set + 60 ns admits a sample. -/
def validAt (inline : Bool) (tset : Nat) (cmd : BitVec 6) (es past : List Edge) (t : Nat) : BitVec 3 :=
  let lo := 32 * (t - tset)
  let hi := 32 * (t + 24)
  if (es ++ past).any (fun e => decide (lo < e.t ∧ e.t < hi)) then 0
  else allPh.foldl (fun m p =>
    if inline || gateAt cmd es (lowGate p) (32 * t) then m ||| ((1 : BitVec 3) <<< p.val) else m) 0

/-- How many phases a set holds. -/
def count3 (v : BitVec 3) : Nat := (allPh.filter (fun p => v.getLsbD p.val)).length

/-- The instants of R143: the latest with the most phases, then up to three more at 250 ns that serve the same set. -/
def chooseApertures (inline : Bool) (tset b per : Nat) (cmd : BitVec 6) (es past : List Edge) : Nat × List (BitVec 3) :=
  let last := b + per - 128
  let cands := last :: (es.map (fun e => e.t / 32 - 24)).reverse
  let ok := cands.filter (fun t => b ≤ t ∧ t ≤ last)
  let best := ok.foldl (fun (m : Nat × BitVec 3) t =>
    let v := validAt inline tset cmd es past t
    if count3 v > count3 m.2 ∨ (count3 v = count3 m.2 ∧ count3 v > 0 ∧ t > m.1) then (t, v) else m) (0, 0)
  if count3 best.2 = 0 then (0, [])
  else
    let more := [1, 2, 3].foldl (fun (acc : List (BitVec 3) × Bool) m =>
      let t := best.1 - 100 * m
      if acc.2 && decide (b + 100 * m ≤ best.1) then
        let v := validAt inline tset cmd es past t
        if best.2 &&& v = best.2 then (acc.1 ++ [v], true) else (acc.1, false)
      else (acc.1, false)) ([], true)
    (best.1, best.2 :: more.1)

end Sys2Proof.Machine
end

