-- ==== Sys2Proof/Machine/Sense.lean ====
section
/-! DEFINITION. The sensing front end (chapter 5): the sample set delivered at a boundary, Mirage, the Kirchhoff check, the
terminal check, and the offset measurement of ARMING. -/

namespace Sys2Proof.Machine

open Sys2Proof

/-- The first edge of gate g after t0 in an ascending list. -/
def firstEdge (es : List Edge) (g : Gate) (t0 : Nat) : Option Edge := es.find? (fun e => e.g == g && decide (t0 < e.t))

/-- The command of gate g at t0, from its command now and the edges since. -/
def cmdBack (now : BitVec 6) (es : List Edge) (g : Gate) (t0 : Nat) : Bool :=
  match firstEdge es g t0 with | some e => !e.on | none => now.getLsbD g.val

/-- How long gate g was commanded on from t0 to t1 (1/32 base ticks). -/
def onTime (now : BitVec 6) (es : List Edge) (g : Gate) (t0 t1 : Nat) : Nat :=
  let r := es.foldl (fun (p : Nat × Bool × Nat) e =>
    if e.g = g ∧ t0 < e.t ∧ e.t ≤ t1 then ((if p.2.1 then p.1 + (e.t - p.2.2) else p.1), e.on, e.t) else p)
    (0, cmdBack now es g t0, t0)
  if r.2.1 then r.1 + (t1 - r.2.2) else r.1

/-- The amplifier gain of GAIN (R139). -/
def ampGain (a : Axis) : Nat := 5 * 2 ^ a.get AX_SNSCFG_GAIN

/-- The offset of a physical channel. -/
def Axis.ofs (a : Axis) (q : Phase) : Int :=
  match q.val with | 0 => a.sget AX_OFS_OFSU | 1 => a.sget AX_OFS_OFSV | _ => a.sget AX_OFS_OFSW

/-- The denominator of R140: codes to per unit. -/
def Axis.curDen (a : Axis) : Nat := 8192 * ampGain a * a.get AX_SNSCFG_SHUNT * a.get AX_BASE0_IBASE

/-- The current of a sum of cnt codes, scaled under R140 and rounded once. -/
def Axis.scaleI (a : Axis) (q : Phase) (sum : Int) (cnt : Nat) : W32 :=
  (sat32 (roundDiv ((sum - cnt * a.ofs q) * 125000000 * 2 ^ 30) (max 1 (cnt * a.curDen)))).1

/-- A delivered current as offset-corrected codes (R158), limited to 16 bits. -/
def Axis.toCode (a : Axis) (i : W32) : Int :=
  max (-32768) (min 32767 (roundDiv (i.toInt * a.curDen) (125000000 * 2 ^ 30)))

/-- A voltage of c × 25 mV / k scaled to V_base (R101, R152). -/
def Axis.scaleV (a : Axis) (c k : Nat) : W32 := (sat32 (roundDiv (c * 5 * 2 ^ 30) (max 1 (k * 2 * a.get AX_BASE0_VBASE)))).1

/-- The physical phases an aperture measured, after the unscheduled edges are known (R144): none with such an edge in its
span; on low-side shunts only those whose low side was then commanded on (R142). -/
def Axis.validSamples (a : Axis) : List (BitVec 3) :=
  let tset := a.get AX_SNSCFG_TSET
  a.pt.apertures.zipIdx.map (fun x =>
    let t := a.pt.t1 - 100 * x.2
    if a.pt.emitted.any (fun e => e.uns && decide (32 * (t - tset) < e.t ∧ e.t < 32 * (t + 24))) then 0
    else allPh.foldl (fun m p =>
      if x.1.getLsbD p.val && (a.get AX_SNSCFG_MODE == 1 || cmdBack a.gd.cmdd a.pt.emitted (lowGate p) (32 * t)) then
        m ||| ((1 : BitVec 3) <<< p.val) else m) 0)

/-! ### Amplifier levels (R207, R230) -/

/-- The last edge that a channel of the axis issued, 1/32 base ticks. -/
def Axis.lastEdge (a : Axis) : Nat := a.gd.edgeAt.toList.foldl max 0

/-- The channels that see their phase's current: on low-side shunts only while the low side conducts (R230). -/
def Axis.seesCurrent (a : Axis) : BitVec 3 :=
  if a.get AX_SNSCFG_MODE = 1 then 0b111
  else allPh.foldl (fun m p => if a.gd.on.getLsbD (lowGate p).val then m ||| ((1 : BitVec 3) <<< p.val) else m) 0

/-- An amplifier output of uv microvolts is beyond a current level of lvl × 2^-sh I_base, converted through SHUNT and GAIN; a
level above the full scale of R139 acts at full scale. -/
def Axis.ampAbove (a : Axis) (lvl sh : Nat) (uv : Int) : Bool :=
  let full := 125000000 * 2 ^ sh
  decide (min (lvl * a.get AX_BASE0_IBASE * a.get AX_SNSCFG_SHUNT * ampGain a) full < uv.natAbs * 100 * 2 ^ sh)

/-! ### Auxiliary conversions (R155, R157) -/

/-- A new code of an AIN channel: LAST and the sum of the last eight. A channel converts once in 8 us. -/
def State.ainCode (s : State) (x : Ax × BitVec 12) : State :=
  let k := x.1
  if s.ainAt[k] + 8 * usTicks ≤ s.clk then
    let l := (x.2 :: s.ain[k]).take 8
    let s := { s with ain := s.ain.set k.val l k.isLt, ainAt := s.ainAt.set k.val (s.ainAt[k] + 8 * usTicks) k.isLt }
    (s.dput (SYS_AIN_LAST k.val) x.2.toNat).dput (SYS_AIN_SUM8 k.val) (l.foldl (fun m c => m + c.toNat) 0)
  else s

/-! ### The bus current (R248) -/

/-- The summand of the bus-current estimate: minus the currents of the phases whose low side conducts, from the last sample
set (log 124). -/
def Axis.busCurrentNow (a : Axis) : Int :=
  -(allPh.foldl (fun (m : Int) p =>
    if a.gd.on.getLsbD (lowGate (phmap (a.get AX_PTMAP_PHMAP) p)).val then
      m + (a.sense.set[(⟨p.val, by omega⟩ : Fin 7)]).toInt else m) 0)

/-- The sum of v × its base ticks over the summands of [from, to_), newest first. -/
def spanSum : List (Nat × Int) → Nat → Nat → Int
  | [], _, _ => 0
  | (t, v) :: r, from_, to_ => if t ≤ from_ then v * (to_ - from_ : Nat) else v * (to_ - t : Nat) + spanSum r from_ t

/-- The summands that still reach into the last microsecond. -/
def spanKeep : List (Nat × Int) → Nat → List (Nat × Int)
  | [], _ => []
  | (t, v) :: r, from_ => if t ≤ from_ then [(t, v)] else (t, v) :: spanKeep r from_

/-- One base tick of the estimate of axis n (R248): the mean of the last 1 us; it holds for TSET base ticks after an edge. The
summand holds with it (log 124). -/
def State.busCurrent (s : State) (n : Ax) : State :=
  s.modAx n (fun a =>
    if 32 * s.clk < a.lastEdge + 32 * a.get AX_SNSCFG_TSET ∧ 0 < a.lastEdge then a
    else
      let x := a.busCurrentNow
      let run := match a.sense.ibRun with | (t, v) :: r => if v = x then (t, v) :: r else (s.clk, x) :: (t, v) :: r | [] => [(s.clk, x)]
      let from_ := s.clk - usTicks
      { a with sense := { a.sense with ibus := roundDiv (spanSum run from_ s.clk) usTicks, ibRun := spanKeep run from_ } })

/-- The codes of a physical channel. -/
def adcOf (x : BitVec 14 × BitVec 14 × BitVec 14) (q : Phase) : Int :=
  match q.val with | 0 => x.1.toInt | 1 => x.2.1.toInt | _ => x.2.2.toInt
def termOf (x : BitVec 12 × BitVec 12 × BitVec 12) (q : Phase) : Nat :=
  match q.val with | 0 => x.1.toNat | 1 => x.2.1.toNat | _ => x.2.2.toNat

/-- The Mirage value of a logical phase (R146): ICLARKE of P + KV × (u' + u), each rounded once; u in units of 2^-60. -/
def mirage (p : W64) (kv : Nat) (u0 u1 : Vector Int 3) (ph : Phase) : W32 :=
  let d : Nat := 3 * 2 ^ 51
  let tot := fun (u : Vector Int 3) => u[0] + u[1] + u[2]
  let sm : Int := kv * (3 * (u0[ph] + u1[ph]) - tot u0 - tot u1)
  let px := (laneX p).toInt
  let py := (laneY p).toInt
  match ph.val with
  | 0 => (sat32 (roundRoot3 (px * d + 2 * sm) 0 d)).1
  | 1 => (sat32 (roundRoot3 (-px * (3 * 2 ^ 50) + 2 * sm) (py * (3 * 2 ^ 50)) d)).1
  | _ => (sat32 (roundRoot3 (-px * (3 * 2 ^ 50) + 2 * sm) (-py * (3 * 2 ^ 50)) d)).1

/-- The three skip fields and the four other per-phase flag fields. -/
def skFld (p : Phase) : Fld := match p.val with | 0 => AX_SNSSTAT_SKU | 1 => AX_SNSSTAT_SKV | _ => AX_SNSSTAT_SKW

/-- A terminal channel's delivered code as a fraction, whether it was replaced, whether a check failed, the new run of failing
checks (R153). -/
def termCheck (on : Bool) (bad edge hi lo : Bool) (vtol code : Nat) (bus frac : Nat × Nat) (run : Nat) :
    (Nat × Nat) × Bool × Bool × Nat :=
  if bad then ((frac.1 * bus.1, frac.2 * bus.2), true, false, run)
  else if on && !edge && (hi || lo) then
    let exp := if hi then bus.1 else 0
    let dev := max (code * bus.2) exp - min (code * bus.2) exp
    if dev > vtol * bus.2 then ((exp, bus.2), true, true, run + 1) else ((code, 1), false, false, 0)
  else ((code, 1), false, false, run)

/-- The mean of the bus conversions of an interval as a fraction (R154); without one the last mean stands. -/
def Axis.busMean (a : Axis) (bus : List (BitVec 12)) : Nat × Nat :=
  if bus.isEmpty then (a.get AX_VRAW_VBUS, 1) else (bus.foldl (fun m c => m + c.toNat) 0, bus.length)

/-- The sample set of the interval that ends at this boundary is formed and delivered (R138 to R154). -/
def State.sampleSet (s : State) (n : Ax) (adc : Adc) : State :=
  let a := s.ax n
  let per := max 1 (a.get AX_TICK_PERIOD)
  let t1 := 32 * (s.clk - 128)
  let t0 := 32 * (s.clk - per - 128)
  let now := a.gd.cmdd
  let es := a.pt.emitted
  let map := a.get AX_PTMAP_PHMAP
  let bus := a.busMean adc.bus
  let vbus := a.scaleV bus.1 bus.2
  -- h_p v_bus per logical phase
  let hOn : Vector Nat 3 := Vector.ofFn (fun p => onTime now es (highGate (phmap map p)) t0 t1)
  let u : Vector Int 3 := Vector.ofFn (fun p => (hOn[p] * vbus.toInt.toNat * 2 ^ 30 / (32 * per) : Nat))
  -- terminal channels
  let terms : Vector ((Nat × Nat) × Bool × Bool × Nat) 3 := Vector.ofFn (fun p =>
    let q := phmap map p
    let edge := es.any (fun e => decide (gatePhase e.g = q ∧ t0 < e.t ∧ e.t ≤ t1))
    termCheck (a.get AX_SNSCFG_TVCHK == 1) ((a.get AX_SNSSTAT_TVBAD).testBit p.val) edge
      (cmdBack now es (highGate q) t1) (cmdBack now es (lowGate q) t1) (a.get AX_KCHK_VTOL) (termOf adc.term q) bus
      (hOn[p], 32 * per) a.sense.tvRun[p])
  -- currents
  let valid := a.validSamples
  let measured : Vector (Option W32) 3 := Vector.ofFn (fun p =>
    let q := phmap map p
    let xs := (valid.zip (adc.cur ++ List.replicate 4 (0, 0, 0))).filter (fun x => x.1.getLsbD q.val)
    if xs.isEmpty then none
    else some (a.scaleI q (xs.foldl (fun t x => t + adcOf x.2 q) 0) xs.length))
  let coef := a.sense.mirco
  let rep := (AX_MIRCO_RS.get coef == 0 && AX_MIRCO_K1.get coef == 0 && AX_MIRCO_KV.get coef == 0) || a.pt.policy
  let pred := match a.pt.loaded with | some r => r.pred | none => none
  let mir : Vector W32 3 := Vector.ofFn (fun p =>
    match pred, rep with
    | some w, false => mirage w (AX_MIRCO_KV.get coef) a.sense.uPrev u p
    | _, _ => a.sense.set[(⟨p.val, by omega⟩ : Fin 7)])
  let del : Vector W32 3 := Vector.ofFn (fun p => (measured[p]).getD mir[p])
  let tot := del[0].toInt + del[1].toInt + del[2].toInt
  let klim : Int := a.get AX_KCHK_KLIM * 2 ^ 16
  let beyond := decide (tot > klim ∨ tot < -klim)
  let imp := allPh.filter (fun p => beyond && (measured[p]).isSome &&
    decide (3 * ((del[p]).toInt - (mir[p]).toInt).natAbs > klim.toNat))
  let rebuilt : Option Phase := match imp with | [p] => some p | _ => none
  let del := match rebuilt with
    | some p => del.set p.val (sat32 ((del[p]).toInt - tot)).1 p.isLt
    | none => del
  let win : BitVec 3 := allPh.foldl (fun m p =>
    if (measured[p]).isSome && rebuilt != some p then m ||| ((1 : BitVec 3) <<< p.val) else m) 0
  let mirF : BitVec 3 := allPh.foldl (fun m p => if (measured[p]).isNone then m ||| ((1 : BitVec 3) <<< p.val) else m) 0
  let bits := fun (f : Phase → Bool) => allPh.foldl (fun m p => if f p then m + 2 ^ p.val else m) 0
  let tv := bits (fun p => (terms[p]).2.1)
  let bad := bits (fun p => (a.get AX_SNSSTAT_TVBAD).testBit p.val || decide ((terms[p]).2.2.2 ≥ 4))
  let vt : Vector W32 3 := Vector.ofFn (fun p => a.scaleV (terms[p]).1.1 (terms[p]).1.2)
  let near := fun (x : Nat × Nat) => (2 * x.1 + x.2) / (2 * max 1 x.2)
  let vc := fun (p : Phase) => near (terms[p]).1
  let ib := a.get AX_BASE0_IBASE
  let sq := (del.toList.foldl (fun m i => m + i.toInt.natAbs ^ 2) 0) * ib ^ 2 / (10000 * 2 ^ 40)
  let s := s.modAx n (fun a =>
    let a := allPh.foldl (fun a p => a.put (skFld p) (if (measured[p]).isSome then 0 else min 7 (a.get (skFld p) + 1))) a
    let a := (a.put AX_SNSSTAT_SAMPLES a.pt.apertures.length).put AX_SNSSTAT_FORCED (if a.sense.forced then 1 else 0)
    let a := (a.put AX_SNSSTAT_TVSUB tv).put AX_SNSSTAT_TVBAD bad
    let a := a.put AX_SNSSTAT_KCFPH (match rebuilt with | some p => 2 ^ p.val | none => 0)
    let c := fun (p : Phase) => ((a.toCode del[p]) % 65536).toNat
    let a := a.setReg AX_IRAW (AX_IRAW_IW.put (AX_IRAW_IV.put (AX_IRAW_IU.put 0 (c 0)) (c 1)) (c 2))
    let a := a.setReg AX_VRAW (AX_VRAW_VBUS.put (AX_VRAW_VW.put (AX_VRAW_VV.put (AX_VRAW_VU.put 0 (vc 0)) (vc 1)) (vc 2)) (near bus))
    { a with sense := { a.sense with
        set := #v[del[0], del[1], del[2], vbus, vt[0], vt[1], vt[2]], win := win, mir := mirF, mlim := a.sense.forced,
        kcf := rebuilt.isSome, uPrev := u, tvRun := Vector.ofFn (fun p => (terms[p]).2.2.2),
        load := (a.sense.load.1 + sq, a.sense.load.2 + 1) } })
  let s := (allPh.filter (fun p => (terms[p]).2.2.1)).foldl (fun s _ => s.count 19 n.val) s
  match imp with
  | [] => s
  | [_] => s.count 19 n.val
  | _ =>
    let s := (s.count 19 n.val).detect 19 n.val 0
    if (s.ax n).st = .off then s else s.enterOasis n 19

/-- What an offset measurement finds (R141): the means of the three channels, signed 14-bit codes; `none` where a terminal voltage
stood 0.5 V or more above the bus. What the converters see then reaches the model by no command: free values (log 123). -/
def offsetsOf (w : W64) : Option (Int × Int × Int) :=
  if w.getLsbD 63 then none
  else some ((w.setWidth 14).toInt, ((w >>> 14).setWidth 14).toInt, ((w >>> 28).setWidth 14).toInt)

/-- The offset measurement of ARMING (R141). -/
def State.measureOffsets (s : State) (n : Ax) (r : Option (Int × Int × Int)) : State :=
  match r with
  | none => s.aput n AX_SNSSTAT_OFSBAD 0
  | some (u, v, w) =>
    let badR := fun (x : Int) => decide (x > 256 ∨ x < -256)
    let f := fun (x : Int) => (x % 65536).toNat
    let s := s.modAx n (fun a => a.setReg AX_OFS (AX_OFS_OFSW.put (AX_OFS_OFSV.put (AX_OFS_OFSU.put 0 (f u)) (f v)) (f w)))
    if badR u || badR v || badR w then
      ((s.aput n AX_SNSSTAT_OFSBAD 1).count 19 n.val |>.detect 19 n.val 0).enterOasis n 19
    else s.aput n AX_SNSSTAT_OFSBAD 0

end Sys2Proof.Machine
end

