-- ==== Sys2Proof/Machine/YunExec.lean ====
section
/-! DEFINITION. The meanings of the Yunapen instructions (R80 to R105): one definition per row, over the shared frame of
Yunapen.lean. The engine acts only while it can execute (`State.ready`). -/

namespace Sys2Proof.Machine

open Sys2Proof

/-- What a meaning answers. -/
abbrev Out := Host.Outcome State Fault Refusal

/-- WAIT (R80), opcode 0x01. -/
def execWait (n : Ax) (i : Fields) (s : State) : Out := .next (s.engineRun n 0x01 i)
/-- BR (R81), opcode 0x02. -/
def execBr (n : Ax) (i : Fields) (s : State) : Out := .next (s.engineRun n 0x02 i)
/-- CALL (R82), opcode 0x03. -/
def execCall (n : Ax) (i : Fields) (s : State) : Out := .next (s.engineRun n 0x03 i)
/-- RET (R82), opcode 0x04. -/
def execRet (n : Ax) (i : Fields) (s : State) : Out := .next (s.engineRun n 0x04 i)
/-- LOOP (R83), opcode 0x05. -/
def execLoop (n : Ax) (i : Fields) (s : State) : Out := .next (s.engineRun n 0x05 i)
/-- STEP (R84), opcode 0x06. -/
def execStep (n : Ax) (i : Fields) (s : State) : Out := .next (s.engineRun n 0x06 i)
/-- SIG (R85), opcode 0x07. -/
def execSig (n : Ax) (i : Fields) (s : State) : Out := .next (s.engineRun n 0x07 i)
/-- VADD (R87), opcode 0x10. -/
def execVadd (n : Ax) (i : Fields) (s : State) : Out := .next (s.engineRun n 0x10 i)
/-- VSUB (R87), opcode 0x11. -/
def execVsub (n : Ax) (i : Fields) (s : State) : Out := .next (s.engineRun n 0x11 i)
/-- VMUL (R87), opcode 0x12. -/
def execVmul (n : Ax) (i : Fields) (s : State) : Out := .next (s.engineRun n 0x12 i)
/-- CMUL (R88), opcode 0x13. -/
def execCmul (n : Ax) (i : Fields) (s : State) : Out := .next (s.engineRun n 0x13 i)
/-- CLARKE (R89), opcode 0x14. -/
def execClarke (n : Ax) (i : Fields) (s : State) : Out := .next (s.engineRun n 0x14 i)
/-- ICLARKE (R89), opcode 0x15. -/
def execIclarke (n : Ax) (i : Fields) (s : State) : Out := .next (s.engineRun n 0x15 i)
/-- ROT (R90), opcode 0x16. -/
def execRot (n : Ax) (i : Fields) (s : State) : Out := .next (s.engineRun n 0x16 i)
/-- CROSS (R88), opcode 0x17. -/
def execCross (n : Ax) (i : Fields) (s : State) : Out := .next (s.engineRun n 0x17 i)
/-- DOT (R88), opcode 0x18. -/
def execDot (n : Ax) (i : Fields) (s : State) : Out := .next (s.engineRun n 0x18 i)
/-- MAG (R88), opcode 0x19. -/
def execMag (n : Ax) (i : Fields) (s : State) : Out := .next (s.engineRun n 0x19 i)
/-- ATAN2 (R90), opcode 0x1A. -/
def execAtan2 (n : Ax) (i : Fields) (s : State) : Out := .next (s.engineRun n 0x1A i)
/-- INTEG (R91), opcode 0x1B. -/
def execInteg (n : Ax) (i : Fields) (s : State) : Out := .next (s.engineRun n 0x1B i)
/-- HYST (R92), opcode 0x1C. -/
def execHyst (n : Ax) (i : Fields) (s : State) : Out := .next (s.engineRun n 0x1C i)
/-- SECT (R93), opcode 0x1D. -/
def execSect (n : Ax) (i : Fields) (s : State) : Out := .next (s.engineRun n 0x1D i)
/-- SWT (R94), opcode 0x1E. -/
def execSwt (n : Ax) (i : Fields) (s : State) : Out := .next (s.engineRun n 0x1E i)
/-- LIM (R96), opcode 0x1F. -/
def execLim (n : Ax) (i : Fields) (s : State) : Out := .next (s.engineRun n 0x1F i)
/-- PI (R97), opcode 0x20. -/
def execPi (n : Ax) (i : Fields) (s : State) : Out := .next (s.engineRun n 0x20 i)
/-- FILT (R91), opcode 0x21. -/
def execFilt (n : Ax) (i : Fields) (s : State) : Out := .next (s.engineRun n 0x21 i)
/-- LUT1 (R98), opcode 0x22. -/
def execLut1 (n : Ax) (i : Fields) (s : State) : Out := .next (s.engineRun n 0x22 i)
/-- LUT2 (R98), opcode 0x23. -/
def execLut2 (n : Ax) (i : Fields) (s : State) : Out := .next (s.engineRun n 0x23 i)
/-- LD (R99), opcode 0x30. -/
def execLd (n : Ax) (i : Fields) (s : State) : Out := .next (s.engineRun n 0x30 i)
/-- ST (R99), opcode 0x31. -/
def execSt (n : Ax) (i : Fields) (s : State) : Out := .next (s.engineRun n 0x31 i)
/-- IOR (R100), opcode 0x32. -/
def execIor (n : Ax) (i : Fields) (s : State) : Out := .next (s.engineRun n 0x32 i)
/-- IOW (R100), opcode 0x33. -/
def execIow (n : Ax) (i : Fields) (s : State) : Out := .next (s.engineRun n 0x33 i)
/-- SAMP (R101), opcode 0x34. -/
def execSamp (n : Ax) (i : Fields) (s : State) : Out := .next (s.engineRun n 0x34 i)
/-- APPLY (R102), opcode 0x35. -/
def execApply (n : Ax) (i : Fields) (s : State) : Out := .next (s.engineRun n 0x35 i)
/-- PRED (R103), opcode 0x36. -/
def execPred (n : Ax) (i : Fields) (s : State) : Out := .next (s.engineRun n 0x36 i)
/-- TRC (R104), opcode 0x37. -/
def execTrc (n : Ax) (i : Fields) (s : State) : Out := .next (s.engineRun n 0x37 i)
/-- SHR (R105), opcode 0x38. -/
def execShr (n : Ax) (i : Fields) (s : State) : Out := .next (s.engineRun n 0x38 i)

/-- The 1 + T cycles of a WAIT run out (R80): its T cycles are counted on the base clock. -/
def execWaitTimeout (n : Ax) (s : State) : Out :=
  match (s.ax n).run.wait with
  | some (_, t, t0) => if (s.ax n).run.running ∧ t0 + t ≤ s.clk then .next (s.endWait n t) else .next s
  | none => .next s

end Sys2Proof.Machine
end

