-- ==== Sys2Proof/Machine/Position.lean ====
section
/-! DEFINITION. Rotor position, speed, encoders, probes and encoder emulation (chapter 6). -/

namespace Sys2Proof.Machine

open Sys2Proof

/-! ### Speed (R167 to R169) -/

/-- π in units of 10^-24. -/
abbrev piNum : Nat := 3141592653589793238462643

/-- ω_base of axis n, mrad/s. -/
def Axis.wbase (a : Axis) : Nat := max 1 (a.get AX_BASE1_WBASE)

/-- An angle of num / den angle units travelled in a number of base ticks, as signed Q2.30 per-unit speed (R167, log 12). -/
def Axis.pu (a : Axis) (num : Int) (den tk : Nat) : Int :=
  (sat32 (roundDiv (num * piNum * 200000000000) (max 1 (den * tk * a.wbase * 10 ^ 24)))).1.toInt

/-- The angle a per-unit speed travels in a number of base ticks, angle units (log 12). -/
def Axis.travel (a : Axis) (spd : Int) (tk : Nat) : Int :=
  roundDiv (spd * tk * a.wbase * 10 ^ 24) (piNum * 200000000000)

/-- 60° as angle units over a denominator: exact. -/
abbrev deg60 : Int × Nat := (2 ^ 32, 6)

/-- The electrical angle of one count of channel k, as a fraction of angle units (R167, R175). -/
def State.countAngle (s : State) (k : Chan) (n : Ax) : Int × Nat :=
  let pp := s.aget n AX_BASE0_PP
  if s.dget (ENC_CFG_MODE k.val) = 1 then ((pp * 2 ^ 32 : Nat), 4 * max 1 (s.dget (ENC_CFG_LINES k.val)))
  else ((pp * 2 ^ 32 : Nat), 2 ^ s.dget (ENC_SSI_POSW k.val))

/-- The step angle of the selected source of axis n: a Hall sector, or a count of its channel. -/
def State.stepAngle (s : State) (n : Ax) : Int × Nat :=
  if s.aget n AX_PCFG_SSRC = 2 then
    match s.servedBy n with | some k => s.countAngle k n | none => deg60
  else deg60

/-- An accepted step of axis n's source at the present base tick, of `d` counts (R167, R169, R170): direction, steps, the
count window and the period measurement over `need` intervals (`span` their angle; one interval gives one count's). -/
def State.stepEdge (s : State) (n : Ax) (d : Int) (need : Nat) : State :=
  let a := s.ax n
  let rev := decide (d < 0)
  let turned := a.pos.dir != rev
  let keep := if turned then a.pos.edges.take 1 else a.pos.edges
  let es := (s.clk :: keep).take (need + 1)
  let st := s.stepAngle n
  let sgn : Int := if rev then -1 else 1
  let one := s.aget n AX_PCFG_SSRC ≠ 2
  let spd : Int :=
    match es with
    | t :: u :: _ =>
      if es.length = need + 1 then a.pu (sgn * need * st.1) st.2 (t - es.getLastD 0)
      else if one then a.pu (sgn * st.1) st.2 (t - u) else a.pos.speed
    | _ => a.pos.speed
  let win := 400 * a.get AX_SPDCFG_WIN
  let s := s.modAx n (fun a => { a with pos := { a.pos with
    edges := es, dir := rev, stopped := false, steps := a.pos.steps + 1, speed := spd, edgeAt := s.clk,
    window := (s.clk, d) :: a.pos.window.filter (fun x => s.clk < x.1 + win) } })
  if turned then
    let s := s.raiseEv n evDir
    if s.aget n AX_PCFG_DIRIRQ = 1 then s.notify n 0xFF02 (if rev then 1 else 0) else s
  else s

/-! ### The three-pin input (R161 to R166) -/

/-- The sector of a code, none when the code is invalid (R163). -/
def Axis.hallSector (a : Axis) (c : BitVec 3) : Option (Fin 6) :=
  let e := (a.get AX_HALLMAP_MAP >>> (3 * c.toNat)) % 8
  if c = 0 ∨ c = 7 then none else if h : e < 6 then some ⟨e, h⟩ else none

/-- PTn receives a commutation index, 6 for the all-off entry, and with SRC = 1 the mask takes it (R164, R165, R209), unless
the island is frozen (R214). -/
def State.deliver (s : State) (n : Ax) (c : Nat) : State :=
  let s := s.modAx n (fun a => { a with pos := { a.pos with comm := BitVec.ofNat 3 c, commValid := true } })
  let m := (s.ax n).pt.mctl
  if AX_PTMCTL_SRC.get m = 1 ∧ s.aget n AX_PTSTAT_FROZEN = 0 then
    (s.aput n AX_PTMCTL_INDEX
      (if c ≥ 6 then 6 else (c + AX_PTMCTL_MOFS.get m + 3 * AX_PTMCTL_REV.get m) % 6)).settle n
  else s

/-- The centre of a sector (R166). -/
def Axis.centre (a : Axis) (q : Fin 6) : W32 := BitVec.ofNat 32 (a.get AX_HALLMAP_HOFS + q.val * 0x2AAAAAAB)

/-- The Hall edges drive the step measurement unless the encoder is the sensed source (R160, log 14). -/
def State.hallSteps (s : State) (n : Ax) : Bool := s.aget n AX_PCFG_SSRC != 2

/-- An accepted valid code of sector q (R164, R166). -/
def State.hallValid (s : State) (n : Ax) (q : Fin 6) : State :=
  let s := s.modAx n (fun a => { a with pos := { a.pos with hinv := false } })
  match (s.ax n).pos.sector with
  | none =>
    (((s.modAx n (fun a => { a with pos := { a.pos with sector := some q } })).deliver n q.val).raiseEv n evHall)
  | some o =>
    if o = q then (if (s.ax n).pos.comm.toNat = q.val ∧ (s.ax n).pos.commValid = true then s else s.deliver n q.val)
    else
      let d := (q.val + 6 - o.val) % 6
      let half : W32 := 0x15555555
      if d = 1 ∨ d = 5 then
        let rev := decide (d = 5)
        let a := s.ax n
        let run := if a.pos.hallDir != rev then 1 else min 2 (a.pos.runLen + 1)
        let s := s.modAx n (fun a => { a with pos := { a.pos with
          sector := some q, edgeAngle := if rev then a.centre q + half else a.centre q - half, hallAt := s.clk, hallDir := rev
          runLen := run, svalid := a.pos.svalid || decide (run ≥ 2) } })
        let s := (s.deliver n q.val).raiseEv n evHall
        if s.hallSteps n then s.stepEdge n (if rev then -1 else 1) 6 else s
      else
        let src := s.hallSteps n
        let s := s.modAx n (fun a => { a with pos := { a.pos with
          sector := some q, edgeAngle := if a.pos.dir then a.centre q + half else a.centre q - half, hallAt := s.clk,
          runLen := 0, edges := if src then [s.clk] else a.pos.edges, edgeAt := if src then s.clk else a.pos.edgeAt
          stopped := a.pos.stopped && !src } })
        (((s.count 18 n.val).deliver n q.val).raiseEv n evHall)

/-- An accepted invalid code: counted once for its episode (R164); in CMD3 the all-off entry is applied (R165). -/
def State.hallInvalid (s : State) (n : Ax) : State :=
  let s := if s.aget n AX_PCFG_MODE = 2 then s.deliver n 6 else s
  if (s.ax n).pos.hinv then s
  else
    (s.modAx n (fun a => { a with pos := { a.pos with hinv := true, hinvAt := s.clk, hinvHit := false, svalid := false, runLen := 0 } })).count
      18 n.val

/-- A code that the three-pin input accepts (R163 to R165). -/
def State.hallAccepted (s : State) (n : Ax) (c : BitVec 3) : State :=
  let s := s.modAx n (fun a => { a with pos := { a.pos with code := c, pend := none } })
  if s.aget n AX_PCFG_MODE = 2 ∧ c = 0 then s.deliver n 6
  else match (s.ax n).hallSector c with
    | some q => s.hallValid n q
    | none => s.hallInvalid n

/-- The code that the pins show is accepted once it has been stable for HFILT × 100 ns (R162); with MODE 0 the pins are ignored
(R161). -/
def State.hallTick (s : State) (n : Ax) : State :=
  match (s.ax n).pos.pend with
  | some (c, t) =>
    if s.aget n AX_PCFG_MODE ≠ 0 ∧ t + 40 * s.aget n AX_PCFG_HFILT ≤ s.clk then s.hallAccepted n c else s
  | none => s

/-- HALL_CODE (R162): the pins show a code. -/
def execHallCode (n : Ax) (c : BitVec 3) (s : State) : Out :=
  .next ((s.modAx n (fun a => { a with pos := { a.pos with
    pend := match a.pos.pend with | some (d, t) => if d = c then some (d, t) else some (c, s.clk) | none => some (c, s.clk) } })).hallTick n)

/-- HALL_INVTMO (R164): the episode has lasted longer than INVTMO ms. -/
def execHallInvtmo (n : Ax) (s : State) : Out :=
  let a := s.ax n
  let t := a.get AX_PCFG_INVTMO
  if a.pos.hinv ∧ a.pos.hinvHit = false ∧ t ≠ 0 ∧ a.get AX_PCFG_MODE ≠ 0 ∧ a.pos.hinvAt + t * msTicks < s.clk then
    .next (((s.modAx n (fun a => { a with pos := { a.pos with hinvHit := true } })).detect 18 n.val 0).enterOasis n 18)
  else .next s

/-- SPEED_STOPPED (R169): no edge for PTMO under the period method. -/
def execSpeedStopped (n : Ax) (s : State) : Out :=
  let a := s.ax n
  if a.pos.stopped = false ∧ a.pos.method = false ∧ a.pos.edgeAt + a.get AX_SPDCFG_PTMO * msTicks ≤ s.clk then
    .next (s.modAx n (fun a => { a with pos := { a.pos with speed := 0, stopped := true } }))
  else .next s

/-! ### The sensed angle (R160, R166, R173, R175) -/

/-- The measured speed at the present base tick: the last edge speed bounded by the time since it, or the count (R167, R169). -/
def State.speedNow (s : State) (n : Ax) : Int :=
  let a := s.ax n
  let st := s.stepAngle n
  if a.pos.method then
    let win := 400 * a.get AX_SPDCFG_WIN
    let net := (a.pos.window.filter (fun x => s.clk < x.1 + win)).foldl (fun m x => m + x.2) 0
    a.pu (net * st.1) st.2 win
  else if a.pos.stopped then 0
  else
    let b := a.pu st.1 st.2 (max 1 (s.clk - a.pos.edgeAt))
    if a.pos.speed.natAbs > b.natAbs ∧ s.clk > a.pos.edgeAt then (if a.pos.speed < 0 then -b else b) else a.pos.speed

/-- The sensed angle of axis n at the present base tick, none when it is not valid. -/
def State.sensed (s : State) (n : Ax) : Option W32 :=
  let a := s.ax n
  match a.get AX_PCFG_SSRC with
  | 1 =>
    if a.get AX_PCFG_MODE ≠ 0 ∧ a.pos.svalid = true ∧ a.pos.hinv = false then
      let adv := a.travel (s.speedNow n) (s.clk - a.pos.hallAt)
      some (a.pos.edgeAngle + BitVec.ofInt 32 (max (-0x2AAAAAAA) (min 0x2AAAAAAA adv)))
    else none
  | 2 =>
    match s.servedBy n with
    | some k =>
      if a.pos.fallback ∨ a.pos.fbWait then none
      else
        let pos := BitVec.ofNat 32 (s.dget (ENC_POS_POS k.val))
        let ofs := BitVec.ofNat 32 (s.dget (ENC_OFS_OFS k.val))
        let st := s.countAngle k n
        match s.dget (ENC_CFG_MODE k.val) with
        | 1 =>
          if s.dget (ENC_CFG_ZRST k.val) = 1 ∧ s.dget (ENC_CFG_ZSEEN k.val) = 0 then none
          else some (BitVec.ofInt 32 (pos.toInt * st.1 / st.2) + ofs)
        | 2 => if s.enc[k].good then some (BitVec.ofInt 32 ((pos.toNat : Int) * st.1 / st.2) + ofs) else none
        | _ => none
    | none => none
  | _ => none

/-- The selected source of axis n is an SSI channel. -/
def State.ssiSource (s : State) (n : Ax) : Bool :=
  s.aget n AX_PCFG_SSRC == 2 && (match s.servedBy n with | some k => s.dget (ENC_CFG_MODE k.val) == 2 | none => false)

/-- The capture of AXn_PANG and AXn_PSPD (R159, R160, R168, R169). An SSI source uses only the count method. -/
def State.capture (s : State) (n : Ax) : State :=
  let ssi := s.ssiSource n
  let s := s.modAx n (fun a => { a with pos := { a.pos with method := a.pos.method || ssi } })
  let spd := s.speedNow n
  let a := s.ax n
  let meth := if ssi then true
    else if a.pos.method then decide (a.get AX_SPDCFG_SWDN * 2 ^ 16 ≤ spd.natAbs)
    else decide (a.get AX_SPDCFG_SWUP * 2 ^ 16 < spd.natAbs)
  let ang := s.sensed n
  s.modAx n (fun a =>
    let w := a.reg AX_PANG
    let w := match ang with | some x => AX_PANG_ANGLE.put w x.toNat | none => w
    let sec := match ang, a.pos.sector with | some _, some q => q.val | _, _ => 7
    let w := AX_PANG_SECTOR.put (AX_PANG_SVALID.put w (if ang.isSome then 1 else 0)) sec
    let w := AX_PANG_HINV.put (AX_PANG_FALLBACK.put w (if a.pos.fallback then 1 else 0)) (if a.pos.hinv then 1 else 0)
    let w := AX_PANG_CODE.put w a.pos.code.toNat
    let v := AX_PSPD_SPEED.put 0 (spd % 2 ^ 32).toNat
    let v := AX_PSPD_METHOD.put (AX_PSPD_DIR.put v (if a.pos.dir then 1 else 0)) (if meth then 1 else 0)
    let v := AX_PSPD_STEPS.put (AX_PSPD_STOPPED.put v (if a.pos.stopped then 1 else 0)) a.pos.steps.toNat
    { ((a.setReg AX_PANG w).setReg AX_PSPD v) with
      pos := { a.pos with method := meth, speed := if a.pos.method then a.pos.speed else spd, refAt := s.clk } })

/-- A recomputation of the tick of axis n is pending or running (R44). -/
def State.recovering (s : State) (n : Ax) : Bool :=
  s.pool.needs.any (fun x => x.axis == n) || s.pool.redo.any (fun x => x.1 == n)

/-- POSITION_REFRESH (R159): every 10 us while the axis has no running tick; a tick that is to be recomputed keeps its values. -/
def execPositionRefresh (n : Ax) (s : State) : Out :=
  if s.ticks n = false ∧ s.recovering n = false ∧ (s.ax n).pos.refAt + 10 * usTicks ≤ s.clk then .next (s.capture n) else .next s

/-! ### Encoder channels (R171 to R176) -/

/-- The unit a channel's faults are counted for. -/
def State.encUnitOf (s : State) (k : Chan) : Nat := match s.encAxis k with | some n => n.val | none => unitDev

/-- A failure of channel k: counted, LASTERR, BADRUN, and at ERRLIM the failure action (R175, R176); in OASIS the fault is detected
once, when BADRUN reaches ERRLIM. -/
def State.encFail (s : State) (k : Chan) (code err : Nat) : State :=
  let s := s.count code (s.encUnitOf k)
  let was := s.dget (ENC_STAT_BADRUN k.val)
  let run := min 15 (was + 1)
  let s := (s.dput (ENC_STAT_LASTERR k.val) err).dput (ENC_STAT_BADRUN k.val) run
  if run ≥ s.dget (ENC_CFG_ERRLIM k.val) then
    match s.encAxis k with
    | some n =>
      if s.dget (ENC_CFG_FALLBK k.val) = 1 then
        s.modAx n (fun a => { a with pos := { a.pos with fallback := true, fbWait := true } })
      else if (s.ax n).st = .oasis ∧ s.dget (ENC_CFG_ERRLIM k.val) ≤ was then s
      else (s.detect code n.val 0).enterOasis n code
    | none => s
  else s

/-- The forward order of the quadrature states, A first (R189; log 13). -/
def quadIndex (ab : BitVec 2) : Nat := match ab.toNat with | 0 => 0 | 1 => 1 | 3 => 2 | _ => 3

/-- A good word or a Z ends the wait that follows a fallback (R176). -/
def State.fbReturn (s : State) (n : Ax) : State :=
  s.modAx n (fun a => if a.pos.fallback then a else { a with pos := { a.pos with fbWait := false } })

/-- Change channel k. -/
def State.modEnc (s : State) (k : Chan) (f : EncSt → EncSt) : State := { s with enc := s.enc.set k.val (f s.enc[k]) k.isLt }

/-- An accepted state of an incremental channel (R173): a step, an illegal transition, or the first state. -/
def State.quadAccepted (s : State) (k : Chan) (ab : BitVec 2) : State :=
  let q := s.enc[k]
  let s := s.modEnc k (fun q => { q with ab := ab, seen := true, pend := none })
  if !q.seen || ab == q.ab then s
  else
    let d := (quadIndex ab + 4 - quadIndex q.ab) % 4
    if d = 2 then (s.modEnc k (fun q => { q with illegal := true })).encFail k 16 4
    else
      let p := s.dget (ENC_POS_POS k.val)
      let s := s.dput (ENC_POS_POS k.val) (if d = 1 then (p + 1) % 2 ^ 32 else (p + 2 ^ 32 - 1) % 2 ^ 32)
      match s.encFirst k with
      | some n => if s.aget n AX_PCFG_SSRC = 2 then s.stepEdge n (if d = 1 then 1 else -1) 4 else s
      | none => s

/-- The levels that ENCkA and ENCkB show are accepted after FILT + 1 stable samples (R173). -/
def State.encTick (s : State) (k : Chan) : State :=
  match s.enc[k].pend with
  | some (ab, t) =>
    if s.dget (ENC_CFG_MODE k.val) = 1 ∧ t + s.dget (ENC_CFG_FILT k.val) ≤ s.clk then s.quadAccepted k ab else s
  | none => s

/-- ENC_QUADRATURE_STEP (R173, R175): ENCkA and ENCkB show these levels; B high ends the wait that follows a timeout. -/
def execEncQuadratureStep (k : Chan) (ab : BitVec 2) (s : State) : Out :=
  .next ((s.modEnc k (fun q => { q with
    pend := match q.pend with | some (x, t) => if x = ab then some (x, t) else some (ab, s.clk) | none => some (ab, s.clk)
    b := ab.getLsbD 1, hold := q.hold && !ab.getLsbD 1 })).encTick k)

/-- ENC_Z (R173): a rising edge of Z while A and B are both high. -/
def execEncZ (k : Chan) (s : State) : Out :=
  if s.dget (ENC_CFG_MODE k.val) = 1 ∧ s.enc[k].ab = 3 then
    let s := (s.dput (ENC_POS_ZLAT k.val) (s.dget (ENC_POS_POS k.val))).dput (ENC_CFG_ZSEEN k.val) 1
    let s := if s.dget (ENC_CFG_ZRST k.val) = 1 then s.dput (ENC_POS_POS k.val) 0 else s
    let s := match s.encAxis k with | some n => s.fbReturn n | none => s
    match s.encFirst k with
    | some n => .next (s.raiseEv n evEnc)
    | none => .next s
  else .next s

/-- A boundary of axis n at the present base tick, shifted by a number of base ticks (R41). -/
def State.onBoundary (s : State) (n : Ax) (shift : Nat) : Bool :=
  let per := max 1 (s.aget n AX_TICK_PERIOD)
  let ph := (s.aget n AX_TICK_PHASE + shift) % per
  decide (ph ≤ s.clk) && (s.clk - ph) % per == 0

/-- SSI_REQUEST (R174): the trigger of a channel with TRIG = 1, TOFF after a boundary of the served axis; a drained
ENCk_REQ write requests through `State.iowEnc`. -/
def execSsiRequest (k : Chan) (s : State) : Out :=
  if s.dget (ENC_SSI_TRIG k.val) = 1 then
    match s.encAxis k with
    | some n => if s.onBoundary n (s.dget (ENC_CRC_TOFF k.val)) then .next (s.ssiStart k) else .next s
    | none => .next s
  else .next s

/-- The check of R175 over the bits of a word, most significant first: width w, from `reg`. -/
def ssiCrc (w poly : Nat) : List Bool → Nat → Nat
  | [], reg => reg
  | b :: t, reg =>
    let fb := (reg.testBit (w - 1)) != b
    let r := (2 * reg) % 2 ^ w
    ssiCrc w poly t (if fb then r ^^^ (poly % 2 ^ w) else r)

/-- The bits of the low `len` bits of a number, most significant first. -/
def bitsMsb (v len : Nat) : List Bool := (List.range len).map (fun i => v.testBit (len - 1 - i))

/-- The transaction of channel k is over. -/
def State.ssiIdle (s : State) (k : Chan) : State :=
  ({ s with enc := s.enc.set k.val { s.enc[k] with reqAt := none } k.isLt }).dput (ENC_STAT_BUSY k.val) 0

/-- A good word (R175): its position, its event, and the step it makes under the count method (R168). -/
def State.ssiGood (s : State) (k : Chan) (word : Nat) : State :=
  let w := s.dget (ENC_SSI_POSW k.val)
  let old := s.dget (ENC_POS_POS k.val)
  let new := (word >>> s.dget (ENC_SSI_POSLSB k.val)) % 2 ^ w
  let had := s.enc[k].good
  let s := (s.dput (ENC_RAW_WORD k.val) word).dput (ENC_POS_POS k.val) new
  let s := (s.dput (ENC_STAT_SEQ k.val) ((s.dget (ENC_STAT_SEQ k.val) + 1) % 2 ^ 16)).dput (ENC_STAT_BADRUN k.val) 0
  let s := { s with enc := s.enc.set k.val { s.enc[k] with good := true } k.isLt }
  let s := match s.encAxis k with | some n => s.fbReturn n | none => s
  match s.encFirst k with
  | some n =>
    let d0 := (new + 2 ^ w - old) % 2 ^ w
    let d : Int := if 2 * d0 ≥ 2 ^ w then (d0 : Int) - 2 ^ w else d0
    let s := s.raiseEv n evEnc
    if s.aget n AX_PCFG_SSRC = 2 ∧ had = true ∧ d ≠ 0 then s.stepEdge n d 4 else s
  | none => s

/-- The least duration of a transaction, base ticks (R174): the clock's first edge falls at the request, a bit is sampled SDLY
after every rising edge, and the last is the WLEN + CRCW-th, with a start bit one more. -/
def State.ssiLeast (s : State) (k : Chan) : Nat :=
  let bits := s.dget (ENC_SSI_WLEN k.val) + s.dget (ENC_CRC_CRCW k.val) + s.dget (ENC_SSI_STARTB k.val)
  (2 * bits - 1) * (s.dget (ENC_SSI_DIV k.val) + 1) + s.dget (ENC_SSI_SDLY k.val)

/-- The level of ENCkA on an SSI channel (R174): idle high; in a transaction the clock of 400 MHz / (2 (DIV + 1)), its first edge
falling, until the last bit is sampled (with STARTB while the start bit may still come: to the end of the transaction). -/
def State.ssiClock (s : State) (k : Chan) : Bool :=
  match s.enc[k].reqAt with
  | none => true
  | some t =>
    let u := s.clk - t
    (s.dget (ENC_SSI_STARTB k.val) == 0 && decide (s.ssiLeast k ≤ u)) || u / (s.dget (ENC_SSI_DIV k.val) + 1) % 2 == 1

/-- SSI_TRANSACTION_END (R174, R175). -/
def execSsiTransactionEnd (k : Chan) (word : BitVec 40) (crc : Byte) (s : State) : Out :=
  match s.enc[k].reqAt with
  | none => .next s
  | some t0 =>
    if t0 + s.dget (ENC_SSI_TMO k.val) * usTicks < s.clk ∨ s.clk < t0 + s.ssiLeast k then .next s
    else
      let len := s.dget (ENC_SSI_WLEN k.val)
      let v := word.toNat % 2 ^ len
      let cw := s.dget (ENC_CRC_CRCW k.val)
      let rx := crc.toNat % 2 ^ cw
      let s := s.ssiIdle k
      let s := if cw = 0 then s else s.dput (ENC_RAW_CRCRX k.val) rx
      let c := ssiCrc cw (s.dget (ENC_CRC_POLY k.val)) (bitsMsb v len) (s.dget (ENC_CRC_INIT k.val) % 2 ^ cw)
      let c := if s.dget (ENC_CRC_INV k.val) = 1 then 2 ^ cw - 1 - c else c
      if cw ≠ 0 ∧ c ≠ rx then .next (s.encFail k 16 1)
      else if s.dget (ENC_SSI_ERREN k.val) = 1 ∧
          (if v.testBit (s.dget (ENC_SSI_ERRPOS k.val)) then 1 else 0) = s.dget (ENC_SSI_ERRPOL k.val) then
        .next (s.encFail k 16 2)
      else .next (s.ssiGood k v)

/-- ENC_TIMEOUT (R175): the transaction is abandoned, and the channel waits for ENCkB to read high. -/
def execEncTimeout (k : Chan) (s : State) : Out :=
  match s.enc[k].reqAt with
  | none => .next s
  | some t0 =>
    if t0 + s.dget (ENC_SSI_TMO k.val) * usTicks < s.clk then
      .next (((s.ssiIdle k).modEnc k (fun q => { q with hold := true })).encFail k 17 3)
    else .next s

/-- Every boundary of axis n after a tick with no illegal transition returns BADRUN of an incremental channel that serves it to 0
(R176). -/
def State.encBoundary (s : State) (n : Ax) : State :=
  ([0, 1, 2, 3] : List Chan).foldl (fun s k =>
    if s.encAxis k = some n ∧ s.dget (ENC_CFG_MODE k.val) = 1 then
      let bad := s.enc[k].illegal
      let s := s.modEnc k (fun q => { q with illegal := false })
      if bad then s else s.dput (ENC_STAT_BADRUN k.val) 0
    else s) s

/-! ### Probes (R177, R178) -/

/-- The value a probe's source has at the present base tick; an axis whose angle is not valid gives its last captured one. -/
def State.probeValue (s : State) (src : Nat) : Nat :=
  if src < 4 then s.dget (ENC_POS_POS src)
  else
    let n : Ax := ⟨src % 8, by omega⟩
    match s.sensed n with | some x => x.toNat | none => s.aget n AX_PANG_ANGLE

/-- Change probe j. -/
def State.modPrb (s : State) (j : Chan) (f : PrbSt → PrbSt) : State := { s with prb := s.prb.set j.val (f s.prb[j]) j.isLt }

/-- An accepted edge latches, if EDGE selects it, the value and the TIME of the base tick in which it was first sampled (R177). -/
def State.prbAccepted (s : State) (j : Chan) (rising : Bool) (value : Nat) (time : W64) : State :=
  let s := s.modPrb j (fun _ => { level := some rising, pend := none })
  let e := s.dget (PRB_CFG_EDGE j.val)
  if (rising && e % 2 == 1) || (!rising && e / 2 == 1) then
    let w := s.dreg (PRB_LAT j.val)
    let w := (PRB_LAT_SEQ j.val).put w (((PRB_LAT_SEQ j.val).get w + 1) % 2 ^ 16)
    let w := (PRB_LAT_VALUE j.val).put w value
    let w := (PRB_LAT_POL j.val).put w (if rising then 1 else 0)
    let s := (s.setDreg (PRB_LAT j.val) w).setDreg (PRB_TIME j.val) time
    if s.dget (PRB_CFG_AXEN j.val) = 1 then s.raiseEv ⟨s.dget (PRB_CFG_AXIS j.val) % 8, by omega⟩ evPrb else s
  else s

/-- The level of a probe pin is accepted after FILT + 1 stable samples (R177). -/
def State.prbTick (s : State) (j : Chan) : State :=
  match s.prb[j].pend with
  | some (r, t, v, w) => if t + s.dget (PRB_CFG_FILT j.val) ≤ s.clk then s.prbAccepted j r v w else s
  | none => s

/-- PROBE_LATCH (R177): the pin goes high or low; a return to the accepted level within the filter is no edge. -/
def execProbeLatch (j : Chan) (rising : Bool) (s : State) : Out :=
  let q := s.prb[j]
  match q.pend with
  | some (r, _, _, _) => if r = rising then .next (s.prbTick j) else .next (s.modPrb j (fun q => { q with pend := none }))
  | none =>
    if q.level = some rising then .next s
    else
      .next ((s.modPrb j (fun q => { q with
        pend := some (rising, s.clk, s.probeValue (s.dget (PRB_CFG_SRC j.val)), s.time) })).prbTick j)

/-! ### Encoder emulation (R188 to R190) -/

/-- Units of the exact accumulator in one count. -/
abbrev emuUnit : Nat := 360360 * 2 ^ 32

/-- Counts of a channel beyond what BACKLOG can hold are discarded and counted (R189). -/
def capBacklog (x : Int) : Int × Nat :=
  if x.natAbs > 65535 then (if x < 0 then -65535 else 65535, x.natAbs - 65535) else (x, 0)

/-- The angle that output m follows under a configuration, none while it is not valid (R188). -/
def Axis.emuAngle (a : Axis) (m : Emu) (cfg : W64) : Option W32 :=
  if (EMU_CFG_SEL m.val).get cfg = 1 then some (BitVec.ofNat 32 (a.get AX_EMUANG_ANGLE))
  else if a.get AX_PANG_SVALID = 1 then some (BitVec.ofNat 32 (a.get AX_PANG_ANGLE)) else none

/-- A boundary of axis n for emulation output m: a written configuration takes effect, with the angle there as its reference, or
the angle step joins the accumulator and its integer part is to be emitted during the tick (R188 to R190). A count follows the
one before it by 200 ns or more. -/
def State.emuBoundary (s : State) (n : Ax) (m : Emu) : State :=
  let q := s.emu[m]
  let w := s.dreg (EMU_CFG m.val)
  if q.fresh ∧ (EMU_CFG_AXIS m.val).get w = n.val then
    let s := s.setDreg (EMU_STAT m.val) ((EMU_STAT_COUNT m.val).put ((EMU_STAT_BACKLOG m.val).put (s.dreg (EMU_STAT m.val)) 0) 0)
    { s with emu := s.emu.set m.val { num := 0, todo := 0, ref := (s.ax n).emuAngle m w, gap := 0, next := 0, last := q.last,
                                      cfg := w, fresh := false } m.isLt }
  else if (EMU_CFG_EN m.val).get q.cfg = 1 ∧ (EMU_CFG_AXIS m.val).get q.cfg = n.val then
    let a := s.ax n
    let ang := a.emuAngle m q.cfg
    let dth : Int := match ang, q.ref with | some x, some r => (x - r).toInt | _, _ => 0
    let num := q.num + dth * (4 * (EMU_CFG_LINES m.val).get q.cfg) * (360360 / max 1 (a.get AX_BASE0_PP) : Nat)
    let cnt := Int.tdiv num emuUnit
    let cap := capBacklog q.todo
    let gap := if cnt = 0 then 80 else max 80 (a.get AX_TICK_PERIOD / cnt.natAbs)
    let s := s.dput (EMU_STAT_BACKLOG m.val) cap.1.natAbs
    let s := s.dput (EMU_STAT_OVR m.val) (min 65535 (s.dget (EMU_STAT_OVR m.val) + cap.2))
    { s with emu := s.emu.set m.val { q with
        num := num - cnt * emuUnit, todo := cap.1 + cnt, ref := ang, gap := gap, next := max s.clk (q.last + 80) } m.isLt }
  else s

/-- EMU_COUNT_EMIT (R189): the next quadrature state at its instant; the output holds without a running tick (R188). -/
def execEmuCountEmit (m : Emu) (s : State) : Out :=
  let q := s.emu[m]
  let n : Ax := ⟨(EMU_CFG_AXIS m.val).get q.cfg % 8, by omega⟩
  if (EMU_CFG_EN m.val).get q.cfg = 1 ∧ q.todo ≠ 0 ∧ q.next ≤ s.clk ∧ s.ticks n = true then
    let c := s.dget (EMU_STAT_COUNT m.val)
    let s := s.dput (EMU_STAT_COUNT m.val) (if q.todo > 0 then (c + 1) % 2 ^ 32 else (c + 2 ^ 32 - 1) % 2 ^ 32)
    let s := s.dput (EMU_STAT_BACKLOG m.val) (s.dget (EMU_STAT_BACKLOG m.val) - 1)
    let q := { q with todo := if q.todo > 0 then q.todo - 1 else q.todo + 1, next := max (q.next + q.gap) (s.clk + 80), last := s.clk }
    .next { s with emu := s.emu.set m.val q m.isLt }
  else .next s

/-- The levels of EMUmA, EMUmB and EMUmZ (R189, R192). -/
def State.emuPins (s : State) (m : Emu) : Bool × Bool × Bool :=
  let w := s.emu[m].cfg
  if (EMU_CFG_EN m.val).get w = 0 then (false, false, false)
  else
    let c := s.dget (EMU_STAT_COUNT m.val)
    let ab : Bool × Bool := match c % 4 with | 0 => (false, false) | 1 => (true, false) | 2 => (true, true) | _ => (false, true)
    let ab := if (EMU_CFG_INV m.val).get w = 1 then (ab.2, ab.1) else ab
    let z := (EMU_CFG_ZEN m.val).get w = 1 && c % (4 * max 1 ((EMU_CFG_LINES m.val).get w)) == 0
    (ab.1, ab.2, z)

end Sys2Proof.Machine
end

