-- ==== Sys2Proof/Machine/StateMachine.lean ====
section
/-! DEFINITION. The axis state machine (R286 to R293), rotor losses (R185, R186) and the stall action (R128). -/

namespace Sys2Proof.Machine

open Sys2Proof

/-! ### Commands in execution on an axis -/

def isEnable (n : Ax) : Op → Bool | .enable m => m == n | _ => false
def isStop (n : Ax) : Op → Bool | .stop m => m == n | _ => false
def isClear (n : Ax) : Op → Bool | .clear m => m == n | _ => false
def isStateOp (n : Ax) (o : Op) : Bool := isEnable n o || isStop n o || isClear n o

/-- Complete the commands of a port that a test picks. -/
def State.completeWhere (s : State) (p : Port) (n : Ax) (f : Cmd → Bool) (status : Byte) : State :=
  ((s.port p).cmds.filter f).foldl (fun s c => s.complete p c.tag status (BitVec.ofNat 4 n.val) []) s

/-- Complete every started command on axis n of a kind (R291, R294). -/
def State.completeOps (s : State) (n : Ax) (f : Op → Bool) (status : Byte) : State :=
  allPorts.foldl (fun s p => s.completeWhere p n (fun c => c.started && f c.op) status) s

/-! ### Entering a state (R286, R287) -/

/-- Axis n enters a state that is not OASIS: its instant, what the entry does, and the commands it completes. -/
def State.enterSt (s : State) (n : Ax) (st : AxSt) : State :=
  let s := (s.setSt n st).aput n AX_SPD_STCNT 0
  let s := match st with
    | .starting | .catching => s.completeOps n (isEnable n) stOk
    | .arming =>
      s.modAx n (fun a => { (a.put AX_GDSTAT_WBMAX 0).put AX_SNSSTAT_OFSBAD 0 with
        pt := { a.pt with carrier := s.clk, duties := none } })
    | .off =>
      (s.modAx n (fun a => { a.put AX_SNSSTAT_TVBAD 0 with
        pt := { a.pt with offSince := s.clk }, pos := { a.pos with fallback := false }
        sense := { a.sense with tvRun := Vector.replicate 3 0 } })).completeOps n (fun o => isStop n o || isClear n o) stOk
    | _ => s
  (s.modAx n (fun a => { a with gd := { a.gd with arm := { Arming.idle with at_ := s.clk } } })).settle n

/-- The islands of an axis that AXGATE had stopped run again (R9). -/
def State.ungate (s : State) (n : Ax) : State := if s.ptIsl n = islStopped then s.setIsl n islRun else s

/-- Why an ENABLE is refused, if it is (R291, R247, R269). -/
def State.enableRefusal (s : State) (n : Ax) : Option Byte :=
  if (s.ax n).loaded = false ∨ (s.ax n).engine = none then some stNotPermitted
  else if s.dget (BUS_STAT_UV2 (s.busOf n).val) = 1 ∨ s.dget THERM_STAT_SHUT = 1 then some stStillActive
  else none

/-- A condition of R240 or R293 stands: CLEAR completes STILL_ACTIVE. -/
def State.clearRefused (s : State) (n : Ax) : Bool :=
  let a := s.ax n
  let oc := BitVec.ofNat 3 (a.get AX_GDSTAT_OCB) ||| BitVec.ofNat 3 (a.get AX_GDSTAT_OCH)
  let pins := BitVec.ofNat 4 (a.get AX_GDSTAT_TPIN)
  (oc &&& a.gd.ocNow &&& a.seesCurrent != 0) || (pins &&& s.pins.trip != 0) || (a.gd.stkOn &&& a.gd.vgs != 0) ||
    s.pins.safeLow || s.pins.vgdUv || s.pins.vgdLow || s.dget (BUS_STAT_OV2 (s.busOf n).val) == 1 || s.dget THERM_STAT_SHUT == 1

/-- ENABLE acts in the present state (R291), the refusals first: the status when it completes at once. -/
def State.actEnable (s : State) (n : Ax) : State × Option Byte :=
  match s.enableRefusal n with
  | some r => (s, some r)
  | none =>
      match (s.ax n).st with
      | .oasis => (s, some stAxisFault)
      | .off => ((s.ungate n).enterSt n .arming, none)
      | .decel => (s.enterSt n .catching, some stOk)
      | .disarm => (s.modAx n (fun a => { a with held := true }), none)
      | _ => (s, some stOk)

/-- STOP acts in the present state (R291); an ENABLE turned back in ARMING completes CANCELLED (log 42). -/
def State.actStop (s : State) (n : Ax) : State × Option Byte :=
  match (s.ax n).st with
  | .arming => ((s.completeOps n (isEnable n) stCancelled).enterSt n .disarm, none)
  | .starting | .running | .catching => (s.enterSt n .decel, none)
  | .decel | .disarm => (s, none)
  | _ => (s, some stOk)

/-- CLEAR acts in the present state (R291, R293, R240). -/
def State.actClear (s : State) (n : Ax) : State × Option Byte :=
  if (s.ax n).st = .oasis then
    if s.clearRefused n then (s, some stStillActive)
    else
      let s := s.modAx n (fun a =>
        let w := AX_GDSTAT_OCB.put (AX_GDSTAT_OCH.put (AX_GDSTAT_TPIN.put (a.reg AX_GDSTAT) 0) 0) 0
        let w := AX_GDSTAT_DESATG.put (AX_GDSTAT_STUCK.put (AX_GDSTAT_STKOFF.put w 0) 0) 0
        { a.setReg AX_GDSTAT w with gd := { a.gd with tripInOasis := false, bstOff := false, autoShort := false, stkOn := 0 } })
      (s.enterSt n .disarm, none)
  else (s, some stOk)

/-- A state command acts. -/
def State.actState (s : State) (n : Ax) (o : Op) : State × Option Byte :=
  if isEnable n o then s.actEnable n else if isStop n o then s.actStop n else s.actClear n

/-- Whether a state command must wait for the next boundary of axis n (R288): ticks run and it would change the state. -/
def State.waitsBoundary (s : State) (n : Ax) (o : Op) : Bool :=
  s.ticks n && (match (s.ax n).st with
    | .off => isEnable n o && (s.enableRefusal n).isNone
    | .decel => isEnable n o && (s.enableRefusal n).isNone
    | .arming | .starting | .running | .catching => isStop n o
    | .oasis => isClear n o && !s.clearRefused n
    | .disarm => false)

/-- A held ENABLE is superseded by a later command of the axis (R292). -/
def State.supersede (s : State) (n : Ax) : State :=
  if (s.ax n).held then
    (s.modAx n (fun a => { a with held := false })).completeOps n (isEnable n) stCancelled
  else s

/-- Replace a command of port p. -/
def State.modCmd (s : State) (p : Port) (tag : W16) (f : Cmd → Cmd) : State :=
  s.modPort p (fun q => { q with cmds := q.cmds.map (fun c => if c.tag = tag then f c else c) })

/-- A command that has started: a WRITE with registers left goes on with them (R317, R339). -/
def Cmd.goOn (c : Cmd) : Cmd :=
  match c.rest with
  | some x => { c with op := .wr x.1 x.2, rest := none, wrote := c.wrote.map (· + 1), started := true }
  | none => { c with started := true }

/-- The command has registers left to write. -/
def State.hasRest (s : State) (p : Port) (tag : W16) : Bool := (s.port p).cmds.any (fun c => c.tag == tag && c.rest.isSome)

/-- How many registers a WRITE had written when a register refused it with a status (R339). -/
def State.wroteOf (s : State) (p : Port) (tag : W16) (st : Byte) : Option W16 :=
  if st = stOk then none else ((s.port p).cmds.find? (fun c => c.tag == tag)).bind (·.wrote)

/-- A WRITE of port p has written k more registers. -/
def State.addWrote (s : State) (p : Port) (tag : W16) (k : Nat) : State :=
  s.modCmd p tag (fun c => { c with wrote := c.wrote.map (· + BitVec.ofNat 16 k) })

/-- A state command of port p starts: its effect, then its completion or its execution (R317, R294). -/
def State.runState (s : State) (p : Port) (n : Ax) (tag : W16) (o : Op) : State :=
  let r := s.actState n o
  match r.2 with
  | some st =>
    if st = stOk ∧ r.1.hasRest p tag = true then r.1.modCmd p tag Cmd.goOn
    else r.1.completeWith p tag st (BitVec.ofNat 4 n.val) [] (r.1.wroteOf p tag st)
  | none => r.1.modCmd p tag Cmd.goOn

/-- A held ENABLE acts as an ENABLE in OFF (R292). -/
def State.heldActs (s : State) (n : Ax) : State :=
  if (s.ax n).held then
    let s := s.modAx n (fun a => { a with held := false })
    let r := s.actEnable n
    match r.2 with
    | some st => r.1.completeOps n (isEnable n) st
    | none => r.1
  else s

/-! ### Rotor losses (R185, R186) -/

/-- A CATCH entry that the tick program requests from RUN or STARTING (R185). -/
def State.rotorLoss (s : State) (n : Ax) : State :=
  let ls := (s.clk :: s.recentLosses n).take 7
  let s := (s.modAx n (fun a => { a with losses := ls })).ainc n AX_CATCH_LOSSTOT
  if ls.length ≥ s.aget n AX_CATCH_LOSSMAX then s.axisFault n 14 0 else s.enterSt n .catching

/-! ### Causes at a boundary (R287, R288) -/

/-- A program request acts (R287). -/
def State.request (s : State) (n : Ax) (q : Nat) : State :=
  let bad := s.ainc n AX_STATE_BADREQ
  match q, (s.ax n).st with
  | 0, _ => s
  | 1, .starting | 1, .catching => s.enterSt n .running
  | 2, .catching => s.enterSt n .starting
  | 3, .starting | 3, .running => s.rotorLoss n
  | 4, .starting | 4, .running | 4, .catching => s.enterSt n .decel
  | 5, .decel => s.enterSt n .disarm
  | 6, .oasis => bad
  | 6, _ => s.enterOasis n 0x3F
  | _, _ => bad

/-- UV2 acts (R247). -/
def State.uv2Act (s : State) (n : Ax) : State :=
  match (s.ax n).st with
  | .arming => (s.completeOps n (isEnable n) stCancelled).enterSt n .disarm
  | .starting | .running | .catching => s.enterSt n .decel
  | _ => s

/-- A command still has something to start: it has not started, or it is a WRITE with registers left. -/
def Cmd.open_ (c : Cmd) : Bool := !c.started || (match c.op with | .wr _ _ => true | _ => false)

/-- A command holds back the later ones of its axes: it has something to start, or it is a load that runs (R317, R347). -/
def Cmd.blocks (c : Cmd) : Bool := c.open_ || isLoadOp c.op

/-- The state commands of axis n that wait and may start: of each port the first command that holds back the later ones of the
axis (R317); none while the system controller restarts (R280). -/
def State.waiting (s : State) (n : Ax) : List (Port × Cmd) :=
  if s.pool.restart then []
  else allPorts.flatMap (fun p => match (s.port p).cmds.find? (fun c => c.blocks && c.axes.getLsbD n.val) with
    | some c => if !c.started && isStateOp n c.op then [(p, c)] else []
    | none => [])

/-- The waiting command that acts at this boundary: a STOP that changes the state before any other (R288). -/
def State.chosen (s : State) (n : Ax) : Option (Port × Cmd) :=
  let w := (s.waiting n).filter (fun x => s.waitsBoundary n x.2.op)
  match w.find? (fun x => isStop n x.2.op) with
  | some x => some x
  | none => w.head?

/-- The causes that meet at a boundary of axis n act in the order of R288: the first that applies decides, and a program
request overruled is discarded. A command not chosen waits for a later boundary (log 43). -/
def State.boundaryActs (s : State) (n : Ax) : State :=
  let a := s.ax n
  let req := a.get AX_STATEREQ_REQ
  let s := s.modAx n (fun a => { a.put AX_STATEREQ_REQ 0 with uv2Req := false, escExit := false, stallReq := false })
  let live := decide (a.st = .arming ∨ a.st = .starting ∨ a.st = .running ∨ a.st = .catching)
  if req = 6 ∧ a.st ≠ .oasis then s.enterOasis n 0x3F
  else if a.uv2Req ∧ live = true then s.uv2Act n
  else match s.chosen n with
    | some (p, c) => s.runState p n c.tag c.op
    | none =>
      if a.stallReq ∧ a.st = .running then s.enterSt n .decel
      else if a.escExit ∧ (a.st = .running ∨ a.st = .starting) then s.enterSt n .catching
      else s.request n req

/-! ### The rows -/

/-- ARMING ends (R289): STARTING, or CATCH when the kept line-to-line level, mV, reached CATCHV. -/
def State.armed (s : State) (n : Ax) (kept : Nat) : State :=
  s.enterSt n (if 25 * s.aget n AX_SMCFG_CATCHV ≤ kept then .catching else .starting)

/-- ARMING_COMPLETE (R289): the gate-drive steps of R228 are done. -/
def execArmingComplete (n : Ax) (terms : List Terminals) (s : State) : Out :=
  if (s.ax n).st = .arming ∧ (s.ax n).gd.arm.step = 4 then .next (s.armed n (keptMax terms)) else .next s

/-- ARMING_BOOTSTRAP_TIMEOUT (R228): bootstrap charging takes longer than 2 ms. -/
def execArmingBootstrapTimeout (n : Ax) (s : State) : Out :=
  if (s.ax n).st = .arming ∧ (s.ax n).gd.arm.step = 1 ∧ (s.ax n).gd.arm.at_ + 2 * msTicks < s.clk then .next (s.axisFault n 5 0)
  else .next s

/-- DISARM ends in OFF, every gate below 1.5 V; a held ENABLE acts (R290, R292). -/
def State.disarmed (s : State) (n : Ax) : State :=
  ((s.modAx n (fun a => { a with gd := { a.gd with low := 0b111111 } })).enterSt n .off).heldActs n

/-- DISARM_COMPLETE (R290): six gates below 1.5 V for 10 µs, from the entry or the last fall of a gate. -/
def execDisarmComplete (n : Ax) (s : State) : Out :=
  if (s.ax n).st = .disarm ∧ max (s.ax n).since (s.ax n).gd.fallAt + 10 * usTicks ≤ s.clk ∧ (s.ax n).gd.vgs = 0 then
    .next (s.disarmed n)
  else .next s

/-- STOPTMO (R287): DECEL has lasted STOPTMO ms. -/
def execStoptmo (n : Ax) (s : State) : Out :=
  if (s.ax n).st = .decel ∧ (s.ax n).since + s.aget n AX_SMCFG_STOPTMO * msTicks ≤ s.clk then .next (s.enterSt n .disarm)
  else .next s

/-- STATE_REQUEST (R287): at the boundary after its drain the program request acts, in the order of R288. -/
def execStateRequest (n : Ax) (s : State) : Out :=
  if s.onBoundary n 0 ∧ s.ticks n = true ∧ s.aget n AX_STATEREQ_REQ ≠ 0 then .next (s.boundaryActs n) else .next s

/-- CATCH_TIMEOUT (R186). -/
def execCatchTimeout (n : Ax) (s : State) : Out :=
  if (s.ax n).st = .catching ∧ (s.ax n).since + s.aget n AX_CATCH_TMO * msTicks < s.clk then .next (s.axisFault n 14 0)
  else .next s

/-- STALL (R128): STCNT has reached TICKS. -/
def execStall (n : Ax) (s : State) : Out :=
  let a := s.ax n
  let t := a.get AX_STALL_TICKS
  if a.st = .running ∧ t ≠ 0 ∧ t ≤ a.get AX_SPD_STCNT then
    let s := (s.count 15 n.val).aput n AX_SPD_STCNT 0
    match a.get AX_STALL_ACT with
    | 1 => if s.ticks n then .next (s.modAx n (fun a => { a with stallReq := true })) else .next (s.enterSt n .decel)
    | 2 => .next ((s.detect 15 n.val 0).enterOasis n 15)
    | _ => .next s
  else .next s

end Sys2Proof.Machine
end

