-- ==== Sys2Proof/Machine/Tick.lean ====
section
/-! DEFINITION. The tick boundary (R42), the pulse island's part in it (chapter 7), and the events of the pulse island. -/

namespace Sys2Proof.Machine

open Sys2Proof

/-! ### The request of a tick -/

/-- The request before any APPLY: DTC with V0. -/
def Req.none : Req := { mode := 0, vec := 0, neg := false, ax := 0, ay := 0, bx := 0, pred := Option.none }

/-- Axis n regenerates (R248): its bus-current estimate lies below -REGTH. -/
def State.regenerating (s : State) (n : Ax) : Bool :=
  decide ((s.ax n).sense.ibus < -((s.dget (BUS_ESC_REGTH (s.busOf n).val) * 2 ^ 16 : Nat) : Int))

/-- The end of the carrier period that runs at instant t, 1/32 base ticks (R195). -/
def Axis.carrierEnd (a : Axis) (t : Nat) : Nat :=
  let tp := 32 * max 1 (a.get AX_PTCFG_PWMPER)
  let c := 32 * a.pt.carrier
  c + ((t - c) / tp + 1) * tp

/-- What a hold gives a phase: the zero vector of OV2 behaviour on every phase, else L where the bound acts (R207, R249). -/
def Hold.ph (h : Hold) (a : Axis) (mode : Nat) (p : Phase) : Option Ph :=
  match h.ov with
  | some v => some (vecPh v.toNat p)
  | none => if h.bound = true ∧ (mode = 1 ∨ a.role p = 1) then some .l else none

/-- Where the forced window of the tick that starts at b begins; the tick's end without one (R148). -/
def Axis.forcedFrom (a : Axis) (b : Nat) : Nat :=
  let e := 32 * (b + max 1 (a.get AX_TICK_PERIOD))
  if a.sense.forced then max (32 * b) (e - 32 * (a.get AX_SNSCFG_TSET + a.pt.dt + 128)) else e

/-- The state the forced window gives a phase (R148): V0; on inline shunts in DTC mode the zero vector of R118. -/
def Axis.forcedPh (a : Axis) (r : Req) (p : Phase) : Option Ph :=
  match r.mode.toNat with
  | 0 => some (vecPh (if a.get AX_SNSCFG_MODE = 1 then fillVec 0 r.vec.toNat else 0) p)
  | 1 => some .l
  | _ => if a.role p = 1 then some .l else none

/-- A phase over [t1, t2) of a tick that ends at e. -/
def spanTo (l : Segs) (t1 t2 e : Nat) (x : Ph) : Segs := if t2 < e then replaceSpan l t1 t2 x else replaceFrom l t1 x

/-- The request in force becomes the plan of the tick that starts at b (R195, R197, R148, R207, R249); zeroed for the zero
vector of a policy request. -/
def State.formPlan (s : State) (n : Ax) (zeroed : Bool) (b : Nat) : State :=
  let a := s.ax n
  let r := a.pt.loaded.getD Req.none
  let per := max 1 (a.get AX_TICK_PERIOD)
  let e := 32 * (b + per)
  let ov := s.ov2Behaviour (s.busOf n) && s.regenerating n
  let q := formRequest a (s.hrfb n) r (zeroed || (ov && r.mode == 0)) b per
  let hold : Option Hold :=
    if r.mode = 0 ∨ zeroed = true then none
    else if ov then
      some { stop := a.carrierEnd (e - 1), bound := false, ov := some (BitVec.ofNat 3 (zeroVec (a.get AX_PTCFG_ZFILL))) }
    else a.pt.hold.filter (fun h => decide (32 * b < h.stop))
  let fe := a.forcedFrom b
  let plan := Vector.ofFn (fun p : Phase =>
    let l := match hold with
      | some h => (match h.ph a r.mode.toNat p with | some x => spanTo q.1[p] (32 * b) h.stop e x | none => q.1[p])
      | none => q.1[p]
    if a.sense.forced then (match a.forcedPh r p with | some x => replaceFrom l fe x | none => l) else l)
  s.modAx n (fun a => { a with pt := { a.pt with
    plan := plan, activeEnd := min q.2.1 fe, fill := BitVec.ofNat 3 q.2.2.1, duties := q.2.2.2, start := b, hold := hold } })

/-- Whether the MISSED_TICK policy holds the last request at the given policy boundary (R213). -/
def Axis.holds (a : Axis) (k : Nat) : Bool := a.get AX_PTCFG_MISSED == 1 && decide (k ≤ a.get AX_PTCFG_HOLDMAX)

/-- PTn loads the committed request, or applies the MISSED_TICK policy (R42 step 1, R213); true when the tick is a zero vector. -/
def State.loadRequest (s : State) (n : Ax) : State × Bool :=
  match (s.ax n).pt.committed with
  | some r =>
    (s.modAx n (fun a => { (a.put AX_PTSTAT_HOLDRUN 0).put AX_PTSTAT_MISS 0 with
      pt := { a.pt with committed := none, loaded := some r, policy := false } }), false)
  | none =>
    let k := min 15 (s.aget n AX_PTSTAT_HOLDRUN + 1)
    let zero := !(s.ax n).holds k || s.aget n AX_PTSTAT_HOLDRUN ≥ 15
    (s.modAx n (fun a => { (a.put AX_PTSTAT_HOLDRUN k).put AX_PTSTAT_MISS 1 with
      pt := { a.pt with policy := true, loaded := a.pt.loaded.map (fun r => { r with pred := none }) } }), zero)

/-- KBUS of a bus from its voltage (R246); the voltage and the levels in 25 mV units, rounded to nearest (log 31). -/
def State.kbus (s : State) (x : Bus) (v : Nat) : Nat :=
  let u1 := 4 * s.dget (BUS_UV_UV1 x.val)
  let u2 := 4 * s.dget (BUS_UV_UV2 x.val)
  let m := s.dget (BUS_UV_KBMIN x.val)
  if u1 ≤ v then 0x8000
  else if v ≤ u2 then m
  else m + (2 * ((0x8000 - m) * (v - u2)) + (u1 - u2)) / (2 * (u1 - u2))

/-- The bus voltage is reported: KBUS follows. -/
def State.busV (s : State) (x : Bus) (v : Nat) : State :=
  (s.dput (BUS_STAT_VBUS x.val) v).dput (BUS_STAT_KBUS x.val) (s.kbus x v)

/-- The auxiliary conversions that come with a boundary: the axis's bus, and the AIN channels (R154, R155). -/
def State.auxCodes (s : State) (n : Ax) (adc : Adc) : State :=
  let s := match adc.bus.getLast? with | some v => s.busV (s.busOf n) v.toNat | none => s
  adc.ain.foldl (fun s x => s.ainCode x) s

/-- The captures of R124 and R147, rounded once (R72): TL, TLSTAT and MIRCO; and the current equivalent of TL that the bound
compares with (R125, R207). -/
def State.captureTl (s : State) (n : Ax) : State :=
  let x := s.busOf n
  s.modAx n (fun a =>
    let kbus := s.dget (BUS_STAT_KBUS x.val)
    let neg := s.ov2Behaviour x
    let kmin := min (a.get AX_TLSTAT_KTH) kbus
    let lim := fun (i : Nat) => (sat32 ((i * a.get AX_TQLIM_KT * kmin + 4096) / 8192 : Nat)).1
    let a := ((a.put AX_TLSTAT_KBUS kbus).put AX_TLSTAT_KMIN kmin).put AX_TLSTAT_NEGINH (if neg then 1 else 0)
    let a := a.setReg AX_TL (lanes (lim (a.get AX_TQLIM_ILIMP)) (if neg then 0 else lim (a.get AX_TQLIM_ILIMN)))
    { a with
      sense := { a.sense with mirco := a.reg AX_MIRCO }
      pt := { a.pt with bound := (a.get AX_TQLIM_ILIMP * kmin, if neg then 0 else a.get AX_TQLIM_ILIMN * kmin) } })

/-! ### Bootstrap refresh (R205, R206) -/

/-- The field of a phase's count. -/
def bcFld (p : Phase) : Fld := match p.val with | 0 => AX_PTSTAT_BCU | 1 => AX_PTSTAT_BCV | _ => AX_PTSTAT_BCW

/-- The counts at a boundary, and the physical phases that refresh in the new tick: the mask must pass the low side, and no
protective output or CATCH may stand (R206, R184). -/
def State.refreshCounts (s : State) (n : Ax) : State × BitVec 3 :=
  let a := s.ax n
  let refn := a.get AX_PTBST_REFN
  let free := (s.protective n).isNone
  let r := allPh.foldl (fun (x : Axis × BitVec 3) p =>
    let c := if a.pt.lowSeen.getLsbD p.val then 0 else min (a.get (bcFld p) + 1) (max 1 refn)
    if refn ≤ c ∧ free = true ∧ a.maskGates.getLsbD (lowGate p).val = true then
      (x.1.put (bcFld p) 0, x.2 ||| ((1 : BitVec 3) <<< p.val))
    else (x.1.put (bcFld p) c, x.2)) (a, 0)
  (s.modAx n (fun _ => r.1), r.2)

/-- The low sides that conduct from the boundary on: commanded on and not turned off at its instant. -/
def Axis.lowNow (a : Axis) (b : Nat) : BitVec 3 :=
  allPh.foldl (fun m p =>
    let g := lowGate p
    if a.lowCmds.getLsbD p.val && !(a.pt.sched.any (fun e => e.g == g && !e.on && decide (e.t ≤ 32 * b))) then
      m ||| ((1 : BitVec 3) <<< p.val) else m) 0

/-! ### The output mask (R209) -/

/-- The mask index at a boundary: a STEP write advances it, SRC 1 follows the delivered commutation index. -/
def State.maskIndex (s : State) (n : Ax) : State :=
  let a := s.ax n
  let m := a.pt.mctl
  let rev := AX_PTMCTL_REV.get m
  let i := a.get AX_PTMCTL_INDEX
  let i := match AX_PTMCTL_SRC.get m with
    | 1 => if a.pos.commValid then
        (if a.pos.comm.toNat ≥ 6 then 6 else (a.pos.comm.toNat + AX_PTMCTL_MOFS.get m + 3 * rev) % 6) else i
    | 2 => if a.pt.stepReq then (if rev = 1 then (i + 5) % 6 else (i + 1) % 6) else i
    | _ => i
  s.modAx n (fun a => { a.put AX_PTMCTL_INDEX i with pt := { a.pt with stepReq := false } })

/-- The words of R215 whose writes act at the boundary. -/
def State.inForce (s : State) (n : Ax) : State :=
  s.modAx n (fun a => { a with pt := { a.pt with
    ovr := a.reg AX_PTOVR, mtab := a.reg AX_PTMTAB, mctl := a.reg AX_PTMCTL, ptsw := a.reg AX_PTSW
    cmp := Vector.ofFn (fun k : Chan => a.reg (AX_PTCMP k.val)) } })

/-! ### The pulse island's boundary -/

/-- The forced window of R148 in the new tick: some phase was skipped MIRMAX times; never in CATCH (R184). -/
def State.forceWindow (s : State) (n : Ax) : State :=
  let a := s.ax n
  let f := a.st != .catching && allPh.any (fun p => decide (a.get AX_SNSCFG_MIRMAX ≤ a.get (skFld p)))
  let s := s.modAx n (fun a => { a with sense := { a.sense with forced := f } })
  if f then s.count 20 n.val else s

/-- The commands and the edges to come that the front end goes by (R142, R143): those the output mask passes (R208); a
protective output has no edges to come, and nothing of the request path reaches the pins under it (R194). -/
def State.toPins (s : State) (n : Ax) : BitVec 6 × List Edge :=
  let a := s.ax n
  match s.protective n with
  | some g => (g, [])
  | none => (a.pt.cmd &&& a.maskGates, a.pt.sched.filter (fun e => a.maskGates.getLsbD e.g.val))

/-- The apertures of the new interval, on the schedule as it stands (R142, R143). -/
def State.takeApertures (s : State) (n : Ax) : State :=
  let w := s.toPins n
  s.modAx n (fun a =>
    let r := chooseApertures (a.get AX_SNSCFG_MODE == 1) (a.get AX_SNSCFG_TSET) a.pt.start (max 1 (a.get AX_TICK_PERIOD))
      w.1 (w.2.filter (fun e => !e.uns)) a.pt.emitted
    { a with pt := { a.pt with t1 := r.1, apertures := r.2 } })

/-- PTn at a boundary (R42 step 1, R193 to R215). -/
def State.ptBoundary (s : State) (n : Ax) : State :=
  let b := s.clk
  let r := s.loadRequest n
  let s := (r.1.captureTl n).forceWindow n
  let f := s.refreshCounts n
  let s := f.1.modAx n (fun a => { a with pt := { a.pt with
    dt := f.1.deadTime n, emitted := a.pt.emitted.filter (fun e => decide (32 * (b - 1228) ≤ e.t))
    refEnd := Vector.ofFn (fun q : Phase =>
      if f.2.getLsbD q.val then 32 * (b + f.1.deadTime n + a.get AX_PTBST_REFW) else 0) } })
  let s := (s.formPlan n r.2 b).schedule n (32 * b) .boundary
  let s := s.modAx n (fun a => { a with pt := { a.pt with lowSeen := a.lowNow b } })
  (s.takeApertures n).settleAt n (32 * b) false

/-! ### The mailbox swap (R50, R42 steps 2 and 6) -/

/-- The inbound pages swap, ISEQ advances, the new active page is copied into the inactive one, EV_MB is raised. The copy
takes 34 SYS cycles of 200 MHz, during which writes are held (R51). -/
def State.mbSwap (s : State) (n : Ax) : State :=
  let s := s.modAx n (fun a =>
    let a := { a with mb := { a.mb with inPage := !a.mb.inPage, copyUntil := s.clk + 68 } }
    let a := (a.put AX_MBCTL_PEND 0).put AX_MBCTL_ISEQ ((a.get AX_MBCTL_ISEQ + 1) % 2 ^ 16)
    (List.range 16).foldl (fun a i => a.setD (inWord (!a.mb.inPage) i) (a.dword (inWord a.mb.inPage i))) a)
  s.raiseEv n evMb

/-! ### The engine's boundary -/

/-- The checkpoint words of an engine's state (R40, R42 steps 3 and 5). -/
def Axis.checkpoint (a : Axis) (c : Core) : Axis :=
  let a := (List.range 32).foldl (fun a i => a.setD i (c.v.toList.getD i 0)) a
  let k := fun (i : Nat) => c.k.toList.getD i 0
  let a := (List.range 8).foldl (fun a i => a.setD (0x20 + i) (lanes (k (2 * i)) (k (2 * i + 1)))) a
  let a := ((a.setD 0x28 (c.f.setWidth 64)).setD 0x29 (c.pc.setWidth 64)).setD 0x2A (c.lc.setWidth 64)
  let a := a.setD 0x2B (c.lk.setWidth 64)
  [0x2C, 0x2D, 0x2E, 0x2F].foldl (fun a w => a.setD w 0) a

/-- The engine state that the checkpoint words hold. -/
def Axis.restore (a : Axis) : Core :=
  { v := Vector.ofFn (fun i : Fin 32 => a.dword i.val)
    k := Vector.ofFn (fun i : Fin 16 => if i.val % 2 = 0 then laneX (a.dword (0x20 + i.val / 2)) else laneY (a.dword (0x20 + i.val / 2)))
    f := laneX (a.dword 0x28), pc := (a.dword 0x29).setWidth 13, lc := (a.dword 0x2A).setWidth 12,
    lk := (a.dword 0x2B).setWidth 13 }

/-- A tick begins on the engine of axis n: pending events reach F (R77), the state is checkpointed, execution begins at the
entry word with CYC = 2 (R42 steps 3 to 5, R66, R71). -/
def State.startTick (s : State) (n : Ax) : State :=
  match (s.ax n).engine with
  | some e =>
    let a := s.ax n
    let c := (s.eng e).core
    let c := { c with f := fBoundary c.f a.ev }
    let s := s.modAx n (fun a => { a.checkpoint c with
      ev := 0
      run := { TickRun.idle with
        running := true, cyc := 2, seen := a.ev, time := s.time
        snap := { tl := a.reg AX_TL, mirco := a.sense.mirco, set := a.sense.set, win := a.sense.win, mir := a.sense.mir,
                  mlim := a.sense.mlim, kcf := a.sense.kcf } }
      pt := { a.pt with curb := false, drained := false } })
    s.modEng e (fun g => { g with core := { c with pc := 0 } })
  | none => s

/-- A boundary of axis n at the present base tick with the island running (R41 to R44). -/
def State.boundary (s : State) (n : Ax) (adc : Adc) : State :=
  let s := ((s.playUntil n (32 * s.clk)).auxCodes n adc).sampleSet n adc
  let s := ((s.inForce n).maskIndex n).boundaryActs n
  let s := s.ptBoundary n
  let s := if (s.ax n).run.running || s.recovering n then s
    else if s.aget n AX_MBCTL_PEND = 1 then s.mbSwap n else s
  let s := s.encBoundary n
  let s := if s.recovering n then s else s.capture n
  let s := (s.emuBoundary n 0).emuBoundary n 1
  if s.ticks n && !(s.ax n).run.running && !s.recovering n then s.startTick n else s

/-- A boundary that passes while axis n is halted only counts (R56). -/
def State.missed (s : State) (n : Ax) : State := s.modAx n (fun a => { a with missed := min (a.missed + 1) 65535 })

/-! ### Debug resume (R56, R214) -/

/-- The island unfreezes: the MISSED_TICK policy applies from now to the next boundary, with no count (R214). -/
def State.unfreeze (s : State) (n : Ax) : State :=
  let per := max 1 (s.aget n AX_TICK_PERIOD)
  let ph := s.aget n AX_TICK_PHASE % per
  let b := s.clk - (s.clk + per - ph) % per
  let s := s.modAx n (fun a =>
    let d := s.clk - a.pt.frozenAt
    { a with pt := { a.pt with
      policy := true, sched := [], loaded := a.pt.loaded.map (fun r => { r with pred := none })
      carrier := a.pt.carrier + d, refEnd := Vector.replicate 3 0
      hold := a.pt.hold.map (fun h => { h with stop := h.stop + 32 * d }) } })
  let s := s.formPlan n (!(s.ax n).holds (s.aget n AX_PTSTAT_HOLDRUN)) b
  (s.schedule n (32 * s.clk) .thaw).settle n

/-- END (R43, R86); after a debug resume the pulse island unfreezes here (R56). -/
def execEndTick (n : Ax) (_ : Fields) (s : State) : Out :=
  match s.ready n with
  | some e =>
    let was := (s.ax n).resuming
    let s := s.endTick n e
    if was ∧ (s.ax n).halted = false then .next (s.unfreeze n) else .next s
  | none => .next s

/-! ### Events of the pulse island -/

/-- PTMCTL_STEP (R209): at the boundary after its drain a STEP write advances the mask index. -/
def execPtmctlStep (n : Ax) (s : State) : Out :=
  if s.onBoundary n 0 ∧ (s.ax n).pt.stepReq = true ∧ s.aget n AX_PTSTAT_FROZEN = 0 then
    .next (((s.inForce n).maskIndex n).settle n)
  else .next s

/-- The rest of the request is rewritten from the present base tick, up to a forced window (R207, R249): DTC takes the fill;
the other modes hold the bound or the zero vector of OV2 behaviour to the end of the carrier period. -/
def State.rewritePlan (s : State) (n : Ax) (bound : Bool) : State :=
  let a := s.ax n
  let r := a.pt.loaded.getD Req.none
  let t := 32 * s.clk
  let e := 32 * (a.pt.start + max 1 (a.get AX_TICK_PERIOD))
  let fe := a.forcedFrom a.pt.start
  let old := a.pt.hold.filter (fun h => decide (t < h.stop))
  let h : Hold := { stop := a.carrierEnd t, bound := bound || old.any (·.bound)
                    ov := if bound then old.bind (·.ov) else some (BitVec.ofNat 3 (zeroVec (a.get AX_PTCFG_ZFILL))) }
  let till := if r.mode = 0 then fe else min h.stop fe
  let plan := Vector.ofFn (fun p : Phase =>
    let x := if r.mode = 0 then some (vecPh a.pt.fill.toNat p) else h.ph a r.mode.toNat p
    match x with
    | some x => if till ≤ t then a.pt.plan[p] else spanTo a.pt.plan[p] t till e x
    | none => a.pt.plan[p])
  let s := s.modAx n (fun a => { a with pt := { a.pt with
    plan := plan, activeEnd := if r.mode = 0 then t else a.pt.activeEnd, hold := if r.mode = 0 then none else some h } })
  if plan = a.pt.plan then s else (s.schedule n t .rewrite).settleAt n t false

/-- The level the current bound compares with (R125, R207), units of 2^-29 I_base: the negative-torque equivalent where the DTC
vector was latched with t = 2. -/
def Axis.boundLevel (a : Axis) : Nat :=
  let r := a.pt.loaded.getD Req.none
  if r.mode = 0 ∧ r.neg = true then a.pt.bound.2 else a.pt.bound.1

/-- The current bound acts: in the active segment of a DTC tick, and in any DUTY or SIX tick; it sets CURB for the tick, in
AXn_TLSTAT at its drain, or at once where the tick has drained (R125, R207). -/
def State.boundActs (s : State) (n : Ax) : State :=
  let r := (s.ax n).pt.loaded.getD Req.none
  if r.mode = 0 ∧ (s.ax n).pt.activeEnd ≤ 32 * s.clk then s
  else
    let s := s.playUntil n (32 * s.clk)
    let s := s.modAx n (fun a => { (if a.pt.drained then a.put AX_TLSTAT_CURB 1 else a) with pt := { a.pt with curb := true } })
    s.rewritePlan n true

/-- CURRENT_BOUND (R207): the comparator of a phase, blanked for TSET base ticks after every edge of the axis. -/
def execCurrentBound (n : Ax) (_ : Phase) (uv : Int) (s : State) : Out :=
  let a := s.ax n
  if a.get AX_PTSTAT_FROZEN = 0 ∧ s.ptIsl n = islRun ∧ a.lastEdge + 32 * a.get AX_SNSCFG_TSET ≤ 32 * s.clk ∧
      a.ampAbove a.boundLevel 29 uv = true then .next (s.boundActs n)
  else .next s

/-- COMPARE (R210, R211): compare k at its offset drives its TRGO pin, takes a snapshot, or both. -/
def execCompare (n : Ax) (k : Chan) (codes : BitVec 14 × BitVec 14 × BitVec 14) (s : State) : Out :=
  let a := s.ax n
  let w := a.pt.cmp[k]
  let tgt := (AX_PTCMP_TGT k.val).get w
  if s.onBoundary n ((AX_PTCMP_OFS k.val).get w) ∧ a.get AX_PTSTAT_FROZEN = 0 ∧ s.ptIsl n = islRun ∧ tgt ≠ 0 then
    let s := if tgt % 2 = 1 then
        let pin : Fin 4 := ⟨(AX_PTCMP_PIN k.val).get w % 4, by omega⟩
        s.modAx n (fun a => { a with pt := { a.pt with
          trgo := a.pt.trgo.set pin.val (max a.pt.trgo[pin] (s.clk + (AX_PTCMP_WIDTH k.val).get w)) pin.isLt } })
      else s
    if tgt / 2 = 1 then
      let w := s.toPins n
      .next (s.modAx n (fun a =>
        let v := if s.clk + 128 ≤ a.pt.start + max 1 (a.get AX_TICK_PERIOD) then
            validAt (a.get AX_SNSCFG_MODE == 1) (a.get AX_SNSCFG_TSET) w.1 w.2 a.pt.emitted s.clk else 0
        let q := fun (p : Phase) => phmap (a.get AX_PTMAP_PHMAP) p
        let c := fun (p : Phase) => ((adcOf codes (q p) - a.ofs (q p)) % 65536).toNat
        let ok := allPh.foldl (fun m p => if v.getLsbD (q p).val then m + 2 ^ p.val else m) 0
        let sh := (List.range a.pt.apertures.length).any (fun i =>
          decide (s.clk ≤ a.pt.t1 - 100 * i + 100 ∧ a.pt.t1 - 100 * i ≤ s.clk + 100))
        let x := AX_PTSNAP_IW.put (AX_PTSNAP_IV.put (AX_PTSNAP_IU.put 0 (c 0)) (c 1)) (c 2)
        let x := AX_PTSNAP_CMP.put (AX_PTSNAP_VALID.put x ok) k.val
        a.setReg AX_PTSNAP (AX_PTSNAP_SHARED.put x (if sh then 1 else 0))))
    else .next s
  else .next s

/-- The level of TRGO pin k: the OR of every axis's compares (R210). -/
def State.trgoPin (s : State) (k : Chan) : Bool := allAx.any (fun n => decide (s.clk < (s.ax n).pt.trgo[k]))

/-- SWITCHING_RATE_WINDOW (R212): every 400 000 base ticks, RATIO = (N / 3) / (TARGET × 1 ms). -/
def execSwitchingRateWindow (n : Ax) (s : State) : Out :=
  let a := s.ax n
  if s.clk % 400000 = 0 ∧ a.pt.window ≠ s.clk / 400000 then
    let t := AX_PTSW_TARGET.get a.pt.ptsw
    let r := if t = 0 then 2 ^ 30 else min (2 ^ 31 - 1) (roundDiv (a.pt.highOns * 1000 * 2 ^ 30 : Nat) (3 * t)).toNat
    .next (s.modAx n (fun a => { a.put AX_PTSW_RATIO r with pt := { a.pt with highOns := 0, window := s.clk / 400000 } }))
  else .next s

end Sys2Proof.Machine
end

