-- ==== Sys2Proof/Machine/Pool.lean ====
section
/-! DEFINITION. The engine pool: stops, arbitration and migration (R281 to R284), self-test (R285), memories and the system
controller (R39, R279, R280). -/

namespace Sys2Proof.Machine

open Sys2Proof

/-! ### Stops of an engine (R34, R44 to R46, R79, R281, R434) -/

/-- DETAIL of R434. -/
def stopDetail (e : Eng) (cause : BitVec 4) : Nat := e.val * 256 + cause.toNat

/-- A spare that no need has chosen. -/
def State.freeSpare (s : State) (st : PoolSt) (e : Eng) : Bool :=
  (s.eng e).pool == st && !(s.pool.needs.any (fun x => x.chosen == some e))

/-- The spare the arbiter chooses: SPARE before SELFTEST, then the lower number (R282). -/
def State.pickSpare (s : State) : Option Eng :=
  match allEng.find? (fun e => s.freeSpare .spare e) with
  | some e => some e
  | none => allEng.find? (fun e => s.freeSpare .selftest e)

/-- The commit buffer and everything else of the running tick of axis n are discarded (R44); the events that reached F in it
are kept for the recomputation (R77), and the DTC latch is that of the boundary. -/
def Axis.discard (a : Axis) : Axis :=
  { a with run := { TickRun.idle with seen := a.run.seen, time := a.run.time, snap := a.run.snap } }

/-- The tick of a debug resume will not reach its drain: the pulse island unfreezes now (R56; DESIGN CHOICE, log 118). -/
def State.endResume (s : State) (n : Ax) : State :=
  if (s.ax n).resuming then
    (s.modAx n (fun a => { a.put AX_PTSTAT_FROZEN 0 with resuming := false })).unfreeze n
  else s

/-- A detected stop: no spare, or a disagreement in the copy (R45, R283, R434). -/
def State.stopDetected (s : State) (n : Ax) (e : Eng) (cause : BitVec 4) : State :=
  ((s.detect 25 n.val (stopDetail e cause)).enterOasis n 25).endResume n

/-- The engine of axis n stops: it is retired, ENGINE_MAP reads 0xF, the tick is discarded (a recomputation after a debug
resume still unfreezes the island at its drain, R56), and a need for a spare is raised;
the copy's disagreement and a pool without spares put the axis in OASIS (R281 steps 1 and 2, R283, R45). -/
def State.engineStop (s : State) (n : Ax) (e : Eng) (cause : BitVec 4) : State :=
  let s := s.count 25 n.val
  let s := s.modEng e (fun g => { g with pool := .retired })
  let s := s.modAx n (fun a => { a.discard with engine := none })
  let s := s.modPool (fun p => { p with redo := p.redo.filter (fun r => r.1 != n) })
  if cause = 3 ∨ s.pickSpare = none then s.stopDetected n e cause
  else
    let g := match s.pool.group with
      | some t => if s.clk ≤ t + 2 * usTicks then t else s.clk
      | none => s.clk
    s.modPool (fun p => { p with group := some g, needs := p.needs ++
      [{ axis := n, failed := e, cause := cause, at_ := s.clk, grp := g, chosen := none, late := false, connected := false, rerun := true }] })

/-- ENG_MISMATCH (R34, R281): the cores of axis n's engine disagree in execution, in cycle 2 or later of a tick. -/
def execEngMismatch (n : Ax) (s : State) : Out :=
  match (s.ax n).engine with
  | some e =>
    if (s.eng e).pool = .active ∧ (s.ax n).run.running = true then .next (s.engineStop n e 1) else .next s
  | none => .next s

/-- ENGINE_OVERRUN (R46): no END by WCET + 16 cycles; the T of a WAIT in progress counts as its cycles pass. -/
def execEngineOverrun (n : Ax) (s : State) : Out :=
  let r := (s.ax n).run
  let c := r.cyc + (match r.wait with | some (_, t, t0) => min t (s.clk - t0) | none => 0)
  match (s.ax n).engine with
  | some e =>
    if (s.eng e).pool = .active ∧ r.running = true ∧ s.aget n AX_WCET_WCET + 16 ≤ c then .next (s.engineStop n e 2)
    else .next s
  | none => .next s

/-- CHECKPOINT_COPY_MISMATCH (R45): in the first two cycles, before any instruction of the tick. -/
def execCheckpointCopyMismatch (n : Ax) (s : State) : Out :=
  match (s.ax n).engine with
  | some e =>
    if (s.eng e).pool = .active ∧ (s.ax n).run.running = true ∧ (s.ax n).run.seq = 0 then .next (s.engineStop n e 3)
    else .next s
  | none => .next s

/-- The opcodes of the instruction summary (R79). -/
def listedOpcode (o : Byte) : Bool :=
  let x := o.toNat
  (decide (1 ≤ x) && decide (x ≤ 0x08)) || (decide (0x10 ≤ x) && decide (x ≤ 0x23)) || (decide (0x30 ≤ x) && decide (x ≤ 0x38))

/-- ILLEGAL_OPCODE_FETCH (R79): the word at the PC has an unlisted opcode. -/
def execIllegalOpcodeFetch (n : Ax) (s : State) : Out :=
  match s.ready n with
  | some e =>
    if listedOpcode (opcOf ((s.ax n).pword (s.eng e).core.pc.toNat)) then .next s else .next (s.engineStop n e 4)
  | none => .next s

/-! ### Arbitration and migration (R281, R282) -/

/-- Order of an axis counted upward from RRPTR, modulo 8. -/
def rrDist (ptr : Nat) (n : Ax) : Nat := (n.val + 8 - ptr) % 8

/-- Insert a need by its distance from RRPTR. -/
def insNeed (ptr : Nat) (x : Need) : List Need → List Need
  | [] => [x]
  | y :: t => if rrDist ptr x.axis < rrDist ptr y.axis then x :: y :: t else y :: insNeed ptr x t

/-- One axis of a group is taken: it gets a spare, or enters OASIS when none is left (R283). -/
def State.serveNeed (s : State) (x : Need) : State :=
  match s.pickSpare with
  | none =>
    (s.modPool (fun p => { p with needs := p.needs.filter (fun y => y.axis != x.axis) })).stopDetected x.axis x.failed x.cause
  | some e =>
    let first := s.pool.served != some x.grp
    let s := s.modPool (fun p => { p with
      served := some x.grp
      needs := p.needs.map (fun y => if y.axis = x.axis then { y with chosen := some e, late := !first } else y) })
    if first then s.dput FAULT_MIGLAST_RRPTR ((x.axis.val + 1) % 8) else s

/-- Arbitration of the groups that have waited their 200 ns (R281 step 3). -/
def State.arbitrate (s : State) : State :=
  match s.pool.needs.find? (fun x => x.chosen.isNone && decide (x.at_ + 80 ≤ s.clk)) with
  | some x =>
    let ptr := s.dget FAULT_MIGLAST_RRPTR
    let xs := (s.pool.needs.filter (fun y => y.chosen.isNone && y.grp == x.grp)).foldl (fun l y => insNeed ptr y l) []
    xs.foldl (fun s y => s.serveNeed y) s
  | none => s

/-- Base ticks a migration served second takes longer in steps 4 to 6 (R282). -/
def Need.extra (x : Need) : Nat := if x.late then 400 else 0

/-- Steps 4 to 6 of one migration: a self-test is abandoned, the spare is connected, then loaded from the checkpoint; the
recomputation starts at the entry word with CYC = 2 and the discarded run's events in F (R281, R285, R44, R71, R77). Where the
program has been withdrawn meanwhile no tick runs, and the spare stays mapped (R279). -/
def State.migrateStep (s : State) (x : Need) : State :=
  match x.chosen with
  | none => s
  | some e =>
    let s := if (s.eng e).pool = .selftest ∧ x.at_ + 480 + x.extra ≤ s.clk then
        s.modEng e (fun _ => { pool := .spare, core := Core.reset }) else s
    let s := if !x.connected ∧ x.at_ + 600 + x.extra ≤ s.clk then
        ((s.modEng e (fun g => { g with pool := .migrating })).modAx x.axis (fun a => { a with engine := some e })).modPool
          (fun p => { p with needs := p.needs.map (fun y => if y.axis = x.axis then { y with connected := true } else y) })
      else s
    if x.at_ + 800 + x.extra ≤ s.clk then
      let a := s.ax x.axis
      let c := a.restore
      let c := { c with f := c.f ||| (a.run.seen.setWidth 32 <<< fEV), pc := 0 }
      let s := s.modEng e (fun _ => { pool := .active, core := c })
      let s := if x.rerun then
          (s.modAx x.axis (fun a => { a with
            run := { a.run with running := true, cyc := 2, seq := 0, recompute := true } })).modPool (fun p => { p with
              redo := p.redo ++ [(x.axis, x.at_, x.failed, e, x.cause)] })
        else s
      let s := s.modPool (fun p => { p with needs := p.needs.filter (fun y => y.axis != x.axis) })
      if (s.ax x.axis).haltReq then s.haltNow x.axis else s
    else s

/-- A self-test that has run its 250 µs without a failure is over (R285). -/
def State.testOver (s : State) : State :=
  match s.pool.lastTest with
  | some e =>
    if (s.eng e).pool = .selftest ∧ s.pool.testAt + 250 * usTicks ≤ s.clk then s.modEng e (fun g => { g with pool := .spare })
    else s
  | none => s

/-- The pool at one base tick. -/
def State.poolTick (s : State) : State :=
  let s := s.testOver.arbitrate
  s.pool.needs.foldl (fun s x => s.migrateStep x) s

/-! ### Self-test (R285) -/

/-- SELFTEST (R285): every PERIOD ms one spare takes the test, the spares in turn. -/
def execSelftest (e : Eng) (s : State) : Out :=
  let other := allEng.any (fun g => g != e && s.freeSpare .spare g)
  if s.freeSpare .spare e ∧ s.pool.testAt + s.dget ENGINE_STCTL_PERIOD * msTicks ≤ s.clk ∧
      ¬(s.pool.lastTest = some e ∧ other = true) then
    .next ((s.modEng e (fun g => { g with pool := .selftest })).modPool
      (fun p => { p with lastTest := some e, testAt := s.clk }))
  else .next s

/-- SELFTEST_END (R285): a failing spare is retired, and an axis that had chosen it is served again. -/
def execSelftestEnd (e : Eng) (pass : Bool) (s : State) : Out :=
  if (s.eng e).pool = .selftest then
    if pass then .next (s.modEng e (fun g => { g with pool := .spare }))
    else
      let s := s.modEng e (fun g => { g with pool := .retired })
      let s := (s.count 25 (16 + e.val)).detect 25 (16 + e.val) 0
      .next (s.modPool (fun p => { p with
        needs := p.needs.map (fun y => if y.chosen = some e then { y with chosen := none } else y) }))
  else .next s

/-! ### Memories (R39, R279) -/

/-- The discarded tick of axis n is not run again (R279). -/
def State.noRerun (s : State) (n : Ax) : State :=
  s.modPool (fun p => { p with needs := p.needs.map (fun y => if y.axis = n then { y with rerun := false } else y) })

/-- The program of axis n is withdrawn (R279). -/
def State.withdraw (s : State) (n : Ax) : State :=
  ((s.modAx n (fun a => { a.put AX_WCET_WCET 0 with withdrawn := true })).dput (ENGINE_CAR_LEVEL n.val) 0).noRerun n

/-- An uncorrectable word of a bank of axis n (R279): reported once until a load. -/
def State.bankBad (s : State) (n : Ax) (detail : Nat) (byEngine : Bool) : State :=
  if (s.ax n).withdrawn then s
  else
    let s := if byEngine && (s.ax n).run.running then (s.modAx n (fun a => a.discard)).endResume n else s
    let s := s.modPool (fun p => { p with redo := p.redo.filter (fun r => r.1 != n || !byEngine) })
    ((s.withdraw n).count 28 n.val |>.detect 28 n.val detail).enterOasis n 28

/-- The restart of the system controller begins: one count, DEVLATCH, and the migrations under way end (R280). -/
def State.controllerRestart (s : State) (memory : Bool) : State :=
  let s := if memory then s.count 28 unitSys else s
  let s := ((s.count 25 unitSys).detect 25 unitSys 0).devLatch
  let ns := s.pool.needs
  let s := ns.foldl (fun s x =>
    let s := match x.chosen with
      | some e => s.modEng e (fun g => if g.pool = PoolSt.retired then g else { g with pool := .spare })
      | none => s
    ((s.modAx x.axis (fun a => { a with engine := none })).enterOasis x.axis 25).endResume x.axis) s
  let s := s.modPool (fun p => { p with needs := [], restart := true, restartAt := s.clk })
  s.modStore (fun c => { c with bootQ := c.bootQ.filter (fun (x : Fin 2 × Record × BootKind) =>
    match x.2.2 with | .select _ _ => true | _ => false) })

/-- An uncorrectable word (R279, R280). -/
def State.memBad (s : State) (m : MemId) (w : Nat) (byEngine : Bool) : State :=
  match m with
  | .p n => s.bankBad n (w + 2 ^ 13) byEngine
  | .d n => s.bankBad n w byEngine
  | .shared =>
    let n : Ax := ⟨w / 64 % 8, by omega⟩
    let s := { s with shared := s.shared.filter (fun e => e.1 / 64 != n.val) }
    ((s.count 28 n.val).detect 28 n.val (w % 512)).enterOasis n 28
  | .staging =>
    match s.store.stage[w / 4]? with
    | some r =>
      let s := s.modStore (fun c => { c with stage := c.stage.eraseIdx (w / 4) })
      ((s.count 28 unitDev).detect 28 unitDev w).traceLost r.1
    | none => s
  | .sysctl => s.controllerRestart true

/-- MEM_UNCORRECTABLE (R279). -/
def execMemUncorrectable (m : MemId) (w : W16) (byEngine : Bool) (s : State) : Out := .next (s.memBad m w.toNat byEngine)

/-- The scrubber's place in a memory, and the memory's size in words (R39); that of the system controller is not stated
(log 85). -/
def memPlace : MemId → Fin 19 × Nat
  | .p n => (⟨n.val, by omega⟩, 8192)
  | .d n => (⟨8 + n.val, by omega⟩, 8192)
  | .shared => (16, 512)
  | .staging => (17, 131072)
  | .sysctl => (18, max 1 Config.sysctlWords)

/-- The words the scrubber has read in a memory since its first pass began. -/
def State.scrubCount (s : State) (m : MemId) : Nat := s.pool.scrub[(memPlace m).1]

/-- The scrubber's next read of a memory is due (R39): every memory advances at the rate that completes it in 100 ms. -/
def State.scrubDue (s : State) (m : MemId) : Bool :=
  match s.pool.scrubAt with
  | some t => decide (t + 40000000 * s.scrubCount m / (memPlace m).2 ≤ s.clk)
  | none => false

/-- The scrubber passes to its next word. -/
def State.scrubOn (s : State) (m : MemId) : State :=
  s.modPool (fun p => { p with scrub := p.scrub.set (memPlace m).1.val (s.scrubCount m + 1) (memPlace m).1.isLt })

/-- Whether a memory is scrubbed now: the banks of a withdrawn program are skipped (R39). -/
def State.scrubbed (s : State) : MemId → Bool
  | .p n => !(s.ax n).withdrawn
  | .d n => !(s.ax n).withdrawn
  | _ => true

/-- The unit that a corrected word counts for (R39, R301, R302). -/
def memUnit : MemId → Nat
  | .p n => n.val
  | .d n => n.val
  | .sysctl => unitSys
  | _ => unitDev

/-- What the check bits of a read word bring about (R39, R279). -/
def State.eccRead (s : State) (m : MemId) (w : Nat) (e : Ecc) : State :=
  match e with
  | .clean => s
  | .single => s.count 27 (memUnit m)
  | .uncorrectable => s.memBad m w false

/-- SCRUB_READ (R39). The scrubber's read: the next word of a memory when its turn has come, corrected, or handled as
uncorrectable; the banks of a withdrawn program are passed over. Any other read (`other`: a fetch, an engine's or the
loader's read, a host window, R65, R99) at word w: the same correction and count, at any instant (log 119). -/
def execScrubRead (m : MemId) (other : Option W16) (e : Ecc) (s : State) : Out :=
  match other with
  | some w => .next (s.eccRead m w.toNat e)
  | none =>
    if s.scrubDue m then
      let w := s.scrubCount m % (memPlace m).2
      if s.scrubbed m then .next ((s.scrubOn m).eccRead m w e) else .next (s.scrubOn m)
    else .next s

/-! ### The system controller (R280) -/

/-- SYSTEM_CONTROLLER_RESTART (R280). -/
def execSystemControllerRestart (memory : Bool) (s : State) : Out := .next (s.controllerRestart memory)

end Sys2Proof.Machine
end

