-- ==== Sys2Proof/Machine/Gate.lean ====
section
/-! DEFINITION. Gate drive, Windbreak and trips (chapter 8). -/

namespace Sys2Proof.Machine

open Sys2Proof

/-- One bit of a gate or phase set. -/
def gateBit (g : Gate) : BitVec 6 := (1 : BitVec 6) <<< g.val
def phaseBit (p : Phase) : BitVec 3 := (1 : BitVec 3) <<< p.val

/-- Set bits of a field of GDSTAT. -/
def Axis.latch (a : Axis) (f : Fld) (bits : Nat) : Axis := a.put f (a.get f ||| bits)

/-- Every pending turn-on is cancelled and all gates go off; outside OASIS the OASHOLD hold starts (R231, R222). -/
def State.holdOff (s : State) (n : Ax) : State :=
  s.modAx n (fun a => if a.st = .oasis then a else { a with gd := { a.gd with hold := some s.clk } })

/-- A trip latch of axis n has set (R231, R232): EV_TRIP, all gates off, OASIS; in OASIS the output goes all off for good. -/
def State.trip (s : State) (n : Ax) (code detail : Nat) : State :=
  let s := ((s.count code n.val).detect code n.val detail).raiseEv n evTrip
  if (s.ax n).st = .oasis then
    (s.modAx n (fun a => { a with gd := { a.gd with tripInOasis := true } })).settle n
  else (s.holdOff n).enterOasis n code

/-- A gate is found stuck on, or stuck off (R222); in OASIS only the side of a short is decided again. -/
def State.stuck (s : State) (n : Ax) (g : Gate) (off : Bool) : State :=
  if (if off then (s.aget n AX_GDSTAT_STKOFF).testBit g.val else (s.ax n).gd.stkOn.getLsbD g.val) then s
  else
    let s := s.modAx n (fun a =>
      let a := a.latch AX_GDSTAT_STUCK (2 ^ g.val)
      if off then a.latch AX_GDSTAT_STKOFF (2 ^ g.val) else { a with gd := { a.gd with stkOn := a.gd.stkOn ||| gateBit g } })
    let s := ((s.count 3 n.val).detect 3 n.val (2 ^ g.val)).raiseEv n evTrip
    if (s.ax n).st = .oasis then s.settle n else (s.holdOff n).enterOasis n 3

/-! ### Drive strength (R216 to R218) -/

/-- The source current of a code, mA (R216); a sink sinks twice as much. -/
def sourceMa (c : Nat) : Nat :=
  [25, 35, 50, 70, 100, 140, 200, 280, 400, 500, 630, 800, 1000, 1250, 1600, 2000].getD c 0

/-- A profile time of t × 10 ns in base ticks; on the RC clock rounded up to whole 25 ns periods (R218). -/
def State.profTicks (s : State) (t : Nat) : Nat := if s.pins.drvRc then 10 * ((4 * t + 9) / 10) else 4 * t

/-- The source code of a turn-on u base ticks after its start (R218): one code, or the three phases of the profile. -/
def State.sourceCode (s : State) (n : Ax) (g : Gate) (u : Nat) : Nat :=
  let a := s.ax n
  let w := a.gd.drv[g]
  let pre := s.profTicks (a.get AX_GDCFG_PRET)
  if a.get AX_GDCFG_PROF = 0 then (if g.val % 2 = 0 then (AX_GDBAND_HSRC 0).get w else (AX_GDBAND_LSRC 0).get w)
  else if u < pre then (AX_GDBAND_PRE 0).get w
  else if u < pre + s.profTicks (a.get AX_GDCFG_SLPT) then (AX_GDBAND_SLP 0).get w
  else (AX_GDBAND_HLD 0).get w

/-- What drives gate g at the present base tick (R216 to R218): whether the source does, and its current, mA. The codes are those
that the gate's last edge took (R217). -/
def State.gateDrive (s : State) (n : Ax) (g : Gate) : Bool × Nat :=
  let d := (s.ax n).gd
  if d.on.getLsbD g.val then (true, sourceMa (s.sourceCode n g (s.clk - d.edgeAt[g] / 32)))
  else (false, 2 * sourceMa (if g.val % 2 = 0 then (AX_GDBAND_HSNK 0).get d.drv[g] else (AX_GDBAND_LSNK 0).get d.drv[g]))

/-- The Windbreak timeout that the last edge of gate g took, 1/32 base ticks (R217, R220). -/
def Axis.wbtmo (a : Axis) (g : Gate) : Nat := 128 * (AX_GDBAND_WBTMO 0).get a.gd.drv[g]

/-! ### Bootstrap (R225 to R227) -/

/-- Whether a high side of axis n is commanded on or being turned on. -/
def Axis.highWanted (a : Axis) (p : Phase) : Bool := (a.gd.on ||| a.gd.pend).getLsbD (highGate p).val

/-- The last low event of phase p fell within BSTWIN of the base tick t (R227). -/
def Axis.bstAgain (a : Axis) (p : Phase) (t : Nat) : Bool :=
  match a.gd.bstLast[p] with
  | some u => decide (t ≤ u + a.get AX_GDCFG_BSTWIN * msTicks)
  | none => false

/-- A bootstrap low event of a phase (R226, R227): in OASIS the short ends; a second one within BSTWIN puts the axis in OASIS;
under an escalation short that ends; else the refresh begins. -/
def State.bstEvent (s : State) (n : Ax) (p : Phase) : State :=
  let a := s.ax n
  let s := (s.count 5 n.val).raiseEv n evTrip
  let s := s.modAx n (fun a => { a with gd := { a.gd with
    bstLast := a.gd.bstLast.set p.val (some s.clk) p.isLt, bstHit := a.gd.bstHit &&& ~~~(phaseBit p) } })
  if a.st = .oasis then (s.modAx n (fun a => { a with gd := { a.gd with bstOff := true } })).settle n
  else if a.bstAgain p s.clk = true then (s.detect 5 n.val (2 ^ p.val)).enterOasis n 5
  else if a.gd.esc = true then (s.modAx n (fun a => { a with gd := { a.gd with bstOff := true } })).settle n
  else
    (s.modAx n (fun a => { a with gd := { a.gd with
      refresh := a.gd.refresh ||| phaseBit p
      refreshEnd := a.gd.refreshEnd.set p.val (s.clk + a.get AX_PTBST_REFW) p.isLt } })).settle n

/-- The high-side turn-ons that arrived on a low bootstrap are low events (R226), one base tick after their arrival. -/
def State.bstArrivals (s : State) (n : Ax) : State :=
  allPh.foldl (fun s p => if (s.ax n).gd.bstHit.getLsbD p.val then s.bstEvent n p else s) s

/-- The refreshes of R226 that end at the present base tick: the phases return to their PTn command. A low side that still
waits for Windbreak has not begun its REFW base ticks. -/
def State.endRefresh (s : State) (n : Ax) : State :=
  let g := (s.ax n).gd
  if g.refresh = 0 then s
  else
    let left := allPh.foldl (fun m p => if g.refreshEnd[p] ≤ s.clk ∧ g.pend.getLsbD (lowGate p).val = false then m &&& ~~~(phaseBit p) else m) g.refresh
    if left = g.refresh then s
    else (s.modAx n (fun a => { a with gd := { a.gd with refresh := left } })).settle n

/-- The bootstrap threshold, mV (R225). -/
def Axis.bstLevel (a : Axis) : Nat := 5000 + 250 * a.get AX_GDCFG_BSTUV

/-- BST_UV (R225, R226): the monitor of a phase reads a voltage: low below the threshold, released above threshold plus
hysteresis. -/
def execBstUv (n : Ax) (p : Phase) (v : Nat) (s : State) : Out :=
  let th := (s.ax n).bstLevel
  let s := s.modAx n (fun a =>
    let w := a.get AX_GDSTAT_BSTLOW
    { a.put AX_GDSTAT_BSTLOW (if v < th then w ||| 2 ^ p.val else if th + 300 < v then w - (w &&& 2 ^ p.val) else w) with
      gd := { a.gd with bstSub := if th + 300 < v then a.gd.bstSub &&& ~~~(phaseBit p) else a.gd.bstSub ||| phaseBit p } })
  if v < th ∧ (s.ax n).highWanted p = true then .next (s.bstEvent n p) else .next s

/-! ### Windbreak (R217, R219 to R221) -/

/-- A pending turn-on of gate g is issued now (R219): WBMAX keeps its extension in whole 10 ns, and one that comes a base tick
or more after its arrival is an unscheduled edge (R144). -/
def State.issue (s : State) (n : Ax) (g : Gate) : State :=
  let t := 32 * s.clk
  let pass := s.passed n
  (s.modAx n (fun a =>
    let ext := t - a.gd.pendAt[g]
    { a.put AX_GDSTAT_WBMAX (max (a.get AX_GDSTAT_WBMAX) (min 255 (ext / 128))) with
      gd := { a.gd with iss := a.gd.iss ||| gateBit g, pend := a.gd.pend &&& ~~~(gateBit g) }
      pt := { a.pt with
        emitted := if ext < 32 ∨ pass.getLsbD g.val = false then a.pt.emitted
          else a.pt.emitted ++ [{ t := t, g := g, on := true, rq := t, uns := true }] } })).atPins n t

/-- Gate g has fallen below 1.5 V (R219, R220, R290). -/
def State.fallen (s : State) (n : Ax) (g : Gate) : State :=
  s.modAx n (fun a => { a with gd := { a.gd with
    vgs := a.gd.vgs &&& ~~~(gateBit g), low := a.gd.low ||| gateBit g
    fallAt := if a.gd.low.getLsbD g.val then a.gd.fallAt else s.clk } })

/-- WINDBREAK_TURN_ON (R219, R226): the opposite gate is confirmed off, and a pending turn-on is issued. -/
def execWindbreakTurnOn (n : Ax) (g : Gate) (s : State) : Out :=
  let d := (s.ax n).gd
  let y := gatePartner g
  if d.on.getLsbD y.val = true ∨ d.vgs.getLsbD y.val = true then .next s
  else
    let s := s.fallen n y
    if d.pend.getLsbD g.val = true ∧ d.iss.getLsbD y.val = false then .next (s.issue n g) else .next s

/-- GATE_STUCK_ON (R220, R240): VGS of a gate commanded off is still high when its timer has expired, or falls; a turn-on of the
opposite gate that waits for the fall is issued (R219). -/
def execGateStuckOn (n : Ax) (g : Gate) (high : Bool) (s : State) : Out :=
  let a := s.ax n
  if a.gd.on.getLsbD g.val = true then .next s
  else if high then
    if a.gd.low.getLsbD g.val = true ∨ 32 * s.clk < a.gd.edgeAt[g] + a.wbtmo g then .next s
    else .next ((s.modAx n (fun a => { a with gd := { a.gd with vgs := a.gd.vgs ||| gateBit g } })).stuck n g false)
  else .next ((s.fallen n g).settle n)

/-- The on-check level, mV (R221). -/
def Axis.vgsOn (a : Axis) : Nat := 1000 * (6 + a.get AX_GDCFG_VGSON)

/-- A check of R221 fails: the turn-on check when WBTMO has passed and VGS has not exceeded the level, the other when VGS is
below it for more than 100 ns. -/
def State.onCheckFails (s : State) (n : Ax) (g : Gate) (check : OnCheck) (v : Nat) : Bool :=
  let a := s.ax n
  a.gd.on.getLsbD g.val && (match check with
    | .first => decide (a.gd.edgeAt[g] + a.wbtmo g ≤ 32 * s.clk) && decide (v ≤ a.vgsOn)
    | .second => decide (a.gd.edgeAt[g] + 1280 < 32 * s.clk) && decide (v < a.vgsOn))

/-- GATE_STUCK_OFF (R221): a gate commanded on, in ARMING by a test pulse (R228), fails a check. -/
def execGateStuckOff (n : Ax) (g : Gate) (check : OnCheck) (v : Nat) (s : State) : Out :=
  if s.onCheckFails n g check v then
    if g.val % 2 = 0 ∧ (check = .second ∨ (s.aget n AX_GDSTAT_BSTLOW).testBit (gatePhase g).val = true) then
      .next (s.bstEvent n (gatePhase g))
    else .next (s.stuck n g true)
  else .next s

/-! ### ARMING (R141, R228, R289) -/

/-- The next phase from `turn` on, in the order U, V, W, that a set holds. -/
def nextTurn (turn : Nat) (v : BitVec 3) : Option Phase :=
  ([0, 1, 2].map (fun i => (⟨(turn + i) % 3, by omega⟩ : Phase))).find? (fun p => v.getLsbD p.val)

/-- The gate whose pulse is next in a step of R228; none where the step is over. -/
def Drive.nextPulse (d : Drive) : Option Gate :=
  match d.arm.step with
  | 1 => (nextTurn d.arm.turn d.bstSub).map lowGate
  | 2 => (nextTurn 0 (~~~d.arm.pulsed)).map lowGate
  | 3 => (nextTurn 0 (~~~d.arm.pulsed)).map highGate
  | _ => none

/-- The steps of R228 go on when no pulse runs and 2 us have passed since the last one: the next pulse, or the next step. -/
def Drive.armNext (d : Drive) : Nat → Drive
  | 0 => d
  | k + 1 => match d.nextPulse with
    | some g => { d with arm := { d.arm with
        pulse := some g, turn := (gatePhase g).val + 1, pulsed := d.arm.pulsed ||| phaseBit (gatePhase g) } }
    | none =>
      if 4 ≤ d.arm.step then d
      else Drive.armNext { d with arm := { d.arm with step := d.arm.step + 1, pulsed := if d.arm.step = 1 then d.arm.pulsed else 0 } } k

/-- One base tick of the gate-drive part of ARMING: the offsets after 64 conversions, 16 us (R141), then the pulses of R228. A
pulse lasts REFW base ticks in step 1, else 1 us, from its turn-on; the next begins 2 us after its end. -/
def State.armTick (s : State) (n : Ax) : State :=
  let m := (s.ax n).gd.arm
  if (s.ax n).st ≠ .arming then s
  else if m.step = 0 then
    if m.at_ + 16 * usTicks ≤ s.clk then
      let f := s.takeFree
      let s := f.2.measureOffsets n (offsetsOf f.1)
      if (s.ax n).st = .arming then
        (s.modAx n (fun a => { a with gd := { a.gd with arm := { m with step := 1, at_ := s.clk, edge := s.clk } }.armNext 3 })).settle n
      else s
    else s
  else match m.pulse with
    | some g =>
      if (s.ax n).gd.on.getLsbD g.val then
        if m.edge ≤ s.clk then
          (s.modAx n (fun a => { a with gd := { a.gd with arm := { m with pulse := none, edge := s.clk + 2 * usTicks } } })).settle n
        else s
      else s.modAx n (fun a => { a with gd := { a.gd with arm := { m with
        edge := s.clk + (if m.step = 1 then a.get AX_PTBST_REFW else usTicks) } } })
    | none => if m.edge ≤ s.clk then (s.modAx n (fun a => { a with gd := a.gd.armNext 3 })).settle n else s

/-- ARMING has lasted 2.1 ms (R289): it ends, the line-to-line level that the front end kept a free value where no command has
shown it (log 123), or the axis enters OASIS under R228. DISARM has lasted 50 us (R290): it ends, or a gate that has not
confirmed is found stuck. -/
def State.armLimits (s : State) (n : Ax) : State :=
  let a := s.ax n
  if a.st = .arming ∧ a.since + 2100 * usTicks ≤ s.clk then
    if a.gd.arm.step = 4 then
      let f := s.takeFree
      f.2.armed n (f.1.toNat % 102376)
    else s.axisFault n 5 0
  else if a.st = .disarm ∧ a.since + 50 * usTicks ≤ s.clk then
    if a.gd.vgs = 0 then s.disarmed n
    else allGates.foldl (fun s g => if a.gd.vgs.getLsbD g.val then s.stuck n g false else s) s
  else s

/-! ### Both gates on (R223) -/

/-- HB_CONFLICT (R223): both are held off while the overlap lasts. -/
def execHbConflict (n : Ax) (p : Phase) (begins : Bool) (s : State) : Out :=
  if begins then
    if (s.ax n).gd.overlap.getLsbD p.val then .next s
    else
      .next (((s.modAx n (fun a => { a with
        gd := { a.gd with overlap := a.gd.overlap ||| phaseBit p, overlapAt := a.gd.overlapAt.set p.val s.clk p.isLt } })).count 4 n.val).settle n)
  else .next ((s.modAx n (fun a => { a with gd := { a.gd with overlap := a.gd.overlap &&& ~~~(phaseBit p) } })).settle n)

/-- HB_CONFLICT_TIMEOUT (R223): the overlap has lasted longer than 1 µs. -/
def execHbConflictTimeout (n : Ax) (p : Phase) (s : State) : Out :=
  let g := (s.ax n).gd
  if g.overlap.getLsbD p.val = true ∧ g.overlapAt[p] + usTicks < s.clk then
    .next ((s.detect 4 n.val (3 * 4 ^ p.val)).enterOasis n 4)
  else .next s

/-! ### Gate supply (R224) -/

/-- VGD_UV (R224): every axis goes off and enters OASIS. -/
def execVgdUv (s : State) : Out :=
  if s.pins.vgdUv then .next s
  else
    let s := ((s.modPins (fun p => { p with vgdUv := true, vgdLow := true })).count 6 unitDev).detect 6 unitDev 0
    .next ((allAx.foldl (fun s n => s.enterOasis n 6) s).settleAll)

/-- VGD_UV_RELEASE (R224): VGD is above 9.2 V (R240, R392). -/
def execVgdUvRelease (s : State) : Out := .next ((s.modPins (fun p => { p with vgdUv := false, vgdHeld := false, vgdLow := false })).settleAll)

/-! ### Trips (R229 to R232) -/

/-- DESAT (R229): a FET that is commanded on, its VDS above its threshold for the filter time after the blanking of its turn-on. -/
def execDesat (n : Ax) (g : Gate) (v : Nat) (s : State) : Out :=
  let a := s.ax n
  let th := 100 + 100 * (if g.val % 2 = 0 then a.get AX_GDVDS_VDSTHH else a.get AX_GDVDS_VDSTHL)
  if a.get AX_GDVDS_VDSEN = 1 ∧ a.gd.on.getLsbD g.val = true ∧ (a.get AX_GDSTAT_DESATG).testBit g.val = false ∧
      a.gd.edgeAt[g] + 128 * (a.get AX_GDVDS_VDSBLK + a.get AX_GDVDS_VDSFLT) ≤ 32 * s.clk ∧ th < v then
    .next ((s.modAx n (fun a => a.latch AX_GDSTAT_DESATG (2 ^ g.val))).trip n 2 (2 ^ g.val))
  else .next s

/-- The blanking after every edge of the axis has passed (R230). -/
def State.unblanked (s : State) (n : Ax) : Bool :=
  decide ((s.ax n).lastEdge + 128 * s.aget n AX_GDTRIP_TRBLK ≤ 32 * s.clk)

/-- OC_TRIP (R230): the comparators of a phase, where its channel sees the current; the reading decides what R240 asks too. -/
def execOcTrip (n : Ax) (p : Phase) (hard : Bool) (uv : Int) (s : State) : Out :=
  let a := s.ax n
  let above := a.seesCurrent.getLsbD p.val && a.ampAbove (a.get AX_GDTRIP_OCLVL) 14 uv
  let f := if hard then AX_GDSTAT_OCH else AX_GDSTAT_OCB
  let acts := if hard then a.seesCurrent.getLsbD p.val && a.ampAbove (a.get AX_GDTRIP_OCHARD) 14 uv else above && s.unblanked n
  let s := s.modAx n (fun a => { a with gd := { a.gd with
    ocNow := if above then a.gd.ocNow ||| phaseBit p else a.gd.ocNow &&& ~~~(phaseBit p) } })
  if acts = true ∧ (a.get f).testBit p.val = false then
    .next ((s.modAx n (fun a => a.latch f (2 ^ p.val))).trip n 1 (2 ^ p.val))
  else .next s

/-- A TRIP pin k that has been high for TPFLT × 100 ns trips axis n if the axis enables it, no blanking applies, and it has not
latched (R230, R231). -/
def State.tripByPin (s : State) (n : Ax) (k : Chan) : State :=
  if s.pins.trip.getLsbD k.val && decide (s.pins.tripAt[k] + 40 * s.aget n AX_GDTRIP_TPFLT ≤ s.clk) &&
      (s.aget n AX_GDTRIP_TPEN).testBit k.val && !(s.aget n AX_GDSTAT_TPIN).testBit k.val &&
      (!(s.aget n AX_GDTRIP_TPBLK).testBit k.val || s.unblanked n) then
    (s.modAx n (fun a => a.latch AX_GDSTAT_TPIN (2 ^ k.val))).trip n 1 (2 ^ k.val)
  else s

/-- The pins that are high trip axis n, also one that a write of AXn_GDTRIP enables later (R230). -/
def State.tripHeld (s : State) (n : Ax) : State :=
  if s.pins.trip = 0 then s else ([0, 1, 2, 3] : List Chan).foldl (fun s k => s.tripByPin n k) s

/-- TRIP_PIN (R230): pin k goes high or low; every axis that enables it trips once the filter has passed. -/
def execTripPin (k : Chan) (high : Bool) (s : State) : Out :=
  let bit : BitVec 4 := (1 : BitVec 4) <<< k.val
  if s.pins.trip.getLsbD k.val = high then .next s
  else
    let s := s.modPins (fun p => { p with
      trip := if high then p.trip ||| bit else p.trip &&& ~~~bit, tripAt := p.tripAt.set k.val s.clk k.isLt })
    .next (allAx.foldl (fun s n => s.tripHeld n) s)

/-- OASHOLD_EXPIRY (R231): the Oasis output then applies. -/
def execOasholdExpiry (n : Ax) (s : State) : Out :=
  match (s.ax n).gd.hold with
  | some t =>
    if t + s.aget n AX_OASIS_OASHOLD * usTicks ≤ s.clk then
      .next ((s.modAx n (fun a => { a with gd := { a.gd with hold := none } })).settle n)
    else .next s
  | none => .next s

/-- The terminal voltages of a window lie below SCEMF × 25 mV, line to line (R237, R256); a window that was not observed holds
nothing. -/
def Axis.shortSafe (a : Axis) (terms : List Terminals) : Bool :=
  !terms.isEmpty && decide (keptMax terms < 25 * a.get AX_OASIS_SCEMF)

/-- ASC_AUTO_SHORT (R237). -/
def execAscAutoShort (n : Ax) (terms : List Terminals) (s : State) : Out :=
  let a := s.ax n
  if a.st = .oasis ∧ s.oasisOpt n = 3 ∧ a.gd.hold = none ∧ a.since + a.get AX_OASIS_AUTOWIN * msTicks ≤ s.clk ∧
      a.shortSafe terms = true then
    .next ((s.modAx n (fun a => { a with gd := { a.gd with autoShort := true } })).settle n)
  else .next s

/-- SAFE_N (R239): low for 200 ns puts every axis in OASIS; high again takes none out. -/
def execSafeN (low : Bool) (s : State) : Out :=
  let s := s.modPins (fun p => { p with safeLow := low })
  if low then .next (allAx.foldl (fun s n => s.enterOasis n 0x3E) s) else .next s

end Sys2Proof.Machine
end

