-- ==== Sys2Proof/Machine/BusBrake.lean ====
section
/-! DEFINITION. Motor buses and brake choppers (chapter 9). -/

namespace Sys2Proof.Machine

open Sys2Proof

/-- FAULT_LAST.UNIT of a bus (R302). -/
def busUnit (x : Bus) : Nat := 8 + x.val

/-- The base ticks that the gate is on in a chopper period which starts now (R251), the voltages in 25 mV units; in PROP the
duty in whole base ticks (log 83). -/
def State.chopperSpan (s : State) (x : Bus) : Nat :=
  let per := s.dget (BUS_BRK_PER x.val)
  if s.dget (BUS_BRK_MODE x.val) = 2 then
    let low := 4 * (s.dget (BUS_OV_OV1 x.val) - s.dget (BUS_OV_OVHYS x.val))
    min per (per * (s.dget (BUS_STAT_VBUS x.val) - low) / (4 * s.dget (BUS_BRK_PBAND x.val)))
  else per

/-- A chopper period starts (R251, R252); `past` are the facts of the one that is over. -/
def State.chopperPeriod (s : State) (x : Bus) (past : Option (Bool × Bool)) : State :=
  s.modBus x (fun b => { b with perAt := s.clk, perOn := s.chopperSpan x, sawOn := false, sawOff := false, past := past })

/-- The chopper is on (R251, R252): OV1 set, a chopper configured, not held off by an open fault, in PROP within the on part of
the period. -/
def State.chopperOn (s : State) (x : Bus) : Bool :=
  let b := s.bus x
  s.dget (BUS_STAT_OV1 x.val) == 1 && s.dget (BUS_BRK_MODE x.val) != 0 && !(b.fault && s.dget (BUS_STAT_BRKFLT x.val) == 1) &&
    (s.dget (BUS_BRK_MODE x.val) != 2 || decide (s.clk < b.perAt + b.perOn))

/-- A test pulse is given (R253). -/
def State.testing (s : State) (x : Bus) : Bool :=
  match (s.bus x).pulse with | some e => decide (s.clk < e) && s.dget (BUS_BRK_MODE x.val) != 0 | none => false

/-- The brake gate follows the chopper and the test pulse (R251, R253). -/
def State.brakeGate (s : State) (x : Bus) : State :=
  let v := s.chopperOn x || s.testing x
  (if (s.bus x).gate = v then s else s.modBus x (fun b => { b with gate := v, gateAt := s.clk })).dput (BUS_STAT_BRKON x.val)
    (if v then 1 else 0)

/-- What drives the brake gate (R216, R251): whether the source does, and its current, mA. -/
def State.brakeDrive (s : State) (x : Bus) : Bool × Nat :=
  if (s.bus x).gate then (true, sourceMa (s.dget (BUS_BRK_SRC x.val))) else (false, 2 * sourceMa (s.dget (BUS_BRK_SNK x.val)))

/-- A test pulse can run: a chopper, the bus above 20 V, OV1 released (R253). -/
def State.testable (s : State) (x : Bus) : Bool :=
  s.dget (BUS_BRK_MODE x.val) != 0 && decide (800 < s.dget (BUS_STAT_VBUS x.val)) && s.dget (BUS_STAT_OV1 x.val) == 0

/-- A test pulse of 2 us begins, if one can (R253); the TPER count starts again. -/
def State.testStart (s : State) (x : Bus) : State :=
  let ok := s.testable x
  (s.modBus x (fun b => { b with testAt := s.clk, pulse := if ok then some (s.clk + 2 * usTicks) else b.pulse })).brakeGate x

/-- One base tick of a brake chopper: the next period where the last one is over, the periodic test, the gate, and whether the
gate has been on, or off, beyond BLK in the period (R251 to R253). -/
def State.chopperTick (s : State) (x : Bus) : State :=
  if s.dget (BUS_BRK_MODE x.val) = 0 then s
  else
    let b := s.bus x
    let s := if b.perAt + s.dget (BUS_BRK_PER x.val) ≤ s.clk then s.chopperPeriod x (some (b.sawOn, b.sawOff)) else s
    let t := s.dget (BUS_BRK_TPER x.val)
    let s := if t ≠ 0 ∧ b.testAt + t * 1000 * msTicks ≤ s.clk then s.testStart x else s.brakeGate x
    let seen := decide ((s.bus x).gateAt + 4 * s.dget (BUS_BRK_BLK x.val) < s.clk) && !s.testing x
    s.modBus x (fun b => { b with sawOn := b.sawOn || (seen && b.gate), sawOff := b.sawOff || (seen && !b.gate) })

/-- The status bits of a bus that follow the rest of the state. -/
def State.busFlags (s : State) (x : Bus) : State :=
  (s.dput (BUS_STAT_NEGINH x.val) (if s.ov2Behaviour x then 1 else 0)).brakeGate x

/-- EV_BUS on every axis of a bus (R243). -/
def State.busEv (s : State) (x : Bus) : State := (s.axesOf x).foldl (fun s n => s.raiseEv n evBus) s

/-- A regenerating axis takes a zero vector for the rest of its DTC segment or carrier period, unless it carries one (R249). -/
def State.ov2Axis (s : State) (n : Ax) : State :=
  let a := s.ax n
  let done := if (a.pt.loaded.getD Req.none).mode = 0 then decide (a.pt.activeEnd ≤ 32 * s.clk)
    else a.pt.hold.any (fun h => h.ov.isSome && decide (32 * s.clk < h.stop))
  if s.regenerating n = true ∧ a.get AX_PTSTAT_FROZEN = 0 ∧ s.ptIsl n = islRun ∧ done = false then
    (s.playUntil n (32 * s.clk)).rewritePlan n false
  else s

/-- While OV2 behaviour stands on a bus, it acts on every axis that begins to regenerate (R249). -/
def State.ov2Tick (s : State) (x : Bus) : State :=
  if s.ov2Behaviour x then (s.axesOf x).foldl (fun s n => s.ov2Axis n) s else s

/-- One base tick of what the driver die knows of regeneration: the estimate, and since when the axis regenerates with OV1 set
(R248, R255). -/
def State.regenTick (s : State) (n : Ax) : State :=
  let s := s.busCurrent n
  let on := s.regenerating n && s.dget (BUS_STAT_OV1 (s.busOf n).val) == 1
  s.modAx n (fun a => { a with sense := { a.sense with
    regAt := if on then (match a.sense.regAt with | some t => some t | none => some s.clk) else none } })

/-- The end of an update of a bus: its status bits, and OV2 behaviour where it has just begun (R249, R255). -/
def State.busAfter (s : State) (x : Bus) (was : Bool) : State :=
  let s := s.busFlags x
  let s := if was then s else s.ov2Tick x
  (s.axesOf x).foldl (fun s n => s.settle n) s

/-- A comparator sets: its bit, its count, EV_BUS, the reported voltage (R243, R244). -/
def State.thrSet (s : State) (x : Bus) (f : Fld) (code v : Nat) : State :=
  (((s.dput f 1).count code (busUnit x)).busV x (4 * v)).busEv x

/-- BUS_OV1 (R251, R255): the bus is above OV1. -/
def execBusOv1 (x : Bus) (v : BitVec 10) (s : State) : Out :=
  if s.dget (BUS_STAT_OV1 x.val) = 1 ∨ v.toNat ≤ s.dget (BUS_OV_OV1 x.val) then .next s
  else
    let was := s.ov2Behaviour x
    .next (((s.thrSet x (BUS_STAT_OV1 x.val) 8 v.toNat).chopperPeriod x none).busAfter x was)

/-- BUS_OV2 (R249). -/
def execBusOv2 (x : Bus) (v : BitVec 10) (s : State) : Out :=
  if s.dget (BUS_STAT_OV2 x.val) = 1 ∨ v.toNat ≤ s.dget (BUS_OV_OV2 x.val) then .next s
  else
    let was := s.ov2Behaviour x
    .next ((s.thrSet x (BUS_STAT_OV2 x.val) 9 v.toNat).busAfter x was)

/-- BUS_OV3 (R250, R255). -/
def execBusOv3 (x : Bus) (v : BitVec 10) (s : State) : Out :=
  if s.dget (BUS_STAT_OV3 x.val) = 1 ∨ v.toNat ≤ s.dget (BUS_OV_OV3 x.val) then .next s
  else
    let was := s.ov2Behaviour x
    let s := (s.thrSet x (BUS_STAT_OV3 x.val) 10 v.toNat).detect 10 (busUnit x) 0
    .next (((s.axesOf x).foldl (fun s n => s.enterOasis n 10) s).busAfter x was)

/-- BUS_UV1 (R246). -/
def execBusUv1 (x : Bus) (v : BitVec 10) (s : State) : Out :=
  if s.dget (BUS_STAT_UV1 x.val) = 1 ∨ s.dget (BUS_UV_UV1 x.val) ≤ v.toNat then .next s else .next (s.thrSet x (BUS_STAT_UV1 x.val) 11 v.toNat)

/-- BUS_UV2 (R247): the running axes of the bus stop, at their next boundary, or at once without a running tick (R288). -/
def execBusUv2 (x : Bus) (v : BitVec 10) (s : State) : Out :=
  if s.dget (BUS_STAT_UV2 x.val) = 1 ∨ s.dget (BUS_UV_UV2 x.val) ≤ v.toNat then .next s
  else
    let b := s.thrSet x (BUS_STAT_UV2 x.val) 12 v.toNat
    .next ((b.axesOf x).foldl (fun t n =>
      if s.ticks n then t.modAx n (fun a => { a with uv2Req := true }) else t.uv2Act n) b)

/-- The bit of a comparator. -/
def thrFld (x : Bus) : BusThr → Fld
  | .ov1 => BUS_STAT_OV1 x.val | .ov2 => BUS_STAT_OV2 x.val | .ov3 => BUS_STAT_OV3 x.val
  | .uv1 => BUS_STAT_UV1 x.val | .uv2 => BUS_STAT_UV2 x.val

/-- The escalation output of an axis ends with OV1 (R256): RUN and STARTING enter CATCH at the next boundary. -/
def State.escEnds (s : State) (n : Ax) : State :=
  if (s.ax n).gd.esc then
    let live := decide ((s.ax n).st = .running ∨ (s.ax n).st = .starting)
    let s := s.modAx n (fun a => { a with gd := { a.gd with esc := false, escShort := false, bstOff := false } })
    if live then
      (if s.ticks n then s.modAx n (fun a => { a with escExit := true }) else s.enterSt n .catching)
    else s
  else s

/-- The voltage has passed the release level of a comparator (R244). -/
def State.released (s : State) (x : Bus) (t : BusThr) (v : Nat) : Bool :=
  let oh := s.dget (BUS_OV_OVHYS x.val)
  let uh := s.dget (BUS_UV_UVHYS x.val)
  match t with
  | .ov1 => decide (v + oh < s.dget (BUS_OV_OV1 x.val))
  | .ov2 => decide (v + oh < s.dget (BUS_OV_OV2 x.val))
  | .ov3 => decide (v + oh < s.dget (BUS_OV_OV3 x.val))
  | .uv1 => decide (s.dget (BUS_UV_UV1 x.val) + uh < v)
  | .uv2 => decide (s.dget (BUS_UV_UV2 x.val) + uh < v)

/-- BUS_THRESHOLD_RELEASE (R243): the effects tied to the comparator end. -/
def execBusThresholdRelease (x : Bus) (t : BusThr) (v : BitVec 10) (s : State) : Out :=
  if s.dget (thrFld x t) = 0 ∨ s.released x t v.toNat = false then .next s
  else
    let was := s.ov2Behaviour x
    let s := ((s.dput (thrFld x t) 0).busV x (4 * v.toNat)).busEv x
    let s := if t = .ov1 then (s.axesOf x).foldl (fun s n => s.escEnds n) s else s
    .next (s.busAfter x was)

/-- The axis has regenerated for ESCDLY without a break while OV1 was set (R255). -/
def State.escDue (s : State) (n : Ax) : Bool :=
  match (s.ax n).sense.regAt with
  | some t => decide (t + s.dget (BUS_ESC_ESCDLY (s.busOf n).val) * usTicks ≤ s.clk)
  | none => false

/-- ESCALATION (R255, R256): the escalation output, off or short; once applied it stands until OV1 releases. -/
def execEscalation (n : Ax) (terms : List Terminals) (s : State) : Out :=
  let x := s.busOf n
  if s.dget (BUS_STAT_OV1 x.val) = 1 ∧ (s.ax n).st ≠ .oasis ∧ ((s.ax n).gd.esc = true ∨ (s.chopperBad x = true ∧ s.escDue n = true)) then
    .next ((s.modAx n (fun a => { a with gd := { a.gd with
      esc := true, escShort := a.gd.escShort || a.shortSafe terms } })).settle n)
  else .next s

/-- BRK_FAULT latches (R252): 1 open, 2 shorted. -/
def State.brkFault (s : State) (x : Bus) (kind : Nat) : State :=
  if (s.bus x).fault then s
  else
    let was := s.ov2Behaviour x
    let s := (s.modBus x (fun b => { b with fault := true })).dput (BUS_STAT_BRKFLT x.val) kind
    (((s.count 13 (busUnit x)).detect 13 (busUnit x) kind).busEv x).busAfter x was

/-- BRAKE_CHOPPER_PERIOD (R252): the period that is over is evaluated: open where the gate was on beyond BLK and the current
stayed below ITH, shorted where it was off beyond BLK and the current exceeded ITH. -/
def execBrakeChopperPeriod (x : Bus) (on off : Nat) (s : State) : Out :=
  match (s.bus x).past with
  | none => .next s
  | some (sawOn, sawOff) =>
    let ith := 2 * s.dget (BUS_BRK_ITH x.val)
    let s := s.modBus x (fun b => { b with
      past := none
      openRun := if sawOn && decide (on < ith) then b.openRun + 1 else 0
      shortRun := if sawOff && decide (ith < off) then b.shortRun + 1 else 0 })
    if (s.bus x).openRun ≥ 2 then .next (s.brkFault x 1)
    else if (s.bus x).shortRun ≥ 2 then .next (s.brkFault x 2)
    else .next s

/-- BRAKE_TEST (R253): a test pulse that has ended is evaluated as one period; two consecutive failing tests latch BRK_FAULT. -/
def execBrakeTest (x : Bus) (on off : Nat) (s : State) : Out :=
  match (s.bus x).pulse with
  | none => .next s
  | some e =>
    if s.clk < e then .next s
    else
      let ith := 2 * s.dget (BUS_BRK_ITH x.val)
      let open_ := decide (4 * s.dget (BUS_BRK_BLK x.val) < 2 * usTicks) && decide (on < ith)
      let s := s.modBus x (fun b => { b with
        pulse := none, testRun := if open_ || decide (ith < off) then b.testRun + 1 else 0 })
      if (s.bus x).testRun ≥ 2 then .next (s.brkFault x (if open_ then 1 else 2)) else .next s

end Sys2Proof.Machine
end

