-- ==== Sys2Proof/Machine/Thermal.lean ====
section
/-! DEFINITION. Temperature, throttling and shutdown (chapter 10). -/

namespace Sys2Proof.Machine

open Sys2Proof

/-! ### Readings -/

/-- A temperature or rate as its 16-bit register holds it; outside the format the manual states no value. -/
def thermWord (k x : Int) : W16 := if -32768 ≤ x ∧ x ≤ 32767 then BitVec.ofInt 16 x else Config.therm [k, x]

/-- The natural logarithm of m / 2^64 for m from 2^64 to 2^65, units of 2^-64: twice the inverse hyperbolic tangent of
(m - 1) / (m + 1), by its series. -/
def lnSeries (z2 : Nat) : Nat → Nat → Nat
  | 0, _ => 0
  | k + 1, z => z / (2 * (24 - k) - 1) + lnSeries z2 k (z * z2 / 2 ^ 64)

/-- The natural logarithm of a / b for positive a and b, units of 2^-64. -/
def lnRatio (a b : Nat) : Int :=
  let e : Int := (Nat.log2 a : Int) - Nat.log2 b - 1
  let m : Nat := if 0 ≤ e then a * 2 ^ 64 / (b * 2 ^ e.toNat) else a * 2 ^ ((-e).toNat) * 2 ^ 64 / b
  let n : Nat × Int := if m < 2 ^ 65 then (m, e) else (m / 2, e + 1)
  let z := (n.1 - 2 ^ 64) * 2 ^ 64 / (n.1 + 2 ^ 64)
  n.2 * 12786308645202655660 + 2 * (lnSeries (z * z / 2 ^ 64) 24 z : Int)

/-- The temperature of an NTC code, 1/16 C (R259). The manual states no rounding: one of the two nearest units (log 7). -/
def ntcTemp (code r25 beta : Nat) : W16 :=
  if code = 0 ∨ r25 = 0 ∨ beta = 0 then Config.therm [2, code, r25, beta]
  else
    let d : Int := 20 * beta * 2 ^ 64 + 5963 * lnRatio (1000 * code) ((4096 - code) * r25)
    if d ≤ 0 then Config.therm [2, code, r25, beta]
    else
      let x : Int := 80 * 5963 * beta * 2 ^ 64 - 21852 * d
      thermWord 3 (x / (5 * d) + (if x % (5 * d) = 0 then 0 else ((Config.therm [4, code, r25, beta]).toNat % 2 : Nat)))

/-! ### The cross-check (R261, R262) -/

/-- The neighbours of TSi (R258). -/
def tsNeighbours (i : Nat) : List Nat :=
  if i < 4 then [0, 1, 2, 3].filter (· != i)
  else
    let k := (i - 4) % 4
    (if k = 0 then [] else [i - 1]) ++ (if k = 3 then [] else [i + 1]) ++ [if i < 8 then i + 4 else i - 4]

/-- The sensors of the die of TSi. -/
def tsDie (i : Nat) : List Nat := if i < 4 then [0, 1, 2, 3] else [4, 5, 6, 7, 8, 9, 10, 11]

def allTs : List (Fin 12) := [0, 1, 2, 3, 4, 5, 6, 7, 8, 9, 10, 11]

/-- The reading and the effective value of TSi, 1/16 C. -/
def State.tsMeas (s : State) (i : Nat) : Int := (THERM_TS_MEAS i).sget (s.dreg (THERM_TS i))
def State.tsEff (s : State) (i : Nat) : Int := (THERM_TS_EFF i).sget (s.dreg (THERM_TS i))
def State.tsBad (s : State) (i : Nat) : Bool := s.dget (THERM_TS_BAD i) == 1
def State.tsSusp (s : State) (i : Nat) : Bool := s.dget (THERM_TS_SUSP i) == 1

/-- The load figure of axis n over the last 10 ms: the sum of squared currents, 2^-20 A², and the ticks (R261). -/
def Axis.load10 (a : Axis) : Nat × Nat := a.sense.loadHist.foldl (fun x y => (x.1 + y.1, x.2 + y.2)) (0, 0)

/-- A deviation of d / 16 C exceeds the allowance of a driver-die sensor for one load figure (R261). -/
def beyondLoad (d dev0 devk : Nat) (l : Nat × Nat) : Bool :=
  if l.2 = 0 then decide (8 * dev0 < d)
  else decide (8000 * dev0 * 2 ^ 20 * l.2 + 16 * devk * l.1 < 1000 * 2 ^ 20 * l.2 * d)

/-- TSi is suspect at this reading (R261). -/
def State.tsSuspect (s : State) (i : Nat) : Bool :=
  let nb := (tsNeighbours i).filter (fun j => !s.tsBad j)
  let far := fun (d : Nat) =>
    if i < 4 then decide (8 * THERM_XCHK_DEV0C.get s.therm.xchk < d)
    else (i :: tsNeighbours i).all (fun j =>
      beyondLoad d (THERM_XCHK_DEV0.get s.therm.xchk) (THERM_XCHK_DEVK.get s.therm.xchk) (s.ax ⟨(j - 4) % 8, by omega⟩).load10)
  !s.tsBad i && !nb.isEmpty && nb.all (fun j => far (s.tsMeas i - s.tsMeas j).natAbs)

/-- The greatest of a list of readings. -/
def greatest : List Int → Option Int
  | [] => none
  | x :: xs => some (xs.foldl max x)

/-- EFF of TSi (R262); with no unbroken sensor on its die the manual states no replacement (log 7). -/
def State.effOf (s : State) (i : Nat) : W16 :=
  let meas := fun (l : List Nat) => greatest ((l.filter (fun j => !s.tsBad j)).map s.tsMeas)
  let best := match meas (tsNeighbours i) with | some x => some x | none => meas (tsDie i)
  let rep : W16 := match best with
    | some x => thermWord 5 (x + 8 * THERM_XCHK_MARGIN.get s.therm.xchk)
    | none => Config.therm [6, i, s.tsMeas i]
  if s.tsBad i then rep
  else if s.tsSusp i then (if rep.toInt < s.tsMeas i then BitVec.ofInt 16 (s.tsMeas i) else rep)
  else BitVec.ofInt 16 (s.tsMeas i)

def State.setEff (s : State) (i : Nat) : State := s.dput (THERM_TS_EFF i) (s.effOf i).toNat

/-! ### Thresholds (R263 to R265) -/

/-- What one sensor's thresholds gave at a reading: its history, its factor, its counts, whether a throttle set or released,
whether it reads at or above SHUT, and its rate. -/
structure Judged where
  sen : Sensor
  factor : Nat
  warns : Nat
  throttles : Nat
  change : Bool
  shut : Bool
  rate : W16
  deriving DecidableEq, Repr

/-- An episode flag with hysteresis: set at a limit, released below the lower one. -/
def episode (was : Bool) (set keep : Bool) : Bool := set || (was && keep)

/-- The thresholds of one sensor at a reading (R263 to R265, R267): lvl and rat are the words of its group. -/
def judge (x : Sensor) (floor : Nat) (lvl rat : W64) (e : Int) (used : Bool) : Judged :=
  let hys : Int := 8 * (THERM_LVL_HYS 0).get lvl
  let warn : Int := 8 * (THERM_LVL_WARN 0).get lvl
  let thr : Int := 8 * (THERM_LVL_THR 0).get lvl
  let full : Int := 8 * (THERM_LVL_FULL 0).get lvl
  let shut : Int := 8 * (THERM_LVL_SHUT 0).get lvl
  let mode := (THERM_RATE_MODE 0).get rat
  let win := (THERM_RATE_RWIN 0).get rat
  let r1 : Int := (THERM_RATE_RLIM1 0).get rat
  let r2 : Int := (THERM_RATE_RLIM2 0).get rat
  let rh : Int := (THERM_RATE_RHYS 0).get rat
  -- the rate of R265 as num / (2 win), 0.1 C/s; none before RWIN of history (log 8)
  let num : Option Int := (x.past[100 * win - 1]?).map (fun o => 125 * (e - o))
  let rate := match num with | some r => thermWord 7 (roundDiv r (2 * win)) | none => 0
  let atLeast := fun (l : Int) => match num with | some r => decide (2 * win * l ≤ r) | none => false
  let past := (e :: x.past).take 25500
  if used then
    let th := match x.held with | none => e | some t => if t < e then e else if e < t - hys then e + hys else t
    let lvlOn := mode != 1
    let rateOn := mode != 0
    let w := lvlOn && episode x.warn (decide (warn ≤ e)) (decide (warn - hys ≤ e))
    let t := lvlOn && decide (thr < th)
    let rw := rateOn && episode x.rwarn (atLeast r1) (atLeast (r1 - rh))
    let rt := rateOn && episode x.rthr (atLeast r2) (atLeast (r2 - rh))
    let lf : Nat :=
      if !lvlOn || decide (th ≤ thr) then 0x8000
      else if full ≤ th then floor
      else (roundDiv (0x8000 * (full - thr) - (0x8000 - (floor : Int)) * (th - thr)) (full - thr).toNat).toNat
    { sen := { x with held := some th, past := past, warn := w, rwarn := rw, thr := t, rthr := rt }
      factor := min lf (if rt then floor else 0x8000)
      warns := (if w && !x.warn then 1 else 0) + (if rw && !x.rwarn then 1 else 0)
      throttles := (if t && !x.thr then 1 else 0) + (if rt && !x.rthr then 1 else 0)
      change := t != x.thr || rt != x.rthr
      shut := decide (shut ≤ e)
      rate := rate }
  else
    { sen := { x with held := none, past := past, warn := false, rwarn := false, thr := false, rthr := false }
      factor := 0x8000, warns := 0, throttles := 0, change := x.thr || x.rthr, shut := false, rate := rate }

/-- Count a code n times for the device (R263 to R265, R297). -/
def State.countN (s : State) (code : Nat) : Nat → State
  | 0 => s
  | n + 1 => (s.count code unitDev).countN code n

/-- Whether an NTC counts: enabled, and not declared open or shorted (R260). -/
def State.ntcDeclared (s : State) (k : Nat) : Bool := s.dget (THERM_NTC_OPEN k) == 1 || s.dget (THERM_NTC_SHORT k) == 1
def State.ntcOn (s : State) (k : Nat) : Bool := (THERM_NTCCFG_NEN.get s.therm.ntccfg).testBit k

/-- The group of TSi. -/
def tsGroup (i : Nat) : Fin 3 := if i < 4 then 0 else 1

/-- One on-die sensor passes its thresholds; a suspect one that has reached SHUT starts no shutdown and holds its axes at FLOOR
while it is suspect (R267). -/
def State.judgeTs (s : State) (i : Fin 12) : State × Judged :=
  let g := tsGroup i.val
  let j := judge s.therm.ts[i] (THERM_XCHK_FLOOR.get s.therm.xchk) s.therm.lvl[g] s.therm.rate[g] (s.tsEff i.val) true
  let hold := s.tsSusp i.val && (j.shut || j.sen.hold)
  let s := { s with therm := { s.therm with ts := s.therm.ts.set i.val { j.sen with hold := hold } i.isLt } }
  (((s.dput (THERM_TS_RATE i.val) j.rate.toNat).countN 21 j.warns).countN 22 j.throttles,
    { j with shut := j.shut && !s.tsSusp i.val, factor := if hold then min j.factor (THERM_XCHK_FLOOR.get s.therm.xchk) else j.factor })

/-- One NTC passes its thresholds; declared open or shorted it limits its axis to NFRAC (R260). -/
def State.judgeNtc (s : State) (k : Ax) : State × Judged :=
  let used := s.ntcOn k.val && !s.ntcDeclared k.val
  let j := judge s.therm.ntc[k] (THERM_XCHK_FLOOR.get s.therm.xchk) s.therm.lvl[2] s.therm.rate[2]
    ((THERM_NTC_MEAS k.val).sget (s.dreg (THERM_NTC k.val))) used
  let s := { s with therm := { s.therm with ntc := s.therm.ntc.set k.val j.sen k.isLt } }
  (((s.dput (THERM_NTC_RATE k.val) j.rate.toNat).countN 21 j.warns).countN 22 j.throttles,
    { j with factor := if s.ntcOn k.val && s.ntcDeclared k.val then min j.factor (THERM_NTCCFG_NFRAC.get s.therm.ntccfg) else j.factor })

/-! ### Bands (R270) -/

/-- The lower boundary of a band, 1/16 C. -/
def bandLow (b : Nat) : Int := match b with | 1 => 0 | 2 => 720 | 3 => 1360 | _ => 1840

/-- Up while the temperature reaches the next boundary, then down while it is below the present one less 4 C. -/
def bandUp (t : Int) : Nat → Nat → Nat
  | 0, b => b
  | k + 1, b => if b < 4 ∧ bandLow (b + 1) ≤ t then bandUp t k (b + 1) else b
def bandDown (t : Int) : Nat → Nat → Nat
  | 0, b => b
  | k + 1, b => if 0 < b ∧ t < bandLow b - 64 then bandDown t k (b - 1) else b

/-- The band from the last one, or set directly at the first reading (R270). -/
def bandOf (first : Bool) (b : Nat) (t : Int) : Nat := if first then bandUp t 4 0 else bandDown t 4 (bandUp t 4 b)

/-! ### The shutdown (R267, R268) -/

/-- A thermal shutdown: the latch, its source and TIME; every axis enters OASIS (R268). A latch already set stays as it is (R269). -/
def State.thermalShutdown (s : State) (src : Nat) : State :=
  if s.dget THERM_STAT_SHUT = 1 then s
  else
    let s := ((s.dput THERM_STAT_SHUT 1).dput THERM_STAT_SHSRC src).setDreg THERM_SHTIME s.time
    let s := (s.modStore (fun c => { c with shutLogged := false })).count 23 unitDev |>.detect 23 unitDev src
    allAx.foldl (fun s n => s.enterOasis n 23) s

/-! ### The reading (R259 to R270) -/

/-- Flags of the three groups: bit g is set when a sensor of group g has the flag. -/
def groupBits (s : State) (f : Sensor → Bool) : Nat :=
  (if (allTs.take 4).any (fun i => f s.therm.ts[i]) then 1 else 0) +
  (if (allTs.drop 4).any (fun i => f s.therm.ts[i]) then 2 else 0) +
  (if allAx.any (fun k => f s.therm.ntc[k]) then 4 else 0)

/-- The code of an NTC stands at its open limit, its short limit, or within range (R156, R260). -/
def ntcZone (code : Nat) : Nat := if 4070 ≤ code then 1 else if code ≤ 25 then 2 else 0

/-- KTH of axis n is delivered; EV_THRM where a band, a throttle or KTH calls for it (R266). -/
def State.deliverKth (s : State) (n : Ax) (kth : Nat) (ev : Bool) : State :=
  let s := s.aput n AX_TLSTAT_KTH kth
  let mark := (s.ax n).kthMark.toNat
  if ev || decide (mark + 512 ≤ kth) || decide (kth + 512 ≤ mark) then
    (s.modAx n (fun a => { a with kthMark := BitVec.ofNat 16 kth })).raiseEv n evThrm
  else s

/-- The configuration that a reading goes by is what the registers hold then (R273). -/
def State.thermForce (s : State) : State :=
  { s with therm := { s.therm with
    at_ := some s.clk, ntccfg := s.dreg THERM_NTCCFG, lvl := Vector.ofFn (fun g : Fin 3 => s.dreg (THERM_LVL g.val))
    rate := Vector.ofFn (fun g : Fin 3 => s.dreg (THERM_RATE g.val)), xchk := s.dreg THERM_XCHK } }

/-- The measured words of a reading reach their registers: AINs, supplies, buses (log 6), the sensors, the load figures. -/
def State.thermStore (s : State) (ts : Vector (BitVec 16) 12) (ntc : Vector (BitVec 12) 8) (x : Aux) : State :=
  let s := x.ain.foldl (fun s c => s.ainCode c) s
  let s := s.setDreg SYS_PWRMON (SYS_PWRMON_VCORE.put (SYS_PWRMON_V33.put (SYS_PWRMON_VGD.put (SYS_PWRMON_VSUP.put 0
    x.pwr[0].toNat) x.pwr[1].toNat) x.pwr[2].toNat) x.pwr[3].toNat)
  let s := s.modPins (fun p => { p with
    vgdLow := p.vgdUv || decide (x.pwr[1].toNat < 920), vgdHeld := p.vgdHeld && decide (x.pwr[1].toNat ≤ 920) })
  let s := [(0 : Bus), 1].foldl (fun s b => s.busV b (x.vbus[b].toNat % 4096)) s
  let s := allTs.foldl (fun s i => s.dput (THERM_TS_MEAS i.val) ts[i].toNat) s
  let s := allAx.foldl (fun s k =>
    let c := ntc[k].toNat
    let moved := decide (ntcZone c ≠ ntcZone (s.dget (THERM_NTC_CODE k.val))) || (s.therm.ntc[k]).since.isNone
    let s := if moved then
        { s with therm := { s.therm with ntc := s.therm.ntc.set k.val { s.therm.ntc[k] with since := some s.clk } k.isLt } }
      else s
    (s.dput (THERM_NTC_CODE k.val) c).dput (THERM_NTC_MEAS k.val)
      (ntcTemp c (THERM_NTCCFG_R25.get s.therm.ntccfg) (THERM_NTCCFG_BETA.get s.therm.ntccfg)).toNat) s
  allAx.foldl (fun s n => s.modAx n (fun a => { a with sense := { a.sense with
    loadHist := (a.sense.load :: a.sense.loadHist).take 100, load := (0, 0) } })) s

/-- The cross-check marks the suspect sensors, then every EFF is formed (R261, R262). -/
def State.crossCheck (s : State) : State :=
  let sus := allTs.map (fun i => (i, s.tsSuspect i.val))
  let s := sus.foldl (fun s p =>
    let i := p.1
    let since := if p.2 then (match (s.therm.ts[i]).since with | some t => some t | none => some s.clk) else none
    { (s.dput (THERM_TS_SUSP i.val) (if p.2 then 1 else 0)) with
      therm := { s.therm with ts := s.therm.ts.set i.val { s.therm.ts[i] with since := since } i.isLt } }) s
  allTs.foldl (fun s i => s.setEff i.val) s

/-- The bands of the axes and of the device (R270): the new state, the axes whose band changed, whether the device's did. -/
def State.bands (s : State) : State × List Ax × Bool :=
  let first := !s.therm.first
  let r := allAx.foldl (fun (r : State × List Ax) n =>
    let old := r.1.axBand n
    let new := bandOf first old (r.1.tsEff (4 + n.val))
    (r.1.dput THERM_STAT_AXBAND (putItem (r.1.dget THERM_STAT_AXBAND) n.val 3 new), if new = old then r.2 else r.2 ++ [n])) (s, [])
  let s := r.1
  let dev := bandOf first (s.dget THERM_STAT_DBAND) ((allTs.map (fun i => s.tsEff i.val)).foldl max (s.tsEff 0))
  let moved := dev != s.dget THERM_STAT_DBAND
  let s := s.dput THERM_STAT_DBAND dev
  let s := { s with therm := { s.therm with first := true }
                    fuses := if moved then { s.fuses with rereadDue := true } else s.fuses }
  (s, r.2, moved)

/-- Every sensor passes its thresholds: the judgements of TS0 to TS11 and of NTC0 to NTC7. -/
def State.judgeAll (s : State) : State × List (Fin 12 × Judged) × List (Ax × Judged) :=
  let r := allTs.foldl (fun (r : State × List (Fin 12 × Judged)) i =>
    let q := r.1.judgeTs i
    (q.1, r.2 ++ [(i, q.2)])) (s, [])
  let q := allAx.foldl (fun (r : State × List (Ax × Judged)) k =>
    let q := r.1.judgeNtc k
    (q.1, r.2 ++ [(k, q.2)])) (r.1, [])
  (q.1, r.2, q.2)

/-- The sensors that serve axis n: group 0, TS(4 + n) and NTCn (R258, R266). -/
def servingOf (n : Ax) (ts : List (Fin 12 × Judged)) (ntc : List (Ax × Judged)) : List Judged :=
  (ts.filter (fun q => q.1.val < 4 || q.1.val == 4 + n.val)).map (·.2) ++ (ntc.filter (fun q => q.1 == n)).map (·.2)

/-- A reading is due (R259): every 100 us. -/
def State.thermDue (s : State) : Bool :=
  match s.therm.at_ with | some t => decide (t + 100 * usTicks ≤ s.clk) | none => true

/-- What a reading does (R259 to R270). -/
def State.reading (s : State) (ts : Vector (BitVec 16) 12) (ntc : Vector (BitVec 12) 8) (x : Aux) : State :=
  let s := (s.thermForce.thermStore ts ntc x).crossCheck
  let r := s.judgeAll
  let s := r.1
  let s := ((s.dput THERM_STAT_WARN (groupBits s (fun q => q.warn || q.rwarn))).dput THERM_STAT_THR
    (groupBits s (·.thr))).dput THERM_STAT_RTHR (groupBits s (·.rthr))
  let b := s.bands
  let s := allAx.foldl (fun s n =>
    let sv := servingOf n r.2.1 r.2.2
    s.deliverKth n (sv.foldl (fun m j => min m j.factor) 0x8000) (b.2.2 || b.2.1.contains n || sv.any (·.change))) b.1
  match (r.2.1.filter (·.2.shut)).map (fun q => q.1.val) ++ (r.2.2.filter (·.2.shut)).map (fun q => 16 + q.1.val) with
  | src :: _ => s.thermalShutdown src
  | [] => s

/-- THERM_READING (R259). -/
def execThermReading (ts : Vector (BitVec 16) 12) (ntc : Vector (BitVec 12) 8) (x : Aux) (s : State) : Out :=
  if s.thermDue then .next (s.reading ts ntc x) else .next s

/-- Ten milliseconds in base ticks. -/
abbrev tenMs : Nat := 10 * msTicks

/-- TEMP_SENSOR_BAD (R262): a sensor suspect for 10 ms is broken until the next power-on reset. -/
def execTempSensorBad (i : Fin 12) (s : State) : Out :=
  match (s.therm.ts[i]).since with
  | some t =>
    if s.tsSusp i.val = true ∧ t + tenMs ≤ s.clk then
      let s := ((s.dput (THERM_TS_BAD i.val) 1).dput (THERM_TS_SUSP i.val) 0).dput THERM_STAT_BAD
        (s.dget THERM_STAT_BAD ||| 2 ^ i.val)
      let s := { s with therm := { s.therm with
        ts := s.therm.ts.set i.val { s.therm.ts[i] with since := none, hold := false } i.isLt } }
      .next ((s.count 24 unitDev).setEff i.val)
    else .next s
  | none => .next s

/-- NTC_OPEN_SHORT (R156, R260): an enabled NTC whose code has stood at a limit for 10 ms. -/
def execNtcOpenShort (k : Ax) (short : Bool) (s : State) : Out :=
  match (s.therm.ntc[k]).since with
  | some t =>
    if s.ntcOn k.val = true ∧ s.ntcDeclared k.val = false ∧
        ntcZone (s.dget (THERM_NTC_CODE k.val)) = (if short then 2 else 1) ∧ t + tenMs ≤ s.clk then
      .next ((s.count 24 unitDev).dput (if short then THERM_NTC_SHORT k.val else THERM_NTC_OPEN k.val) 1)
    else .next s
  | none => .next s

/-- NTC_DECLARATION_END (R260). -/
def execNtcDeclarationEnd (k : Ax) (s : State) : Out :=
  match (s.therm.ntc[k]).since with
  | some t =>
    if s.ntcDeclared k.val = true ∧ ntcZone (s.dget (THERM_NTC_CODE k.val)) = 0 ∧ t + tenMs ≤ s.clk then
      .next ((s.dput (THERM_NTC_OPEN k.val) 0).dput (THERM_NTC_SHORT k.val) 0)
    else .next s
  | none => .next s

end Sys2Proof.Machine
end

