-- ==== Sys2Proof/Machine/Clocks.lean ====
section
/-! DEFINITION. Clocks, the reference, crossings and the time base (chapter 1). -/

namespace Sys2Proof.Machine

open Sys2Proof

/-! ### PLLs (R10 to R13) -/

/-- The lock bit of PLL q: 0 PLL_A, 1 PLL_B (R32). -/
def lockFld (q : Nat) : Fld := if q = 0 then SYS_CLKSTAT_PLLA_LOCK else SYS_CLKSTAT_PLLB_LOCK

/-- The active and the standby PLL. -/
def State.activePll (s : State) : Nat := s.dget SYS_CLKSTAT_ACTIVE
def State.standbyPll (s : State) : Nat := 1 - s.activePll

/-- A PLL has failed at the present base tick: its lock bit falls (R12, log 33). -/
def State.pllLost (s : State) (q : Nat) : State :=
  (s.dput (lockFld q) 0).modPins (fun p => { p with pllAt := p.pllAt.setIfInBounds q s.clk })

/-- The delay lines recalibrate over the next 2 µs: HRES_FB is set, and the edges already scheduled in that time fall back to
whole base ticks (R11, R15). -/
def State.recalibrate (s : State) : State :=
  let s := (s.dput SYS_CLKSTAT_HRES_FB 1).modPins (fun p => { p with hresAt := s.clk })
  allAx.foldl (fun s n => s.modAx n (fun a => { a with pt := { a.pt with
    sched := a.pt.sched.map (fun e => if e.t < 32 * (s.clk + 2 * usTicks) then { e with t := wholeTick e.t } else e) } })) s

/-- Every island moves to the standby PLL; the delay lines recalibrate (R10, R11). -/
def State.switchPll (s : State) : State :=
  ((s.dput SYS_CLKSTAT_ACTIVE s.standbyPll).dput SYS_CLKSTAT_SWITCHED 1).recalibrate

/-- The double fault of R13: every axis enters OASIS (CAUSE CLK_SWITCH, log 32), FAULT_N asserts, and the commands in flight
wait for SYS to run again. -/
def State.doublePll (s : State) : State :=
  let kept := s.ports
  let s := { s with ports := s.ports.map (fun (q : PortSt) => { q with cmds := [] }) }
  let s := s.detect 29 unitDev 0
  let s := allAx.foldl (fun s n => s.enterOasis n 29) s
  let s := allPorts.foldl (fun s p => s.modPort p (fun q => { q with cmds := kept[p].cmds })) s
  s.devLatch.modPins (fun p => { p with noClock := true })

/-- PLL_FAIL (R10, R13). -/
def execPllFail (s : State) : Out :=
  if s.pins.noClock then .next s
  else
    let bad := s.dget SYS_CLKSTAT_STBY_BAD
    let s := (s.pllLost s.activePll).count 29 unitDev
    if bad = 1 then .next s.doublePll else .next (s.switchPll.dput SYS_CLKSTAT_STBY_BAD 1)

/-- DELAY_LINE_RECALIBRATION_END (R11): 2 µs after the last switch placement is in delay-line steps again. -/
def execDelayLineRecalibrationEnd (s : State) : Out :=
  if s.dget SYS_CLKSTAT_HRES_FB = 1 ∧ s.pins.hresAt + 2 * usTicks ≤ s.clk then .next (s.dput SYS_CLKSTAT_HRES_FB 0) else .next s

/-- DELAY_LINE_CALIBRATION (R201): a line that does not converge keeps base-tick placement until the next power-on reset. -/
def execDelayLineCalibration (n : Ax) (converged : Bool) (s : State) : Out :=
  if converged then .next s else .next (s.modAx n (fun a => { a with pt := { a.pt with lineBad := true } }))

/-- STANDBY_PLL_LOSS (R12): no switch takes place. A PLL that loses lock again while it recovers is no standby yet: nothing
is counted, and its 10 ms of continuous correct output begin anew (log 33). -/
def execStandbyPllLoss (s : State) : Out :=
  if s.dget SYS_CLKSTAT_STBY_BAD = 1 then .next (s.pllLost s.standbyPll)
  else .next (((s.pllLost s.standbyPll).dput SYS_CLKSTAT_STBY_BAD 1).count 29 unitDev)

/-! ### The reference (R14, R15) -/

/-- REF_LOST (R14): the internal RC replaces the reference. On the RC another loss changes nothing (log 34). -/
def execRefLost (s : State) : Out :=
  let was := s.dget SYS_CLKSTAT_REF_SRC
  let s := s.modPins (fun p => { p with xinBad := true })
  if was = 1 then .next s
  else .next ((((s.dput SYS_CLKSTAT_REF_SRC 1).dput SYS_CLKSTAT_REF_LOSTF 1).count 30 unitDev).dput SYS_TIMESTAT_DEGRADED 1)

/-- The device switches back to XIN, and the delay lines recalibrate (R15). -/
def State.backToXin (s : State) : State :=
  if s.dget SYS_CLKSTAT_REF_SRC = 1 ∧ s.pins.xinBad = false then
    ((s.dput SYS_CLKSTAT_REF_SRC 0).dput SYS_TIMESTAT_DEGRADED 0).recalibrate
  else s

/-- REF_RETURN (R15): XIN has been correct for 10 ms. -/
def execRefReturn (s : State) : Out :=
  let s := s.modPins (fun p => { p with xinBad := false })
  if s.dget SYS_CLKCTL_REF_RET = 1 then .next s.backToXin else .next s

/-- A write of SYS_CLKCTL (R15, R32): SWAP, REF_REARM and the return that REF_RET allows. -/
def State.clkctl (s : State) (v : W64) : State :=
  let s := s.dput SYS_CLKCTL_REF_RET (SYS_CLKCTL_REF_RET.get v)
  let s := if SYS_CLKCTL_SWAP.get v = 1 ∧ s.dget SYS_CLKSTAT_STBY_BAD = 0 then s.switchPll else s
  if SYS_CLKCTL_REF_REARM.get v = 1 ∨ SYS_CLKCTL_REF_RET.get v = 1 then s.backToXin else s

/-! ### Islands and crossings (R8, R9, R19) -/

/-- ISLAND_GATE_STOP (R9). -/
def execIslandGateStop (n : Ax) (s : State) : Out :=
  let a := s.ax n
  if (s.dget SYS_ISLGATE_AXGATE).testBit n.val = true ∧ a.st = .off ∧ a.pt.offSince + msTicks ≤ s.clk then
    .next (s.setIsl n islStopped)
  else .next s

/-- A write of SYS_ISLGATE (R9, R32): a bit set in OFF starts the 1 ms, a bit cleared restarts the islands (log 35). -/
def State.islgate (s : State) (v : W64) : State :=
  let old := s.dget SYS_ISLGATE_AXGATE
  let new := SYS_ISLGATE_AXGATE.get v
  let s := s.dput SYS_ISLGATE_AXGATE new
  allAx.foldl (fun s n =>
    if new.testBit n.val && !old.testBit n.val then s.modAx n (fun a => { a with pt := { a.pt with offSince := s.clk } })
    else if old.testBit n.val && !new.testBit n.val then s.ungate n
    else s) s

/-- DRV_CLOCK_FALLBACK (R8): the DRV island runs on its RC, or on the forwarded clock again; its protection runs on both. -/
def execDrvClockFallback (stops : Bool) (s : State) : Out := .next (s.modPins (fun p => { p with drvRc := stops }))

/-- CDC_MISMATCH (R19): each disagreement counts; the second is detected. -/
def execCdcMismatch (unit : Option Ax) (p : Port) (tag : W16) (second : Bool) (s : State) : Out :=
  match unit with
  | some n =>
    let s := s.count 31 n.val
    if second then .next (((s.count 31 n.val).detect 31 n.val 0).enterOasis n 31) else .next s
  | none =>
    let s := s.count 31 unitDev
    if second then
      let s := (s.count 31 unitDev).detect 31 unitDev 0
      if (s.port p).cmds.any (fun c => c.tag == tag) then .next (s.complete p tag stDeviceFault 15 []) else .next s
    else .next s

/-! ### The time base (R24 to R31) -/

/-- TIME states (R32). -/
abbrev timeFree : Nat := 0
abbrev timeArmed : Nat := 1
abbrev timeTrack : Nat := 2
abbrev timeLocked : Nat := 3
abbrev timeHoldover : Nat := 4

/-- TRIM, 0.1 ppb (R32). -/
def State.trim (s : State) : Int := SYS_TIMETRIM_TRIM.sget (s.dreg SYS_TIMETRIM)
def clampTrim (x : Int) : Int := max (-2000000) (min 2000000 x)
def State.setTrim (s : State) (x : Int) : State := s.dput SYS_TIMETRIM_TRIM (clampTrim x % 2 ^ 32).toNat

/-- One base tick of TIME: 2.5 ns, the trim and the slew (R24, R27). -/
def State.timeTick (s : State) : State :=
  let t := s.tm
  let d := if t.slew < 0 then max t.slew (-(t.rate.natAbs : Int)) else min t.slew (t.rate.natAbs : Int)
  { s with tm := { t with acc := ((t.acc : Int) + 10000000000 + s.trim + d).toNat, slew := t.slew - d } }

/-- The frequency of the AON clock in one base tick, Hz: 32768 on the crystal; on the RC some value within 3 % of it (R7),
which one is free (log 120). -/
def State.aonRate (s : State) : Nat × State :=
  if s.dget SYS_CLKSTAT_AON_SRC = 0 then (32768, s) else (31785 + s.takeFree.1.toNat % 1967, s.takeFree.2)

/-- The AON counter advances with the AON clock (R7). -/
def State.aonTick (s : State) : State :=
  let r := s.aonRate
  let s := r.2
  let f := s.tm.aonFrac + r.1
  if f < 400000000 then { s with tm := { s.tm with aonFrac := f } }
  else { s with tm := { s.tm with aonFrac := f - 400000000 } }.setDreg SYS_AONCNT (s.dreg SYS_AONCNT + 1)

/-- TIME is stepped to an instant, nanoseconds (R26, R31). -/
def State.stepTime (s : State) (ns : Nat) : State :=
  { s with tm := { s.tm with acc := ns * unitsPerNs, slew := 0, rate := 0 } }

/-- The phase error of an edge at TIME t, ns: t less the nearest whole second (R27). -/
def phaseError (t : Int) : Int := let r := t % 1000000000; if r ≤ 500000000 then r else r - 1000000000

/-- TRIM after an edge with error e: from where it stands toward the frequency that nulls e, which removes e nanoseconds in the
next second (e ppb, 10 e units). How far it moves is not stated: the free value k picks one of the steps of 0.1 ppb on the way,
both ends included (R27, R30, log 36). -/
def trimToward (trim e : Int) (k : Nat) : Int := trim - Int.sign e * (k % (10 * e.natAbs + 1) : Nat)

/-- A used edge of TRACK, LOCKED or HOLDOVER (R27, R29). -/
def State.ppsUsed (s : State) (e : Int) : State :=
  let f := s.takeFree
  let s := f.2.setTrim (trimToward f.2.trim e f.1.toNat)
  let st := if s.dget SYS_TIMESTAT_STATE = timeHoldover then timeTrack else s.dget SYS_TIMESTAT_STATE
  let good := if e.natAbs ≤ 20 then s.tm.good + 1 else 0
  let st := if st = timeLocked ∧ 100 < e.natAbs then timeTrack
    else if st = timeTrack ∧ 8 ≤ good ∧ s.dget SYS_TIMESTAT_DEGRADED = 0 then timeLocked
    else st
  let s := (s.dput SYS_TIMESTAT_LAST_ERR (e % 2 ^ 32).toNat).dput SYS_TIMESTAT_STATE st
  { s with tm := { s.tm with slew := -e * unitsPerNs, rate := max (-10000) (min 10000 (-10 * e)), good := good, lastEdge := some s.clk } }

/-- An outlier (R27): counted and not used, so it is no accepted edge for LAST_ERR, for the 1.5 s of R29 or to leave HOLDOVER
(log 37); its |e| lies above 100 ns and above 20 ns, so LOCKED returns to TRACK and the run of good edges ends. -/
def State.ppsOutlier (s : State) : State :=
  let s := s.dinc SYS_TIMESTAT_REJECTS
  let s := if s.dget SYS_TIMESTAT_STATE = timeLocked then s.dput SYS_TIMESTAT_STATE timeTrack else s
  { s with tm := { s.tm with good := 0 } }

/-- PPS_EDGE (R25 to R27, R29). At the armed edge LAST_ERR becomes 0, since TIME is set exactly (DESIGN CHOICE, log 37). -/
def execPpsEdge (rising short : Bool) (s : State) : Out :=
  let s := s.modPins (fun p => { p with pps := rising })
  if s.dget SYS_TIMESET_PPS_EN = 0 ∨ (rising = (s.dget SYS_TIMESET_PPS_POL == 1)) then .next s
  else if short then .next (s.dinc SYS_TIMESTAT_REJECTS)
  else
    let st := s.dget SYS_TIMESTAT_STATE
    let dly := s.dget SYS_TIMESET_PPS_DLY
    if st = timeFree then .next s
    else if st = timeArmed then
      let s := (((s.stepTime (s.dget SYS_TIMESET_SEC * 1000000000 + dly)).dput SYS_TIMESET_ARM 0).dput SYS_TIMESTAT_STATE
        timeTrack).dput SYS_TIMESTAT_LAST_ERR 0
      .next { s with tm := { s.tm with good := 0, lastEdge := some s.clk } }
    else
      let e := phaseError ((s.time.toNat : Int) - dly)
      if 1000000 < e.natAbs then .next s.ppsOutlier else .next (s.ppsUsed e)

/-- PPS_LOST (R29): from TRACK and LOCKED; an ARMED time base waits for its edge as long as it takes (DESIGN CHOICE, log 37). -/
def execPpsLost (s : State) : Out :=
  let st := s.dget SYS_TIMESTAT_STATE
  match s.tm.lastEdge with
  | some t =>
    if (st = timeTrack ∨ st = timeLocked) ∧ t + 1500 * msTicks < s.clk then
      let s := (s.dput SYS_TIMESTAT_STATE timeHoldover).count 38 unitDev
      .next { s with tm := { s.tm with good := 0 } }
    else .next s
  | none => .next s

/-- A write of SYS_TIMESET (R26): with PPS_EN and ARM the time base is armed. A write without them leaves STATE as it is, also
ARMED, whose next accepted edge then steps TIME to the SEC written last (DESIGN CHOICE, log 37). -/
def State.timeset (s : State) (v : W64) : State :=
  let s := s.setDreg SYS_TIMESET (v &&& (match devRow SYS_TIMESET with | some r => BitVec.ofNat 64 r.rw | none => 0))
  if SYS_TIMESET_PPS_EN.get v = 1 ∧ SYS_TIMESET_ARM.get v = 1 then s.dput SYS_TIMESTAT_STATE timeArmed else s

end Sys2Proof.Machine
end

