-- ==== Sys2Proof/Machine/Wcet.lean ====
section
/-! DEFINITION. The loader's program check: the control-flow rules of R108 and the worst case of R47, R48 and R109. -/

namespace Sys2Proof.Machine

open Sys2Proof

/-- The longest path from an address: its cycles, its commit entries, and whether it holds a LOOP. -/
structure Path where
  cyc : Nat
  ent : Nat
  loop : Bool
  deriving DecidableEq, Repr

/-- The region an address is judged in (R108). -/
inductive Region where
  | main | sub | body (inSub : Bool)
  deriving DecidableEq, Repr

/-- The worse of two paths in each figure: cycles and entries are maxima over all paths (R47, R48). -/
def Path.worse (a b : Path) : Path := { cyc := max a.cyc b.cyc, ent := max a.ent b.ent, loop := a.loop || b.loop }

/-- A path preceded by an instruction of the given cost. -/
def Path.after (a : Path) (c e : Nat) : Path := { a with cyc := c + a.cyc, ent := e + a.ent }

/-- The worst of a list of successors; malformed when one of them is. -/
def worst : List (Option Path) → Option Path
  | [] => none
  | [x] => x
  | x :: xs => match x, worst xs with | some a, some b => some (a.worse b) | _, _ => none

/-- The target, count and table size fields of a control-flow word (R64, R81 to R84). -/
def immTarget (w : W64) : Nat := w.toNat % 2 ^ 13
def loopCount (w : W64) : Nat := (w.toNat >>> 16) % 2 ^ 12
def stepSize (w : W64) : Nat := w.toNat % 2 ^ 10
def waitTime (w : W64) : Nat := w.toNat % 2 ^ 12
def modOf (w : W64) : Nat := (w.toNat >>> 32) % 64
def opcN (w : W64) : Nat := (opcOf w).toNat

/-- Cycles and entries of an instruction that falls through (R79, R109); APPLY with mode 3 creates no entry (R43). -/
def plainCost (w : W64) : Nat × Nat :=
  match opcN w with
  | 0x01 => (1 + waitTime w, 0)
  | 0x16 | 0x19 | 0x1A => (4, 0)
  | 0x07 | 0x31 | 0x33 | 0x37 => (1, 1)
  | 0x35 => (1, if modOf w % 4 = 3 then 0 else 1)
  | 0x38 => (1, if modOf w / 2 % 2 = 1 then 1 else 0)
  | _ => (1, 0)

/-- The result at an address of a list that starts at address a + 1. -/
def resultAt (m : List (Option Path)) (a t : Nat) : Option Path := if a < t then (m[t - a - 1]?).getD none else none

/-- The result of falling through: the next address, or the end of a LOOP body after its last word (R83). -/
def fallThrough (r : Region) (m : List (Option Path)) : Option Path :=
  match m, r with
  | [], .body _ => some { cyc := 0, ent := 0, loop := false }
  | [], _ => none
  | x :: _, _ => x

/-- Whether address a lies in the body of one of the LOOPs. -/
def inBodies (bs : List (Nat × Nat)) (a : Nat) : Bool := bs.any (fun b => decide (b.1 ≤ a) && decide (a ≤ b.2))

/-- Fold a region backwards: f gives the result at an address from its word, the words after it and their results. -/
def foldBack (f : Nat → W64 → List W64 → List (Option Path) → Option Path) : Nat → List W64 → List (Option Path)
  | _, [] => []
  | a, w :: t => let m := foldBack f (a + 1) t; f a w t m :: m

/-- BR (R81): F bits 31 to 29 read 0, so a BR on them goes one way only. -/
def brPath (r : Region) (a : Nat) (w : W64) (m : List (Option Path)) : Option Path :=
  let bit := modOf w % 32
  let sense := modOf w / 32 % 2
  (worst ((if bit < 29 ∨ sense = 1 then [resultAt m a (immTarget w)] else []) ++
    (if bit < 29 ∨ sense = 0 then [fallThrough r m] else []))).map (·.after 1 0)

/-- STEP (R84, R109): the longest of the table's targets, each beyond the whole table. -/
def stepPath (a : Nat) (w : W64) (t : List W64) (m : List (Option Path)) : Option Path :=
  let n := stepSize w
  let tbl := t.take n
  if tbl.length < n then none
  else (worst (tbl.map (fun x => if immTarget x ≤ a + n then none else resultAt m a (immTarget x)))).map (·.after 1 0)

/-- The result of one word of a LOOP body (R108): no END, RET or LOOP, and a CALL only to a subroutine without LOOP. -/
def bodyStep (inSub : Bool) (subs : List (Option Path)) (a : Nat) (w : W64) (t : List W64) (m : List (Option Path)) : Option Path :=
  match opcN w with
  | 0x08 | 0x04 | 0x05 => none
  | 0x02 => brPath (.body inSub) a w m
  | 0x06 => stepPath a w t m
  | 0x03 =>
    if inSub then none
    else match (subs[immTarget w]?).getD none, fallThrough (.body inSub) m with
      | some s, some x => if s.loop then none else some (x.after (1 + s.cyc) s.ent)
      | _, _ => none
  | _ => (fallThrough (.body inSub) m).map (·.after ((plainCost w).1 + (plainCost w).2) (plainCost w).2)

/-- A LOOP at address a (R83, R109): count times its body, then the word after the body. -/
def loopPath (inSub : Bool) (subs : List (Option Path)) (a : Nat) (w : W64) (t : List W64) (m : List (Option Path)) : Option Path :=
  let l := immTarget w
  let body := t.take (l - a)
  if body.length < l - a then none
  else match (foldBack (bodyStep inSub subs) (a + 1) body).head?.getD none, resultAt m a (l + 1) with
    | some b, some x => some { cyc := 1 + loopCount w * b.cyc + x.cyc, ent := loopCount w * b.ent + x.ent, loop := true }
    | _, _ => none

/-- The result of one word of the main path or of a subroutine; cycle figures include the entries (R47). -/
def flowStep (sub : Bool) (subs : List (Option Path)) (bs : List (Nat × Nat)) (a : Nat) (w : W64) (t : List W64)
    (m : List (Option Path)) : Option Path :=
  let r : Region := if sub then .sub else .main
  if inBodies bs a then none
  else match opcN w with
  | 0x08 => if sub then none else some { cyc := 1, ent := 0, loop := false }
  | 0x04 => if sub then some { cyc := 1, ent := 0, loop := false } else none
  | 0x02 => brPath r a w m
  | 0x06 => stepPath a w t m
  | 0x05 => loopPath sub subs a w t m
  | 0x03 =>
    if sub then none
    else match (subs[immTarget w]?).getD none, fallThrough r m with
      | some s, some x => some (x.after (1 + s.cyc) s.ent)
      | _, _ => none
  | _ => (fallThrough r m).map (·.after ((plainCost w).1 + (plainCost w).2) (plainCost w).2)

/-- Which words are instructions: the table words after a STEP are not (R84). -/
def marks : Nat → List W64 → List Bool
  | _, [] => []
  | k + 1, _ :: t => false :: marks k t
  | 0, w :: t => true :: marks (if opcN w = 6 then stepSize w else 0) t

/-- A word that R108 rejects wherever it stands. -/
def badWord (a : Nat) (w : W64) (t : List W64) : Bool :=
  match opcN w with
  | 0x01 => waitTime w == 0
  | 0x02 => decide (immTarget w ≤ a)
  | 0x05 => decide (immTarget w ≤ a) || loopCount w == 0
  | 0x06 => stepSize w == 0 || (t.take (stepSize w)).any (fun x => decide (immTarget x ≤ a + stepSize w))
  | _ => false

/-- Every instruction word of a program passes badWord. -/
def badWords : Nat → List W64 → List Bool → Bool
  | a, w :: t, i :: is => (i && badWord a w t) || badWords (a + 1) t is
  | _, _, _ => false

/-- The instruction words of a program with their addresses. -/
def instrWords (ws : List W64) : List (Nat × W64) :=
  ((ws.zipIdx).zip (marks 0 ws)).filterMap (fun x => if x.2 then some (x.1.2, x.1.1) else none)

/-- The longest path of a program from its entry word, or none for a malformed program (R108). -/
def programPath (ws : List W64) : Option Path :=
  let is := instrWords ws
  let bs := (is.filter (fun x => opcN x.2 == 5)).map (fun x => (x.1 + 1, immTarget x.2))
  let inside := is.any (fun x => (opcN x.2 == 4 || opcN x.2 == 5 || opcN x.2 == 8) && inBodies bs x.1)
  if ws.any (fun w => !listedOpcode (opcOf w)) || badWords 0 ws (marks 0 ws) || inside then none
  else
    let subs := foldBack (flowStep true [] bs) 0 ws
    ((foldBack (flowStep false subs bs) 0 ws).head?).getD none

/-- The limit of R48 for a tick period in base ticks. -/
def wcetLimit (per : Nat) : Nat := min (4 * per / 5) 6400

/-- The verdict of R48: REASON of ENGINE_LOADDIAG, W, and the largest entry count. -/
def judgeProgram (ws : List W64) (per : Nat) : Nat × Nat × Nat :=
  match programPath ws with
  | none => (3, 0, 0)
  | some p =>
    let w := 2 + p.cyc
    if wcetLimit per < w then (1, w, p.ent) else if 128 < p.ent then (2, w, p.ent) else (0, w, p.ent)

/-- A figure as a register field of b bits holds it; a figure beyond the field is not stated (log 9). -/
def State.figure (s : State) (b x : Nat) : State × Nat :=
  if x < 2 ^ b then (s, x) else ((s.takeFree).2, (s.takeFree).1.toNat % 2 ^ b)

/-- ENGINE_LOADDIAG after a check for axis n (R48, R49, R62). -/
def State.loadDiag (s : State) (n : Ax) (v : Nat × Nat × Nat) (per : Nat) : State :=
  let w := s.figure 16 v.2.1
  let e := w.1.figure 8 v.2.2
  e.1.setDreg ENGINE_LOADDIAG (ENGINE_LOADDIAG_REASON.put (ENGINE_LOADDIAG_COMMITS.put (ENGINE_LOADDIAG_AXIS.put
    (ENGINE_LOADDIAG_LIMIT.put (ENGINE_LOADDIAG_WCET.put 0 w.2) (wcetLimit per)) n.val) e.2) v.1)

end Sys2Proof.Machine
end

