-- ==== Sys2Proof/Machine/Codes.lean ====
section
/-! DEFINITION. The codes of the OL864: the Hsiao code of words (R335), CRC-8 (R330), CRC-32C (R336), and the HMAC-SHA-256
tag of Caravans (R344, R376). -/

namespace Sys2Proof.Machine

open Sys2Proof

/-! ### The Hsiao (72,64) code (R335) -/

/-- The values of weight k below 256, ascending. -/
def weightValues (k : Nat) : List Nat :=
  (List.range 256).filter (fun v => ((List.range 8).filter (fun b => v.testBit b)).length == k)

/-- The column of payload bit i: weight three for bits 0 to 55, the eight smallest of weight five above. -/
def hsiaoColumns : List Nat := weightValues 3 ++ (weightValues 5).take 8

/-- The columns as a literal. -/
def hsiaoTable : List Nat := [
  0x07, 0x0B, 0x0D, 0x0E, 0x13, 0x15, 0x16, 0x19, 0x1A, 0x1C, 0x23, 0x25, 0x26, 0x29, 0x2A, 0x2C,
  0x31, 0x32, 0x34, 0x38, 0x43, 0x45, 0x46, 0x49, 0x4A, 0x4C, 0x51, 0x52, 0x54, 0x58, 0x61, 0x62,
  0x64, 0x68, 0x70, 0x83, 0x85, 0x86, 0x89, 0x8A, 0x8C, 0x91, 0x92, 0x94, 0x98, 0xA1, 0xA2, 0xA4,
  0xA8, 0xB0, 0xC1, 0xC2, 0xC4, 0xC8, 0xD0, 0xE0, 0x1F, 0x2F, 0x37, 0x3B, 0x3D, 0x3E, 0x4F, 0x57]

/-- The check byte of a payload. -/
def hsiao (w : W64) : Byte :=
  (hsiaoTable.zipIdx).foldl (fun c x => if w.getLsbD x.2 then c ^^^ BitVec.ofNat 8 x.1 else c) 0

/-- What a received word decodes to: the payload, or the corrected payload, or nothing. -/
inductive Decoded where
  | clean (w : W64)
  | corrected (w : W64)
  | bad
  deriving DecidableEq, Repr

/-- Decode a payload with its check byte: a single-bit error is corrected, any other non-zero syndrome is uncorrectable. -/
def hsiaoDecode (w : W64) (check : Byte) : Decoded :=
  let syn := hsiao w ^^^ check
  if syn = 0 then .clean w
  else if ([0, 1, 2, 3, 4, 5, 6, 7] : List Nat).any (fun j => syn == (1 : Byte) <<< j) then .corrected w
  else match hsiaoTable.findIdx? (fun c => syn == BitVec.ofNat 8 c) with
    | some i => .corrected (w ^^^ ((1 : W64) <<< i))
    | none => .bad

/-! ### Cyclic checks -/

/-- CRC-8 of R330 over the bits of bytes, most significant bit first: polynomial 0x2F, initial value and final XOR 0xFF. -/
def crc8Bits : Nat → Byte → Byte
  | 0, r => r
  | k + 1, r => crc8Bits k (if r.getLsbD 7 then (r <<< 1) ^^^ 0x2F else r <<< 1)
def crc8 (bs : List Byte) : Byte := (bs.foldl (fun r b => crc8Bits 8 (r ^^^ b)) 0xFF) ^^^ 0xFF

/-- CRC-32C of R336: polynomial 0x1EDC6F41 reflected, initial value and final XOR 0xFFFFFFFF. -/
def crc32Bits : Nat → W32 → W32
  | 0, r => r
  | k + 1, r => crc32Bits k (if r.getLsbD 0 then (r >>> 1) ^^^ 0x82F63B78 else r >>> 1)
def crc32c (bs : List Byte) : W32 :=
  (bs.foldl (fun r b => crc32Bits 8 (r ^^^ b.setWidth 32)) 0xFFFFFFFF) ^^^ 0xFFFFFFFF

/-- The payload bytes of words, most significant byte first. -/
def bytesOf (ws : List W64) : List Byte := ws.flatMap wordBytes

/-- A word from eight bytes, most significant first. -/
def wordOf (bs : List Byte) : W64 := bs.foldl (fun w b => (w <<< 8) ||| b.setWidth 64) 0

/-! ### SHA-256 and HMAC -/

/-- The greatest r with r^k at most n, found bit by bit from the top: the bits below i are still open. -/
def rootBelow (k n : Nat) : Nat → Nat → Nat
  | 0, r => r
  | i + 1, r => rootBelow k n i (if (r + 2 ^ i) ^ k ≤ n then r + 2 ^ i else r)

/-- The first 32 fraction bits of the k-th root of p, the source of every SHA-256 constant. -/
def rootFraction (k p : Nat) : W32 := BitVec.ofNat 32 (rootBelow k (p * 2 ^ (32 * k)) 36 0)

/-- The first 64 primes. -/
def shaPrimes : List Nat := [
  2, 3, 5, 7, 11, 13, 17, 19, 23, 29, 31, 37, 41, 43, 47, 53, 59, 61, 67, 71, 73, 79, 83, 89, 97, 101, 103, 107, 109, 113,
  127, 131] ++ [137, 139, 149, 151, 157, 163, 167, 173, 179, 181, 191, 193, 197, 199, 211, 223, 227, 229, 233, 239, 241, 251,
  257, 263, 269, 271, 277, 281, 283, 293, 307, 311]

/-- Four of the eight words a block works on. -/
structure Quad where
  w0 : W32
  w1 : W32
  w2 : W32
  w3 : W32
  deriving DecidableEq, Repr

/-- A new word enters in front, the last one leaves. -/
def Quad.push (q : Quad) (x : W32) : Quad := ⟨x, q.w0, q.w1, q.w2⟩
def Quad.add (p q : Quad) : Quad := ⟨p.w0 + q.w0, p.w1 + q.w1, p.w2 + q.w2, p.w3 + q.w3⟩

/-- The XOR of a word's rotations to the right. -/
def rotations (rs : List Nat) (x : W32) : W32 := rs.foldl (fun y r => y ^^^ x.rotateRight r) 0

/-- The word that follows sixteen words of a block's schedule. -/
def shaNext (w : List W32) : W32 :=
  let lo := w.getD 1 0
  let hi := w.getD 14 0
  w.headD 0 + w.getD 9 0 + (rotations [7, 18] lo ^^^ lo >>> 3) + (rotations [17, 19] hi ^^^ hi >>> 10)

/-- The rounds of a block, one for each constant, over the sixteen words of the schedule that are next. -/
def shaRounds : List W32 → List W32 → Quad × Quad → Quad × Quad
  | [], _, q => q
  | k :: ks, w, (p, q) =>
    let choice := q.w2 ^^^ (q.w0 &&& (q.w1 ^^^ q.w2))
    let major := (p.w0 &&& (p.w1 ||| p.w2)) ||| (p.w1 &&& p.w2)
    let t := q.w3 + rotations [6, 11, 25] q.w0 + choice + k + w.headD 0
    shaRounds ks (w.drop 1 ++ [shaNext w]) (p.push (t + rotations [2, 13, 22] p.w0 + major), q.push (p.w3 + t))

/-- Four bytes as a word, most significant first. -/
def word32 (bs : List Byte) : W32 := bs.foldl (fun w b => (w <<< 8) ||| b.setWidth 32) 0

/-- A block of sixteen words is taken into the digest. -/
def shaBlock (q : Quad × Quad) (w : List W32) : Quad × Quad :=
  let r := shaRounds (shaPrimes.map (rootFraction 3)) w q
  (q.1.add r.1, q.2.add r.2)

/-- A list of words as n blocks. -/
def shaBlocks : Nat → Quad × Quad → List W32 → Quad × Quad
  | 0, q, _ => q
  | n + 1, q, ws => shaBlocks n (shaBlock q (ws.take 16)) (ws.drop 16)

/-- n words from bytes. -/
def words32 : Nat → List Byte → List W32
  | 0, _ => []
  | n + 1, bs => word32 (bs.take 4) :: words32 n (bs.drop 4)

/-- The digest before the first block. -/
def shaStart : Quad × Quad :=
  let f := rootFraction 2
  (⟨f 2, f 3, f 5, f 7⟩, ⟨f 11, f 13, f 17, f 19⟩)

/-- SHA-256 of a byte string: filled with a one bit, zeros and its length in bits to whole blocks of 64 bytes. -/
def sha256 (bs : List Byte) : List Byte :=
  let blocks := (bs.length + 72) / 64
  let m := bs ++ (0x80 :: List.replicate (64 * blocks - 9 - bs.length) 0) ++ wordBytes (BitVec.ofNat 64 (8 * bs.length))
  let d := shaBlocks blocks shaStart (words32 (16 * blocks) m)
  [d.1.w0, d.1.w1, d.1.w2, d.1.w3, d.2.w0, d.2.w1, d.2.w2, d.2.w3].flatMap (fun w =>
    (wordBytes (w.setWidth 64)).drop 4)

/-- HMAC-SHA-256 with a key of at most 64 bytes. -/
def hmac (key msg : List Byte) : List Byte :=
  let k := key ++ List.replicate (64 - key.length) 0
  sha256 (k.map (· ^^^ 0x5C) ++ sha256 (k.map (· ^^^ 0x36) ++ msg))

end Sys2Proof.Machine
end

