-- ==== Sys2Proof/Machine/FuseOps.lean ====
section
/-! DEFINITION. One-time-programmable fuses (chapter 15): the array, the shadow and its fields, programming, seals. -/

namespace Sys2Proof.Machine

open Sys2Proof

/-! ### Words (R372, R373) -/

/-- A word that reads 0 at every margin. -/
def blankRead : FuseRead := { normal := 0, high := 0, low := 0 }

/-- The raw reads of a word. -/
def State.fuseWord (s : State) (w : Nat) : FuseRead := (s.fuses.array.lookup w).getD blankRead

/-- The payload and the check byte of a raw read. -/
def rawPayload (r : BitVec 72) : W64 := (r >>> 8).setWidth 64
def rawCheck (r : BitVec 72) : Byte := r.setWidth 8
/-- A raw word from its payload and check byte. -/
def rawWord (p : W64) (c : Byte) : BitVec 72 := p ++ c

/-- COMMIT reads set; a word neither blank nor committed is torn; the three reads agree (R372, R378). -/
def readCommitted (r : FuseRead) : Bool := r.normal.getLsbD 71
def readTorn (r : FuseRead) : Bool := !readCommitted r && r.normal != 0
def readAgree (r : FuseRead) : Bool := r.normal == r.high && r.normal == r.low

/-- The same read at all three margins. -/
def sureRead (x : BitVec 72) : FuseRead := { normal := x, high := x, low := x }

/-- Replace the reads of a word, keeping the list ascending; a blank word is not listed. -/
def setFuse (w : Nat) (r : FuseRead) (l : List (Nat × FuseRead)) : List (Nat × FuseRead) :=
  l.filter (fun x => x.1 < w) ++ (if r = blankRead then [] else [(w, r)]) ++ l.filter (fun x => w < x.1)

/-- What the shadow makes of a word (R378): its content, and whether it is corrected, marginal or torn. -/
structure Judgement where
  word : ShadowWord
  corr : Bool
  marg : Bool
  torn : Bool
  deriving DecidableEq, Repr

/-- The shadow's judgement of a word's three reads (R373, R378). -/
def judgeFuse (r : FuseRead) : Judgement :=
  let raw := rawPayload r.normal
  if readTorn r then { word := { payload := raw, committed := false, marginal := false }, corr := false, marg := false, torn := true }
  else if readCommitted r then
    match hsiaoDecode raw (rawCheck r.normal) with
    | .clean w => { word := { payload := w, committed := true, marginal := !(readAgree r) }, corr := false, marg := !(readAgree r), torn := false }
    | .corrected w =>
      { word := { payload := w, committed := true, marginal := !(readAgree r) }, corr := readAgree r, marg := !(readAgree r), torn := false }
    | .bad => { word := { payload := raw, committed := false, marginal := true }, corr := false, marg := true, torn := false }
  else { word := { payload := raw, committed := false, marginal := !(readAgree r) }, corr := false, marg := !(readAgree r), torn := false }

/-- A word of the shadow. -/
def State.shadow (s : State) (w : Nat) : ShadowWord :=
  (s.fuses.shadow.lookup w).getD { payload := 0, committed := false, marginal := false }

/-! ### Field records (R374 to R377) -/

def fuseFid (p : W64) : Nat := (p.toNat >>> 56) % 128
def fusePart (p : W64) : Nat := (p.toNat >>> 52) % 16
def fuseParts (p : W64) : Nat := (p.toNat >>> 48) % 16
def fuseValue (p : W64) : Nat := p.toNat % 2 ^ 48

/-- Parts of the listed fields (R376): six for KEY, one for every other; none for an FID not listed. -/
def listedParts (f : Nat) : Nat := if f = 14 then 6 else if 1 ≤ f ∧ f ≤ 13 then 1 else 0

/-- A complete set of field f starts at word w of the shadow (R375); PARTS must be the field's (log 16). -/
def State.setAt (s : State) (f w : Nat) : Bool :=
  let k := listedParts f
  k != 0 && decide (w + k ≤ 224) && (List.range k).all (fun i =>
    let x := s.shadow (w + i)
    x.committed && fuseFid x.payload == f && fusePart x.payload == i && fuseParts x.payload == k - 1)

/-- The last complete set of field f: its first word (R375). -/
def State.fuseSet (s : State) (f : Nat) : Option Nat :=
  ((List.range 160).map (64 + ·)).reverse.find? (fun w => s.setAt f w)

/-- The effective value of part 0 of a field: what FUSE_FLDf reads (R390). -/
def State.fld (s : State) (f : Nat) : Nat := s.dget (FUSE_FLD_VALUE f)

/-- The key of Caravans as 32 bytes, when a complete set exists (R376). -/
def State.fuseKey (s : State) : Option (List Byte) :=
  match s.fuseSet 14 with
  | some w =>
    let k := (List.range 6).foldl (fun k i => k + fuseValue (s.shadow (w + i)).payload * 2 ^ (48 * i)) 0
    some ((List.range 32).map (fun i => BitVec.ofNat 8 (k >>> (8 * (31 - i)))))
  | none => none

/-- The registers that the fields give (R375, R390). -/
def State.loadFields (s : State) : State :=
  let s := (List.range 14).foldl (fun s i =>
    let f := i + 1
    match s.fuseSet f with
    | some w => s.setDreg (FUSE_FLD f) ((FUSE_FLD_SET f).put ((FUSE_FLD_WORD f).put ((FUSE_FLD_VALUE f).put 0
        (if f = 14 then 0 else fuseValue (s.shadow w).payload)) w) 1)
    | none => s.setDreg (FUSE_FLD f) (devReset (FUSE_FLD f))) s
  s.dput FUSE_STAT_KEY (if (s.fuseSet 14).isSome then 1 else 0)

/-! ### Seals (R379, R385 to R388) -/

/-- The digest of words a to b from their payloads (R385). -/
def fuseDigest (payload : Nat → W64) (a b : Nat) : W32 := crc32c (bytesOf ((List.range (b + 1 - a)).map (fun i => payload (a + i))))

/-- A lock bit of a seal word reads 1 at some margin (R379). -/
def lockBlown (r : FuseRead) : Bool := (((r.normal ||| r.high) ||| r.low) >>> 56) &&& 0xFF != 0

/-- What one seal slot locks (R387): the first and last word, and whether the region reads INCOMPLETE_SEAL. -/
def State.sealAt (s : State) (slot : Nat) : Option (Nat × Nat × Bool) :=
  let r := s.fuseWord slot
  if lockBlown r then
    let x := s.shadow slot
    if x.committed then
      let a := (x.payload.toNat >>> 40) % 256
      let b := (x.payload.toNat >>> 32) % 256
      some (a, b, x.payload.setWidth 32 != fuseDigest (fun w => (s.shadow w).payload) a b)
    else if slot = 224 then some (0, 63, true) else some (64, 223, true)
  else none

/-- Integrator seal slots that are not blank, counted from 225. -/
def State.sealsUsed (s : State) : Nat :=
  ((List.range 31).map (225 + ·)).foldl (fun m w => if (s.fuseWord w).normal = 0 then m else w - 224) 0

/-- The next integrator slot: after the last word that is not blank (R372). -/
def State.nextSlot (s : State) : Nat :=
  ((List.range 160).map (64 + ·)).foldl (fun m w => if (s.fuseWord w).normal = 0 then m else w + 1) 64

/-- The seal state of a region from what its seals give: 0 open, 1 sealed, 2 INCOMPLETE_SEAL. -/
def sealState (l : List (Nat × Nat × Bool)) : Nat := if l.isEmpty then 0 else if l.any (fun x => x.2.2) then 2 else 1

/-- The seals are evaluated (R387). -/
def State.loadSeals (s : State) : State :=
  let v := (s.sealAt 224).toList
  let i := ((List.range 31).map (225 + ·)).filterMap s.sealAt
  let fin := i.foldl (fun m x => max m (min x.2.1 223)) 63
  ((((s.dput FUSE_STAT_VSEAL (sealState v)).dput FUSE_STAT_ISEAL (sealState i)).dput FUSE_STAT_LOCKEND fin).dput
    FUSE_STAT_SLEFT (31 - s.sealsUsed)).dput FUSE_STAT_NEXT s.nextSlot

/-! ### The shadow load (R378) -/

/-- The shadow is loaded from the array at power-on reset; torn, marginal and corrected words are counted once per word. -/
def State.loadShadow (s : State) : State :=
  let js := s.fuses.array.map (fun x => (x.1, judgeFuse x.2))
  let s := { s with fuses := { s.fuses with shadow := js.map (fun (x : Nat × Judgement) => (x.1, x.2.word)), since := [], busy := none, stop := 0,
                                            rereadDue := false } }
  let n := fun (f : Judgement → Bool) => (js.filter (fun x => f x.2)).length
  let s := js.foldl (fun s x =>
    let s := if x.2.torn then s.count 34 unitDev else s
    if x.2.marg then s.count 32 unitDev else s) s
  let s := ((s.setDreg FUSE_STAT 0).dput FUSE_STAT_TORN (min (n (·.torn)) 255)).dput FUSE_STAT_MARG (min (n (·.marg)) 255)
  (((s.dput FUSE_STAT_CORR (min (n (·.corr)) 255)).loadFields).loadSeals)

/-! ### The reread (R380) -/

/-- FUSE_REREAD (R380): the words whose reads differ from what the array held; every word not programmed since the shadow
load is compared with the shadow. -/
def execFuseReread (changed : List (Byte × FuseRead)) (s : State) : Out :=
  if s.fuses.rereadDue = true ∧ s.fuses.busy.isNone = true then
    let arr := changed.foldl (fun l x => setFuse x.1.toNat x.2 l) s.fuses.array
    let before := fun (w : Nat) => lockBlown (s.fuseWord w)
    let s := { s with fuses := { s.fuses with array := arr, rereadDue := false } }
    let s := ((List.range 256).filter (fun w => !s.fuses.since.contains w)).foldl (fun s w =>
      let x := s.shadow w
      let j := (judgeFuse (s.fuseWord w)).word
      if j.payload ≠ x.payload ∨ j.committed ≠ x.committed then s.count 33 unitDev
      else if j.marginal && !x.marginal then
        let s := s.count 32 unitDev
        let l := s.fuses.shadow.filter (fun (y : Nat × ShadowWord) => y.1 < w) ++ [(w, { x with marginal := true })] ++
          s.fuses.shadow.filter (fun (y : Nat × ShadowWord) => w < y.1)
        { s with fuses := { s.fuses with shadow := l } }
      else s) s
    .next (((List.range 32).map (224 + ·)).foldl (fun s w =>
      if lockBlown (s.fuseWord w) && !before w then
        if w = 224 then s.dput FUSE_STAT_VSEAL 2 else (s.dput FUSE_STAT_LOCKEND 223).dput FUSE_STAT_ISEAL 2
      else s) s)
  else .next s

/-! ### Commands (R381 to R389) -/

/-- The next slots of a kind that pass the strict-low blank check, n of them, from a slot below a bound; the slots skipped
are counted (R383). -/
def State.blankSlots (s : State) (bound : Nat) : Nat → Nat → Nat → List Nat × Nat × Nat
  | 0, w, _ => ([], w, 0)
  | fuel + 1, w, n =>
    if n = 0 ∨ bound ≤ w then ([], w, 0)
    else if (s.fuseWord w).low = 0 then
      let r := State.blankSlots s bound fuel (w + 1) (n - 1)
      (w :: r.1, r.2.1, r.2.2)
    else
      let r := State.blankSlots s bound fuel (w + 1) n
      (r.1, r.2.1, r.2.2 + 1)

/-- The raw word that programming a payload leaves: COMMIT set, check bits of the payload with COMMIT (R383). -/
def programmed (p : W64) : BitVec 72 := let q := p ||| ((1 : W64) <<< 63); rawWord q (hsiao q)

/-- The reads of a word change by programming. -/
def State.burn (s : State) (w : Nat) (x : BitVec 72) : State :=
  { s with fuses := { s.fuses with array := setFuse w (sureRead x) s.fuses.array, since := s.fuses.since ++ [w] } }

/-- FUSE_RES.REASON. -/
def State.fuseReason (s : State) (r : Nat) : State := s.dput FUSE_RES_REASON r

/-- The band and VSUP preconditions of R382: REASON, 0 when both hold. -/
def State.fuseReady (s : State) : Nat := if !s.bandOk then 1 else if !s.vsupOk then 2 else 0

/-- A PROGRAM data word that R382 rejects. -/
def badFuseData (p : W64) : Bool := p.getLsbD 63 || fuseFid p == 0 || decide (fuseParts p < fusePart p)

/-- The payloads of a PROGRAM of port p. -/
def State.fuseWords (s : State) (p : Port) (cnt : Nat) : List W64 := (s.port p).fuseData.toList.take (cnt + 1)

/-- The verdict on a PROGRAM (R382, R388): a status with its REASON, or none when it may run. -/
def State.programCheck (s : State) (p : Port) (cnt : Nat) : Option (Byte × Nat) :=
  if (s.fuseWords p cnt).any badFuseData then some (stBadFrame, 0)
  else if s.fuseReady ≠ 0 then some (stNotPermitted, s.fuseReady)
  else if s.dget FUSE_STAT_NEXT ≤ s.dget FUSE_STAT_LOCKEND then some (stNotPermitted, 3)
  else if 224 < s.dget FUSE_STAT_NEXT + cnt + 1 then some (stNotPermitted, 4)
  else none

/-- The payload that enters a seal's digest: normal margin, corrected where committed (R385). -/
def State.sealPayload (s : State) (w : Nat) : W64 := (judgeFuse (s.fuseWord w)).word.payload

/-- A word that no seal may cover: its reads disagree, or its read is uncorrectable (R385). -/
def State.unsealable (s : State) (w : Nat) : Bool :=
  let r := s.fuseWord w
  !(readAgree r) || (readCommitted r && hsiaoDecode (rawPayload r.normal) (rawCheck r.normal) == .bad)

/-- The verdict on a SEAL (R385). -/
def State.sealCheck (s : State) (p : Port) : Option (Byte × Nat) :=
  let a := FUSE_ADDR_ADDR.get (s.port p).fuseAddr
  if s.fuseReady ≠ 0 then some (stNotPermitted, s.fuseReady)
  else if a ≤ s.dget FUSE_STAT_LOCKEND ∨ 223 < a then some (stBadFrame, 0)
  else if ((List.range (a - 63)).map (64 + ·)).any s.unsealable then some (stNotPermitted, 6)
  else if ((s.port p).fuseData[0]).setWidth 32 ≠ fuseDigest s.sealPayload 64 a then some (stNotPermitted, 5)
  else if s.dget FUSE_STAT_SLEFT = 0 then some (stNotPermitted, 4)
  else none

/-- READ (R389, R377): the raw payload and check byte of a word at a margin. -/
def State.fuseReadNow (s : State) (p : Port) : State :=
  let a := (s.port p).fuseAddr
  let r := s.fuseWord (FUSE_ADDR_ADDR.get a)
  let x := match FUSE_ADDR_MARGIN.get a with | 1 => r.high | 2 => r.low | _ => r.normal
  let pl := rawPayload x
  let pl := if fuseFid (rawPayload r.normal) = 14 ∨ fuseFid pl = 14 then pl &&& ~~~(BitVec.ofNat 64 (2 ^ 48 - 1)) else pl
  ((s.setDreg FUSE_RDATA pl).dput FUSE_RES_CHECK (rawCheck x).toNat).fuseReason 0

/-- A write of FUSE_CMD by port p (R381, R382, R385, R389): its status when it completes at once. -/
def State.fuseCmd (s : State) (p : Port) (tag : W16) (v : W64) : State × Option Byte :=
  let op := FUSE_CMD_OP.get v
  let cnt := FUSE_CMD_CNT.get v
  if s.fuses.busy.isSome then (s.fuseReason 9, some stNotPermitted)
  else if op = 0 ∨ 5 < cnt then (s, some stBadFrame)
  else if op = 3 then (s.fuseReadNow p, some stOk)
  else
    match (if op = 1 then s.programCheck p cnt else s.sealCheck p) with
    | some (st, r) => ((if r = 0 then s else s.fuseReason r), some st)
    | none =>
      ({ s.fuseReason 0 with fuses := { s.fuses with busy := some (p, tag, BitVec.ofNat 2 op, cnt), began := s.clk, stop := 0 } }, none)

/-- The slots skipped as not blank count FUSE_TORN (R383). -/
def State.skipped (s : State) : Nat → State
  | 0 => s
  | n + 1 => (s.count 34 unitDev).skipped n

/-- The running PROGRAM ends (R383, R384): the words committed, then a torn one. -/
def State.programEnd (s : State) (p : Port) (cnt : Nat) (r : FuseEnd) : State × Byte :=
  let ws := s.fuseWords p cnt
  let b := s.blankSlots 224 160 (s.dget FUSE_STAT_NEXT) ws.length
  let n := match r with | .ok => b.1.length | .torn d _ _ => min d (min cnt b.1.length)
  let skips := (s.blankSlots 224 160 (s.dget FUSE_STAT_NEXT) (n + 1)).2.2
  let s := ((b.1.zip ws).take n).foldl (fun s x => s.burn x.1 (programmed x.2)) s
  let s := s.dput FUSE_RES_FIRSTW (b.1.headD (s.dget FUSE_STAT_NEXT))
  let s := s.dput FUSE_RES_DONE n
  match r with
  | .ok =>
    let s := (s.skipped b.2.2).dput FUSE_STAT_NEXT b.2.1
    if n = ws.length then (s, stOk) else (s.fuseReason 4, stDeviceFault)
  | .torn _ reason bits =>
    match (b.1.drop n).head?, (ws.drop n).head? with
    | some w, some x =>
      let t := bits &&& ((programmed x).setWidth 71).setWidth 72
      let s := if t = 0 then s else s.burn w t
      ((((s.skipped skips).count 34 unitDev).dput FUSE_STAT_NEXT (w + 1)).fuseReason reason.toNat, stDeviceFault)
    | _, _ => (((s.skipped b.2.2).dput FUSE_STAT_NEXT b.2.1).fuseReason 4, stDeviceFault)

/-- The payload of the seal that port p's SEAL programs (R386). -/
def State.sealWord (s : State) (p : Port) : W64 :=
  let a := FUSE_ADDR_ADDR.get (s.port p).fuseAddr
  BitVec.ofNat 64 (0xFF * 2 ^ 48 + 64 * 2 ^ 40 + a * 2 ^ 32) ||| ((s.port p).fuseData[0] &&& 0xFFFFFFFF)

/-- The running SEAL ends (R385). -/
def State.sealEnd (s : State) (p : Port) (r : FuseEnd) : State × Byte :=
  let a := FUSE_ADDR_ADDR.get (s.port p).fuseAddr
  let b := s.blankSlots 256 32 (256 - s.dget FUSE_STAT_SLEFT) 1
  match b.1.head? with
  | none => ((s.skipped b.2.2).fuseReason 4, stDeviceFault)
  | some w =>
    let s := ((s.skipped b.2.2).dput FUSE_RES_FIRSTW w).dput FUSE_STAT_SLEFT (255 - w)
    match r with
    | .ok =>
      let s := (s.burn w (programmed (s.sealWord p))).dput FUSE_STAT_LOCKEND a
      (s.dput FUSE_STAT_ISEAL (max 1 (s.dget FUSE_STAT_ISEAL)), stOk)
    | .torn _ reason bits =>
      let t := bits &&& ((programmed (s.sealWord p)).setWidth 71).setWidth 72
      let s := ((if t = 0 then s else s.burn w t).count 34 unitDev).fuseReason reason.toNat
      if lockBlown (sureRead t) then ((s.dput FUSE_STAT_LOCKEND a).dput FUSE_STAT_ISEAL 2, stDeviceFault)
      else (s, stDeviceFault)

/-- Complete a command with a status if it is still in flight. -/
def State.completeLive (s : State) (p : Port) (tag : W16) (st : Byte) (data : List W64) : State :=
  if (s.port p).cmds.any (fun c => c.tag == tag) then s.complete p tag st 15 data else s

/-- The effect of the end of a command on everything but the command. -/
def State.fuseEnd (s : State) (p : Port) (op : BitVec 2) (cnt : Nat) (r : FuseEnd) : State × Byte :=
  let e := if op = 1 then s.programEnd p cnt r else s.sealEnd p r
  ({ e.1 with fuses := { e.1.fuses with busy := none } }, e.2)

/-- The REASON for which a command stops now (R384): 0 for none. -/
def State.fuseCause (s : State) : Nat :=
  if s.fuses.stop ≠ 0 then s.fuses.stop else if s.fuseReady ≠ 0 then s.fuseReady else if s.pins.warning then 8 else 0

/-- One base tick of a running command: the first cause of R384 stops it for good. -/
def State.fuseTick (s : State) : State :=
  if s.fuses.busy.isSome then { s with fuses := { s.fuses with stop := s.fuseCause } } else s

/-- The least time that the pulses of a command take: 10 µs and 1 µs of verification for each bit (R383). -/
def State.fuseTime (s : State) (p : Port) (op : BitVec 2) (cnt : Nat) : Nat :=
  let words := if op = 1 then (s.fuseWords p cnt).map programmed else [programmed (s.sealWord p)]
  words.foldl (fun t x => t + 11 * usTicks * ((List.range 72).filter (fun i => x.getLsbD i)).length) 0

/-- A command can end so: with success when nothing has stopped it and its pulses are done; torn by what stopped it, or by a bit
that fails verification (R384). -/
def State.fuseEnds (s : State) (p : Port) (op : BitVec 2) (cnt : Nat) (r : FuseEnd) : Bool :=
  match r with
  | .ok => s.fuseCause == 0 && decide (s.fuses.began + s.fuseTime p op cnt ≤ s.clk)
  | .torn _ reason _ => reason.toNat == (if s.fuseCause = 0 then 7 else s.fuseCause)

/-- FUSE_COMMAND_END (R381, R383 to R385). -/
def execFuseCommandEnd (r : FuseEnd) (s : State) : Out :=
  match s.fuses.busy with
  | some (p, tag, op, cnt) =>
    if s.fuseEnds p op cnt r then let e := s.fuseEnd p op cnt r; .next (e.1.completeLive p tag e.2 []) else .next s
  | none => .next s

/-- A reset or a power loss leaves the word in progress torn (R384): which word that is and which of its bits have been pulsed
are free values. -/
def State.fuseCut (s : State) : State :=
  match s.fuses.busy with
  | some (p, _, op, cnt) =>
    let f := s.takeFree
    let g := f.2.takeFree
    let t := (s.fuseEnd p op cnt (.torn (g.1.toNat / 256) 8 (f.1 ++ g.1.setWidth 8))).1
    { s with free := g.2.free, fuses := t.fuses }
  | none => s

end Sys2Proof.Machine
end

