-- ==== Sys2Proof/Machine/Caravan.lean ====
section
/-! DEFINITION. Caravans: the form of an image (R344), the checks of R346 and the level rule (R349), writing the axes, the
BOOT banks (R367, R368) and the LOAD record (R358). -/

namespace Sys2Proof.Machine

open Sys2Proof

/-! ### The form of an image (R344) -/

/-- A section of a Caravan. -/
structure Section where
  mask : Nat
  prog : List W64
  data : List W64
  deriving DecidableEq, Repr

/-- A Caravan that has the form of R344. -/
structure Image where
  level : Nat
  version : Nat
  autostart : Bool
  secs : List Section
  deriving DecidableEq, Repr

/-- The lowest axis of a mask. -/
def lowestAxis (m : Nat) : Nat := ((List.range 8).find? (fun i => m.testBit i)).getD 8

/-- The sections of an image: `seen` the axes named so far, `low` the lowest axis of the last section. -/
def parseSections : Nat → List W64 → Nat → Option Nat → Option (List Section)
  | _, [], _, _ => some []
  | 0, _, _, _ => none
  | k + 1, h :: t, seen, low =>
    let m := wbits h 63 56
    let p := wbits h 29 16
    let d := wbits h 12 0
    if m = 0 ∨ seen &&& m ≠ 0 ∨ (match low with | some l => decide (lowestAxis m ≤ l) | none => false) = true ∨
        wbits h 55 30 ≠ 0 ∨ wbits h 15 13 ≠ 0 ∨ p = 0 ∨ 8192 < p ∨ 7936 < d ∨ t.length < p + d then none
    else (parseSections k (t.drop (p + d)) (seen ||| m) (some (lowestAxis m))).map
      (fun r => { mask := m, prog := t.take p, data := (t.drop p).take d } :: r)

/-- An image, when it has the form of R344: its words but the last four are the header and the sections. -/
def parseImage (ws : List W64) : Option Image :=
  match ws with
  | h :: c :: t =>
    if ws.length < 6 ∨ wbits h 63 48 ≠ 0xCA7A ∨ wbits h 47 40 = 0 ∨ wbits h 15 1 ≠ 0 ∨ c.toNat ≠ ws.length then none
    else match parseSections 9 (t.take (t.length - 4)) 0 none with
      | some ss =>
        if ss.foldl (fun m x => m ||| x.mask) 0 = wbits h 39 32 then
          some { level := wbits h 47 40, version := wbits h 31 16, autostart := wbits h 0 0 = 1, secs := ss }
        else none
      | none => none
  | _ => none

/-- The tag of an image is the HMAC of its earlier words under the key (R344, R346 check 2). -/
def imageAuthentic (key : List Byte) (ws : List W64) : Bool :=
  let n := ws.length - 4
  bytesOf (ws.drop n) == hmac key (bytesOf (ws.take n))

/-- The axes of a mask. -/
def maskAxes (m : Byte) : List Ax := allAx.filter (fun n => m.getLsbD n.val)

/-- The section that serves axis n. -/
def Image.secOf (i : Image) (n : Ax) : Option Section := i.secs.find? (fun x => x.mask.testBit n.val)

/-! ### The checks (R346, R349) -/

/-- LEVEL in force on an axis; 0 is no program (R349, R350). -/
def State.level (s : State) (n : Ax) : Nat := s.dget (ENGINE_CAR_LEVEL n.val)

/-- With the levels of a mask replaced by a new one, the levels in force differ by at most 1 (R349). -/
def State.levelsOk (s : State) (m : Byte) (l : Nat) : Bool :=
  let ls := ((allAx.filter (fun n => !m.getLsbD n.val)).map s.level).filter (· != 0) ++ (if m = 0 then [] else [l])
  match ls with
  | [] => true
  | x :: t => decide (t.foldl max x ≤ t.foldl min x + 1)

/-- Check 6: each applied program under R47 and R48, in axis order; the first that fails decides. Each updates ENGINE_LOADDIAG. -/
def State.checkPrograms (s : State) (i : Image) : List Ax → State × Bool
  | [] => (s, true)
  | n :: t =>
    match i.secOf n with
    | some x =>
      let per := s.aget n AX_TICK_PERIOD
      let v := judgeProgram x.prog per
      let s := s.loadDiag n v per
      if v.1 = 0 then s.checkPrograms i t else (s, false)
    | none => (s, false)

/-- Checks 1 and 2 of R346. -/
def State.checkForm (s : State) (ws : List W64) : Byte :=
  match parseImage ws with
  | none => stBadFrame
  | some _ => match s.fuseKey with
    | some k => if imageAuthentic k ws then stOk else stAuth
    | none => stOk

/-- Checks 3 to 6 of R346. -/
def State.checkApply (s : State) (i : Image) (m : Byte) : State × Byte :=
  if (maskAxes m).any (fun n => (i.secOf n).isNone) then (s, stBadFrame)
  else if (maskAxes m).any (fun n => (s.ax n).st != .off) then (s, stNotPermitted)
  else if !s.levelsOk m i.level then (s, stLevel)
  else
    let r := s.checkPrograms i (maskAxes m)
    (r.1, if r.2 then stOk else stWcet)

/-! ### Writing an axis (R346) -/

/-- The words of a list at rising addresses from a base; zeros are not listed. -/
def packWords (base : Nat) (ws : List W64) : WMap :=
  (ws.zipIdx.map (fun (x : W64 × Nat) => (base + x.2, x.1))).filter (fun (x : Nat × W64) => x.2 != 0)

/-- Axis n receives its section: P, D, the engine's state, shared-page segment n, ENGINE_CARn and the program's figures. -/
def State.applyAxis (s : State) (i : Image) (src : Nat) (n : Ax) : State :=
  match i.secOf n with
  | none => s
  | some x =>
    let per := s.aget n AX_TICK_PERIOD
    let v := judgeProgram x.prog per
    let w := s.figure 16 v.2.1
    let e := w.1.figure 8 v.2.2
    let s := e.1
    let s := match (s.ax n).engine with
      | some g => s.modEng g (fun q => { q with core := Core.reset })
      | none => s
    let s := ((s.endResume n).noRerun n).modAx n (fun a =>
      { ((a.put AX_WCET_WCET w.2).put AX_WCET_COMMITS e.2).put AX_WCET_LIMIT (wcetLimit per) with
        p := packWords 0 x.prog, d := packWords 0x100 x.data, withdrawn := false, run := TickRun.idle })
    let s := s.modPool (fun p => { p with redo := p.redo.filter (fun r => r.1 != n) })
    let s := { s with shared := s.shared.filter (fun (y : Nat × W64) => y.1 / 64 != n.val) }
    s.setDreg (ENGINE_CAR n.val) (ENGINE_CAR_SRC n.val |>.put ((ENGINE_CAR_AUTH n.val).put ((ENGINE_CAR_LEVEL n.val).put
      ((ENGINE_CAR_VERSION n.val).put 0 i.version) i.level) (if s.fuseKey.isSome then 1 else 0)) src)

/-- Checks 3 to 6, and every axis of the mask is written when they pass: the status of the load. -/
def State.applyImage (s : State) (ws : List W64) (m : Byte) (src : Nat) : State × Byte :=
  match parseImage ws with
  | none => (s, stBadFrame)
  | some i =>
    let r := s.checkApply i m
    if r.2 = stOk then ((maskAxes m).foldl (fun s n => s.applyAxis i src n) r.1, stOk) else r

/-! ### The LOAD record and the end of a load (R346, R358) -/

/-- The load in progress ends with a status: its record, its completion, its admission. -/
def State.endLoad (s : State) (st : Byte) : State :=
  match s.load with
  | some l =>
    let s := { s with load := none }
    let s := if l.store then s.releaseAdm l.port else s
    (s.loadRecord l.mask l.words l.port.val st).completeLive l.port l.tag st []
  | none => s

/-! ### BOOT banks (R367, R368) -/

/-- VALID of a bank: 0 A, 1 B. -/
def State.bankValid (s : State) (b : Fin 2) : Bool := s.store.banks[b].valid

/-- The current bank: the valid bank of the greater generation (R367). -/
def State.currentBank (s : State) : Option (Fin 2) :=
  match s.bankValid 0, s.bankValid 1 with
  | true, true => some (if s.store.banks[(0 : Fin 2)].gen < s.store.banks[(1 : Fin 2)].gen then 1 else 0)
  | true, false => some 0
  | false, true => some 1
  | false, false => none

/-- The bank a load writes: not the current one; bank A when none is valid (log 45). -/
def State.inactiveBank (s : State) : Fin 2 := match s.currentBank with | some 0 => 1 | _ => 0

/-- Replace a bank. -/
def State.setBank (s : State) (b : Fin 2) (k : Bank) : State :=
  s.modStore (fun c => { c with banks := c.banks.set b.val k b.isLt })

/-- CISTERN_STAT and CISTERN_BOOTb show the banks. -/
def State.showBanks (s : State) : State :=
  let s := ([0, 1] : List (Fin 2)).foldl (fun s b =>
    let k := s.store.banks[b]
    let ws := k.image.getD []
    s.setDreg (CISTERN_BOOT b.val) (if k.valid then (CISTERN_BOOT_VALID b.val).put ((CISTERN_BOOT_AUTH b.val).put
      ((CISTERN_BOOT_VERSION b.val).put ((CISTERN_BOOT_LEVEL b.val).put ((CISTERN_BOOT_GEN b.val).put 0 k.gen.toNat)
        (imageLevel ws)) (imageVersion ws)) (if k.auth then 1 else 0)) 1 else 0)) s
  let s := s.dput CISTERN_STAT_BVALA (if s.bankValid 0 then 1 else 0)
  let s := s.dput CISTERN_STAT_BVALB (if s.bankValid 1 then 1 else 0)
  s.dput CISTERN_STAT_CUR (match s.currentBank with | some 1 => 1 | _ => 0)

/-- SRC of ENGINE_CARn and the source of a LOAD record, for a bank. -/
def bankSrc (b : Fin 2) : Nat := 2 + b.val
def bankRec (b : Fin 2) : Nat := 16 + b.val

/-- APPLY_BOOT (R346): checks 1 to 6 against the image of the current bank; BAD_FRAME without one (R367). -/
def State.applyBoot (s : State) (m : Byte) : State × Byte :=
  match s.currentBank with
  | none => (s.loadRecord m [] 0 stBadFrame, stBadFrame)
  | some b =>
    let ws := s.store.banks[b].image.getD []
    let f := s.checkForm ws
    let r := if f = stOk then s.applyImage ws m (bankSrc b) else (s, f)
    (r.1.loadRecord m ws (bankRec b) r.2, r.2)

end Sys2Proof.Machine
end

