-- ==== Sys2Proof/Machine/StoreOps.lean ====
section
/-! DEFINITION. The Cistern: records and pages, what each page program writes, its failures, its mount and format, and the
host streams and reads (chapter 14). -/

namespace Sys2Proof.Machine

open Sys2Proof

/-! ### Records (R357) -/

/-- A number as k bytes, most significant first. -/
def beBytes (k n : Nat) : List Byte := (List.range k).map (fun i => BitVec.ofNat 8 (n >>> (8 * (k - 1 - i))))

/-- A payload padded with 0 to a multiple of 8 bytes. -/
def padded (l : List Byte) : List Byte := l ++ List.replicate ((8 - l.length % 8) % 8) 0

/-- The bytes of a record: header, padded payload, trailer (R357). -/
def recordBytes (r : Record) : List Byte :=
  let body := [0xC1, 0x57, r.typ, r.flags] ++ beBytes 4 r.payload.length ++ beBytes 4 r.seq.toNat ++ [0, 0, 0, 0] ++
    beBytes 8 r.time.toNat ++ padded r.payload
  body ++ beBytes 4 (crc32c body).toNat ++ [0, 0, 0, 0]

/-- Bytes as words, most significant byte first. -/
def toWords : Nat → List Byte → List W64
  | 0, _ => []
  | k + 1, l => wordOf (l.take 8) :: toWords k (l.drop 8)

/-- A record as the words a LOG_READ returns. -/
def recordWords (r : Record) : List W64 := let b := recordBytes r; toWords (b.length / 8) b

/-- Bytes a record takes in a page. -/
def recordSize (r : Record) : Nat := 32 + (padded r.payload).length

/-! ### Geometry (R352, R356) -/

def State.pageBytes (s : State) : Nat := if s.dget CISTERN_GEOM_PAGE = 1 then 4096 else 2048
def State.blockPages (s : State) : Nat := if s.dget CISTERN_GEOM_PPB = 1 then 128 else 64
def State.blocks (s : State) : Nat := s.dget CISTERN_GEOM_BLKS0 + s.dget CISTERN_GEOM_BLKS1
/-- Reserve blocks: 2 % of all blocks, at least 16. -/
def State.reserveBlocks (s : State) : Nat := max 16 (s.blocks * 2 / 100)
/-- Pages of a size in MiB. -/
def State.mibPages (s : State) (m : Nat) : Nat := m * 2 ^ 20 / s.pageBytes
/-- Pages of the LOG ring and of the TRACE ring. -/
def State.logPages (s : State) : Nat := s.mibPages (s.dget CISTERN_GEOM_LOGMB)
def State.tracePages (s : State) : Nat :=
  (s.blocks - s.store.bad.length - 4 - s.reserveBlocks) * s.blockPages - s.mibPages 8 - s.logPages -
    s.mibPages (s.dget CISTERN_GEOM_USERMB)

/-! ### Losses and failures (R363 to R366) -/

def State.setCis (s : State) (st : Nat) : State := s.dput CISTERN_STAT_STATE st

/-- n records of a partition are lost. -/
def State.lostMany (s : State) (p : Fin 5) : Nat → State
  | 0 => s
  | n + 1 => (s.lostRecord p).lostMany p n

/-- A failing operation: STORE_FAIL, CISTERN_ERR and CISTERN_ERRTIME (R365). -/
def State.storeError (s : State) (cause part cs block page : Nat) : State :=
  let w := CISTERN_ERR_CS.put (CISTERN_ERR_PART.put (CISTERN_ERR_CAUSE.put 0 cause) part) cs
  (((s.count 37 unitDev).detect 37 unitDev 0).setDreg CISTERN_ERR (CISTERN_ERR_PAGE.put (CISTERN_ERR_BLOCK.put w block) page)).setDreg CISTERN_ERRTIME s.time

/-- The USER stream ends with a status (R361, R370). -/
def State.endStream (s : State) (st : Byte) : State :=
  match s.stream with
  | some t => (({ s with stream := none }).releaseAdm t.port).completeLive t.port t.tag st []
  | none => s

/-- The commands that wait on queued BOOT records. -/
def selectsOf (q : List (Fin 2 × Record × BootKind)) : List (Port × W16) :=
  q.filterMap (fun x => match x.2.2 with | .select p tag => some (p, tag) | _ => none)

/-- Queued records are lost and the commands that wait on them end with a status. -/
def State.dropQueues (s : State) (st : Byte) : State :=
  let s := s.lostMany partLog s.store.logQ.length
  let s := s.lostMany partBoot s.store.bootQ.length
  let s := s.lostMany partUser s.store.userQ.length
  let sel := selectsOf s.store.bootQ
  let s := s.modStore (fun c => { c with logQ := [], bootQ := [], userQ := [] })
  let s := sel.foldl (fun s x => s.completeLive x.1 x.2 st []) s
  let s := match s.load with | some l => if l.store then s.endLoad st else s | none => s
  s.endStream st

/-- The Cistern enters FAILED (R366): every record presented to it is lost, and its streams end. -/
def State.storeFailed (s : State) : State :=
  let s := (s.setCis cisFailed).dput CISTERN_STAT_LIFERDY 0
  let s := (s.count 37 unitDev).detect 37 unitDev 0
  (s.dropQueues stDeviceFault).modStore (fun c => { c with format := none })

/-- A NAND operation has exceeded its limit (R353, R366): three in succession put the Cistern in FAILED. -/
def State.nandTimeout (s : State) (cs : Nat) : State :=
  let f := s.takeFree
  let s := f.2.storeError 5 (f.1.toNat % 6) cs (f.1.toNat / 8 % 2 ^ 17) (f.1.toNat / 2 ^ 20 % 128)
  let n := s.store.timeouts + 1
  let s := s.modStore (fun c => { c with timeouts := n })
  if 3 ≤ n then s.storeFailed else s

/-- Block b is retired (R363): bad-block table, reserve; an exhausted reserve puts the Cistern in FAILED (R366). -/
def State.retireBlock (s : State) (b : Nat) (erase : Bool) : State :=
  let cs := if s.dget CISTERN_GEOM_BLKS0 ≤ b then 1 else 0
  let f := s.takeFree
  let s := f.2.storeError (if erase then 2 else 1) (f.1.toNat % 6) cs (if cs = 1 then b - s.dget CISTERN_GEOM_BLKS0 else b)
    (if erase then 0 else f.1.toNat / 8 % 128)
  let s := s.modStore (fun c => { c with bad := if c.bad.contains b then c.bad else c.bad ++ [b], timeouts := 0 })
  let s := s.dput CISTERN_STAT_BAD (min 65535 s.store.bad.length)
  if s.dget CISTERN_STAT_RESV = 0 then s.storeFailed else s.dput CISTERN_STAT_RESV (s.dget CISTERN_STAT_RESV - 1)

/-! ### Page programs (R362) -/

/-- The classes of pending writes, in their order of priority. -/
inductive PageClass where
  | life | log | boot | user | trace
  deriving DecidableEq, Repr

/-- The class of the next page, if one is pending: a full ring waits for its oldest block to be erased (R356). -/
def State.nextPage (s : State) : Option PageClass :=
  let c := s.store
  if !c.lifeInc.isEmpty then some .life
  else if !c.logQ.isEmpty && decide (c.log.length < s.logPages) then some .log
  else if !c.bootQ.isEmpty then some .boot
  else if !c.userQ.isEmpty then some .user
  else if (!c.stage.isEmpty || c.gap.isSome) && decide (c.trace.length < s.tracePages) && (s.load.all (fun l => l.store)) then some .trace
  else none

/-- The leading records that fit in a page. -/
def fitting : Nat → List Record → List Record
  | _, [] => []
  | room, r :: t => if recordSize r ≤ room then r :: fitting (room - recordSize r) t else []

/-- A LIFECNT record's entries: code, unit and increment (R358). -/
def lifeEntries (l : WMap) : List Byte :=
  l.flatMap (fun (x : Nat × W64) => [BitVec.ofNat 8 (x.1 / 32), BitVec.ofNat 8 (x.1 % 32), 0, 0] ++ beBytes 4 x.2.toNat)

/-- Add the increments to the lifetime counts: saturating at 2^32 − 1 (R298). -/
def addLife (life inc : WMap) : WMap :=
  inc.foldl (fun (m : WMap) (x : Nat × W64) =>
    WMap.set zeroWord m x.1 (BitVec.ofNat 64 (min (2 ^ 32 - 1) ((WMap.get zeroWord m x.1).toNat + x.2.toNat)))) life

/-- A LIFE page: a LIFECNT record with as many entries as fit. -/
def State.lifePage (s : State) : State :=
  let n := (s.pageBytes - 32) / 8
  let l := s.store.lifeInc.take n
  let q := s.nextSeq partLife
  q.2.modStore (fun c => { c with
    lifeInc := c.lifeInc.drop n
    life := addLife c.life l
    lifeRecs := c.lifeRecs ++ [{ typ := 0x20, flags := s.recFlags, seq := q.1, time := s.time, payload := lifeEntries l }] })

/-- A LOG page: the oldest queued records that fit. -/
def State.logPage (s : State) : State :=
  let l := fitting s.pageBytes s.store.logQ
  s.modStore (fun c => { c with logQ := c.logQ.drop (max 1 l.length), log := c.log ++ [l] })

/-- The COMMIT of a load has been written: the bank becomes valid and current; then checks 3 to 6 (R346, R368). -/
def State.commitLoad (s : State) (b : Fin 2) (gen : W32) : State :=
  match s.load with
  | some l =>
    let s := (s.setBank b { image := some l.words, valid := true, gen := gen, auth := s.fuseKey.isSome }).showBanks
    let r := s.applyImage l.words l.mask 1
    r.1.endLoad r.2
  | none => s

/-- The generation that a new COMMIT carries: the current one plus 1; 1 where no bank is valid. -/
def State.nextGen (s : State) : W32 := match s.currentBank with | some b => s.store.banks[b].gen + 1 | none => 1

/-- A BOOT page: the oldest queued record. -/
def State.bootPage (s : State) : State :=
  match s.store.bootQ with
  | (b, _, k) :: t =>
    let s := s.modStore (fun c => { c with bootQ := t })
    match k with
    | .image => s
    | .commit => s.commitLoad b s.nextGen
    | .select p tag =>
      let s := (s.setBank b { s.store.banks[b] with gen := s.nextGen }).showBanks
      s.completeLive p tag stOk []
  | [] => s

/-- A USER page: the oldest queued record; after the last one the blob is replaced and the stream ends OK. -/
def State.userPage (s : State) : State :=
  let s := s.modStore (fun c => { c with userQ := c.userQ.drop 1 })
  match s.stream with
  | some t =>
    if t.waiting ∧ s.store.userQ = [] then
      (s.modStore (fun c => { c with
        blobs := c.blobs.filter (fun (x : Byte × Nat × List W64) => x.1 != t.blob) ++ [(t.blob, t.total, t.words)] })).endStream stOk
    else s
  | none => s

/-- The bytes of a trace entry (R358). -/
def entryBytes (x : W64 × Ax × W16 × W64 × W64) : List Byte :=
  beBytes 8 x.1.toNat ++ [BitVec.ofNat 8 x.2.1.val, 0] ++ beBytes 2 x.2.2.1.toNat ++ [0, 0, 0, 0] ++
    beBytes 8 x.2.2.2.1.toNat ++ beBytes 8 x.2.2.2.2.toNat

/-- The GAP record of a run of losses (R358, R360): entries lost, TIME of the last. -/
def State.gapRecord (s : State) : Option Record :=
  s.store.gap.map (fun g =>
    { typ := 0x02, flags := s.recFlags, seq := 0, time := g.2.1, payload := beBytes 4 g.1 ++ beBytes 8 g.2.2.toNat })

/-- A TRACE page: the GAP record of a run of losses first, then a TRACE record of the oldest staged entries (R359, R360). -/
def State.tracePage (s : State) : State :=
  let g := s.gapRecord
  let room := s.pageBytes - (match g with | some r => recordSize r | none => 0)
  let n := (room - 32) / 32
  let es := s.store.stage.take n
  let first := match g with | some r => let q := s.nextSeq partTrace; ([{ r with seq := q.1 }], q.2) | none => ([], s)
  let second := match es with
    | [] => ([], first.2)
    | e :: _ =>
      let q := first.2.nextSeq partTrace
      ([({ typ := 0x01, flags := s.recFlags, seq := q.1, time := e.1, payload := es.flatMap entryBytes } : Record)], q.2)
  second.2.modStore (fun c => { c with stage := c.stage.drop n, gap := none, trace := c.trace ++ [first.1 ++ second.1] })

/-- A page is programmed. -/
def State.writePage (s : State) (k : PageClass) : State :=
  let s := match k with
    | .life => s.lifePage
    | .log => s.logPage
    | .boot => s.bootPage
    | .user => s.userPage
    | .trace => s.tracePage
  s.modStore (fun c => { c with dirty := true, timeouts := 0 })

/-- The records of the next page are lost (R363: a page that fails on three blocks in succession). -/
def State.losePage (s : State) : State :=
  match s.nextPage with
  | some .life => (s.lostRecord partLife).modStore (fun c => { c with lifeInc := c.lifeInc.drop ((s.pageBytes - 32) / 8) })
  | some .log =>
    let n := max 1 (fitting s.pageBytes s.store.logQ).length
    (s.lostMany partLog n).modStore (fun c => { c with logQ := c.logQ.drop n })
  | some .boot =>
    let sel := selectsOf (s.store.bootQ.take 1)
    let s := (s.lostRecord partBoot).modStore (fun c => { c with bootQ := if sel.isEmpty then [] else c.bootQ.drop 1 })
    let s := sel.foldl (fun s x => s.completeLive x.1 x.2 stDeviceFault []) s
    match s.load with
    | some l => if l.store && sel.isEmpty then s.endLoad stDeviceFault else s
    | none => s
  | some .user => ((s.lostRecord partUser).modStore (fun c => { c with userQ := [] })).endStream stDeviceFault
  | some .trace => (s.lostRecord partTrace).modStore (fun c => { c with stage := c.stage.drop ((s.pageBytes - 32) / 32) })
  | none => s

/-! ### Mount and format (R354, R355) -/

/-- What the readers and the banks show after a mount or a format. -/
def State.storeReady (s : State) : State :=
  let s := ((s.setCis cisReady).dput CISTERN_STAT_LIFERDY 1).dput CISTERN_STAT_RESV (s.reserveBlocks - s.store.bad.length)
  ((s.dput CISTERN_STAT_BAD (min 65535 s.store.bad.length)).showBanks).modStore (fun c => { c with timeouts := 0, ckptAt := s.clk })

/-- SHUTDOWN and RESET records of the first mount after a reset (R358, R269). -/
def State.mountRecords (s : State) : State :=
  let s := if s.store.shutLogged then s
    else (s.presentLog 0x14 (s.dreg THERM_SHTIME) [0, 0, 0, 0, 0, 0, 0, BitVec.ofNat 8 (s.dget THERM_STAT_SHSRC)]).modStore
      (fun c => { c with shutLogged := true })
  s

/-- The mount ends (R354): FAILED, BLANK or READY; a TRACE below 16 MiB mounts FAILED (R356). -/
def State.mountEnd (s : State) (idsMatch checkpoint : Bool) : State :=
  if s.cis ≠ cisMounting then s
  else if !idsMatch then (s.storeError 7 5 0 0 0).storeFailed
  else if s.tracePages * s.pageBytes < 16 * 2 ^ 20 then s.storeFailed
  else if !checkpoint then s.setCis cisBlank
  else s.storeReady.mountRecords

/-- FORMAT starts by a port that may (R355): the status when the write completes at once. -/
def State.formatStart (s : State) (p : Port) (tag : W16) (key : W16) (answers : Bool) : State × Option Byte :=
  if s.dget (HOST_PCFG_SVC p.val) = 0 then (s, some stNotPermitted)
  else if key ≠ 0xC157 then (s, some stBadFrame)
  else
    let c := s.cis
    if c = cisNone then (s, some stDeviceFault)
    else if c = cisMounting ∨ c = cisFormatting ∨ c = cisPowerfail then (s, some stNotPermitted)
    else if c = cisFailed ∧ answers = false then (s, some stDeviceFault)
    else
      let s := if c = cisReady then
          let s := s.lostMany partLog s.store.logQ.length
          let s := s.lostMany partUser s.store.userQ.length
          (s.modStore (fun q => { q with logQ := [], userQ := [] })).endStream stDeviceFault
        else s
      ((s.setCis cisFormatting).modStore (fun q => { q with format := some (p, tag, BitVec.ofNat 3 c) }), none)

/-- FORMAT ends (R355): READY again; from READY, LOG, TRACE and USER are empty, else BOOT too; from BLANK, LIFE too. -/
def State.formatEnd (s : State) : State :=
  match s.store.format with
  | some (p, tag, was) =>
    let none2 : Vector Bank 2 := Vector.replicate 2 { image := none, valid := false, gen := 0, auth := false }
    let s := s.modStore (fun c => { c with
      log := [], trace := [], blobs := [], format := none, dirty := true
      banks := if was = 2 then c.banks else none2
      life := if was = 3 then [] else c.life
      lifeRecs := if was = 3 then [] else c.lifeRecs })
    s.storeReady.completeLive p tag stOk []
  | none => s

/-- A write of REMOUNT (R354): the mount runs again. NONE answers FAILED_DEVICE_FAULT, a settling state NOT_PERMITTED (log 46). -/
def State.remount (s : State) : State × Byte :=
  let c := s.cis
  if c = cisNone then (s, stDeviceFault)
  else if c = cisFormatting ∨ c = cisPowerfail then (s, stNotPermitted)
  else ((s.setCis cisMounting).dput CISTERN_STAT_LIFERDY 0, stOk)

/-! ### Host streams (R345, R361, R370) -/

/-- Base ticks of the 100 ms between parts. -/
abbrev partTicks : Nat := 100 * msTicks

/-- Why a stream may not begin in the present store state (R345; the same for USER writes, log 46). -/
def State.streamRefusal (s : State) : Option Byte :=
  let c := s.cis
  if c = cisReady then none
  else if c = cisMounting ∨ c = cisFormatting then some stNotPermitted
  else some stDeviceFault

/-- Another port holds write admission (R361). -/
def State.admHeld (s : State) (p : Port) : Bool := let h := s.dget CISTERN_ADM_HOLDER; h != 7 && h != p.val

/-- The IMAGE records of a chunk: as many words as a page holds in each. -/
def State.imageRecords (s : State) (b : Fin 2) (time : W64) : Nat → List W64 → State
  | 0, _ => s
  | k + 1, ws =>
    if ws.isEmpty then s
    else
      let n := (s.pageBytes - 32) / 8
      let q := s.nextSeq partBoot
      (q.2.modStore (fun c => { c with bootQ := c.bootQ ++
        [(b, { typ := 0x40, flags := s.recFlags, seq := q.1, time := time, payload := bytesOf (ws.take n) }, BootKind.image)] })).imageRecords
          b time k (ws.drop n)

/-- A load begins (R345): its status when it completes at once; a port's running load has been abandoned before. -/
def State.loadStart (s : State) (p : Port) (tag : W16) (m : Byte) (store : Bool) : State × Option Byte :=
  if s.load.isSome then (s.loadRecord m [] p.val stNotPermitted, some stNotPermitted)
  else
    match (if store then (match s.streamRefusal with | some st => some st | none => if s.admHeld p then some stNotPermitted else none)
           else none) with
    | some st => (s.loadRecord m [] p.val st, some st)
    | none =>
      let s := { s with load := some { port := p, tag := tag, mask := m, store := store, next := 0, words := [],
                                       last := s.clk, began := s.time, waiting := false } }
      if store then
        let s := (s.setBank s.inactiveBank { image := none, valid := false, gen := 0, auth := false }).showBanks
        (s.dput CISTERN_ADM_HOLDER p.val, none)
      else (s, none)

/-- A load is abandoned (R345): BAD_FRAME, nothing of it is kept. -/
def State.abandonLoad (s : State) : State :=
  (s.modStore (fun c => { c with bootQ := c.bootQ.filter (fun (x : Fin 2 × Record × BootKind) =>
    match x.2.2 with | .select _ _ => true | _ => false) })).endLoad stBadFrame

/-- A chunk of the running load of port p (R345); any other chunk is ignored (log 47). -/
def State.loadChunk (s : State) (p : Port) (tag chunk : W16) (ws : List W64) : State :=
  match s.load with
  | some l =>
    if l.port ≠ p ∨ l.tag ≠ tag ∨ l.waiting = true ∨ s.pool.restart = true then s
    else if chunk.toNat ≠ l.next % 2 ^ 16 ∨ l.last + partTicks < s.clk ∨ ws.isEmpty ∨ 1023 < ws.length ∨
        131072 < l.words.length + ws.length then s.abandonLoad
    else
      let s := { s with load := some { l with next := l.next + 1, words := l.words ++ ws, last := s.clk } }
      if l.store then s.imageRecords s.inactiveBank l.began ws.length ws else s
  | none => s

/-- LOAD_END (R346): checks 1 and 2; a stored image is committed first, else checks 3 to 6 follow at once. -/
def State.loadEnd (s : State) (p : Port) (tag : W16) : State :=
  match s.load with
  | some l =>
    if l.port ≠ p ∨ l.tag ≠ tag ∨ l.waiting = true ∨ s.pool.restart = true then s
    else if l.last + partTicks < s.clk then s.abandonLoad
    else
      let f := s.checkForm l.words
      if f ≠ stOk then
        (s.modStore (fun c => { c with bootQ := c.bootQ.filter (fun (x : Fin 2 × Record × BootKind) =>
          match x.2.2 with | .select _ _ => true | _ => false) })).endLoad f
      else if l.store then
        let q := s.nextSeq partBoot
        let b := s.inactiveBank
        let pay := beBytes 4 s.nextGen.toNat ++ beBytes 4 l.words.length ++ beBytes 4 (crc32c (bytesOf l.words)).toNat ++
          [BitVec.ofNat 8 (imageLevel l.words)] ++ beBytes 2 (imageVersion l.words) ++ [if s.fuseKey.isSome then 1 else 0]
        let s := q.2.modStore (fun c => { c with bootQ := c.bootQ ++
          [(b, { typ := 0x41, flags := s.recFlags, seq := q.1, time := s.time, payload := pay }, BootKind.commit)] })
        { s with load := some { l with waiting := true } }
      else
        let r := s.applyImage l.words l.mask 1
        r.1.endLoad r.2
  | none => s

/-- USER_BEGIN (R370): its status when it completes at once. -/
def State.userStart (s : State) (p : Port) (tag : W16) (blob : Byte) (total : Nat) : State × Option Byte :=
  match s.streamRefusal with
  | some st => (s, some st)
  | none =>
    if 2 ^ 24 < total then (s, some stBadFrame)
    else if s.admHeld p ∨ s.stream.isSome then (s, some stNotPermitted)
    else
      (({ s with stream := some { port := p, tag := tag, blob := blob, total := total, next := 0, words := [], last := s.clk,
                                  waiting := false } }).dput CISTERN_ADM_HOLDER p.val, none)

/-- A chunk of the running USER stream of port p; any other chunk is ignored (log 47). -/
def State.userChunk (s : State) (p : Port) (tag chunk : W16) (ws : List W64) : State :=
  match s.stream with
  | some t =>
    if t.port ≠ p ∨ t.tag ≠ tag ∨ t.waiting = true ∨ s.pool.restart = true then s
    else if chunk.toNat ≠ t.next % 2 ^ 16 ∨ t.last + partTicks < s.clk ∨ ws.isEmpty ∨ 1023 < ws.length ∨
        2 ^ 21 < t.words.length + ws.length then s.endStream stBadFrame
    else { s with stream := some { t with next := t.next + 1, words := t.words ++ ws, last := s.clk } }
  | none => s

/-- The BLOB records of a stream (R358): blob id, total bytes, offset, data (log 44). -/
def State.blobRecords (s : State) (t : Stream) : Nat → Nat → List W64 → State
  | 0, _, _ => s
  | k + 1, off, ws =>
    let n := (s.pageBytes - 48) / 8
    let q := s.nextSeq partUser
    let r : Record := { typ := 0x30, flags := s.recFlags, seq := q.1, time := s.time,
                        payload := beBytes 4 t.blob.toNat ++ beBytes 4 t.total ++ beBytes 8 off ++ bytesOf (ws.take n) }
    let s := q.2.modStore (fun c => { c with userQ := c.userQ ++ [r] })
    if (ws.drop n).isEmpty then s else s.blobRecords t k (off + 8 * n) (ws.drop n)

/-- USER_END (R370): the whole content is written; a content of another length is BAD_FRAME (log 47). -/
def State.userFinish (s : State) (p : Port) (tag : W16) : State :=
  match s.stream with
  | some t =>
    if t.port ≠ p ∨ t.tag ≠ tag ∨ t.waiting = true ∨ s.pool.restart = true then s
    else if t.last + partTicks < s.clk ∨ t.words.length ≠ (t.total + 7) / 8 then s.endStream stBadFrame
    else ({ s with stream := some { t with waiting := true } }).blobRecords t (t.words.length + 1) 0 t.words
  | none => s

/-! ### Host reads and BOOT_SELECT (R370, R368) -/

/-- USER_READ: the total bytes, then the words. A blob that does not exist reads as empty (log 47). -/
def State.userData (s : State) (blob : Byte) (off cnt : Nat) : List W64 :=
  match s.store.blobs.find? (fun (x : Byte × Nat × List W64) => x.1 == blob) with
  | some x => BitVec.ofNat 64 x.2.1 :: (x.2.2.drop off).take cnt
  | none => [0]

/-- Whole records from a list, up to a number of words. -/
def wholeRecords : Nat → List Record → List W64
  | _, [] => []
  | room, r :: t =>
    let w := recordWords r
    if w.length ≤ room then w ++ wholeRecords (room - w.length) t else []

/-- LOG_READ and TRACE_READ: the SEQ of the first record returned, then whole records; an overwritten SEQ starts at the oldest
present. Where no record is returned the first word is not stated (log 47). -/
def State.ringData (s : State) (rs : List Record) (seq : W32) : State × List W64 :=
  let l := rs.dropWhile (fun r => r.seq != seq)
  let ahead := match rs.getLast? with | some r => decide (0 < (seq - r.seq).toInt) | none => true
  let l := if l.isEmpty && !ahead then rs else l
  match l with
  | r :: _ => (s, r.seq.setWidth 64 :: wholeRecords 1020 l)
  | [] => (s.takeFree.2, [s.takeFree.1])

/-- LIFE_READ: the lifetime counts of codes 1 to 38 for a unit. -/
def State.lifeData (s : State) (unit : Nat) : List W64 :=
  let m := addLife s.store.life s.store.lifeInc
  (List.range 38).map (fun i => WMap.get zeroWord m (32 * (i + 1) + unit))

/-- BOOT_SELECT (R368): its status when it completes at once. -/
def State.bootSelect (s : State) (p : Port) (tag : W16) (b : Fin 2) : State × Option Byte :=
  match s.streamRefusal with
  | some st => (s, some st)
  | none =>
    if s.bankValid b then
      let q := s.nextSeq partBoot
      let k := s.store.banks[b]
      let ws := k.image.getD []
      let pay := beBytes 4 s.nextGen.toNat ++ beBytes 4 ws.length ++ beBytes 4 (crc32c (bytesOf ws)).toNat ++
        [BitVec.ofNat 8 (imageLevel ws)] ++ beBytes 2 (imageVersion ws) ++ [if k.auth then 1 else 0]
      (q.2.modStore (fun c => { c with bootQ := c.bootQ ++
        [(b, { typ := 0x41, flags := s.recFlags, seq := q.1, time := s.time, payload := pay }, BootKind.select p tag)] }), none)
    else (s, some stNotPermitted)

end Sys2Proof.Machine
end

