-- ==== Sys2Proof/Machine/RegWrite.lean ====
section
/-! DEFINITION. A host write of one register: the permission of R312, then the register's own rules in the order of R433, and
its effect. -/

namespace Sys2Proof.Machine

open Sys2Proof

/-- What a register write gives: its status at once, a command that goes on (`runs`), or one that may have to wait before it
acts (`hold`). -/
inductive Wr where
  | done (st : Byte)
  | runs (o : Op)
  | hold (o : Op)
  deriving DecidableEq, Repr

def Wr.ok : Wr := .done stOk

/-! ### Permissions (R310, R312) -/

/-- Functions of R310, as bits of HOST_PERMk.FUNC. -/
abbrev fnLoad : Nat := 0
abbrev fnCistern : Nat := 1
abbrev fnFuse : Nat := 2
abbrev fnTime : Nat := 3
abbrev fnClear : Nat := 4
abbrev fnDebug : Nat := 5

def State.func (s : State) (p : Port) (f : Nat) : Bool := (s.dget (HOST_PERM_FUNC p.val)).testBit f
def State.isSvc (s : State) (p : Port) : Bool := s.dget (HOST_PCFG_SVC p.val) == 1
/-- The effective level of port p on axis n: 0 NONE, 1 READ, 2 OWN. -/
def State.permLevel (s : State) (p : Port) (n : Ax) : Nat := (s.dget (HOST_PERM_AXIS p.val) >>> (2 * n.val)) % 4

/-- The debug-permit fuse field lets axis n be halted (R55, R376). -/
def State.debugFuse (s : State) (n : Ax) : Bool := (s.fld 13).testBit (8 + n.val)

/-- NOT_PERMITTED unless a condition holds. -/
def needs (b : Bool) : Option Byte := if b then none else some stNotPermitted

def axisField (x : Nat) : Ax := ⟨x % 8, by omega⟩

/-- A debug register written with a value names an axis that debug may act on (R55). -/
def State.debugAllowed (s : State) (p : Port) (a : Nat) (v : W64) : Bool :=
  s.func p fnDebug &&
    (if a = ENGINE_DBGCTL then
      (ENGINE_DBGCTL_HALT.get v == 0 && ENGINE_DBGCTL_RESUME.get v == 0 && ENGINE_DBGCTL_STEP.get v == 0) ||
        s.debugFuse (axisField (ENGINE_DBGCTL_AXIS.get v))
     else if 0x2408 ≤ a ∧ a < 0x240C then s.debugFuse (axisField ((ENGINE_BKPT_AXIS 0).get v))
     else if a = ENGINE_DBGDATA then s.debugFuse s.dbgAxis
     else true)

/-- The axes an encoder, probe or emulation register names before and after a write (R171, R178, R190). -/
def State.namedAxes (s : State) (a : Nat) (v : W64) : List Ax :=
  if a < 0x2040 then
    let k := (a - 0x2000) / 16
    let f := fun (w : W64) => if (ENC_CFG_AXEN 0).get w = 1 then [axisField ((ENC_CFG_AXIS 0).get w)] else []
    f (s.dreg (ENC_CFG k)) ++ (if (a - 0x2000) % 16 = 0 then f v else [])
  else if a < 0x2200 then
    let f := fun (w : W64) => if (PRB_CFG_AXEN 0).get w = 1 then [axisField ((PRB_CFG_AXIS 0).get w)] else []
    f (s.dreg a) ++ f v
  else
    let f := fun (w : W64) => [axisField ((EMU_CFG_AXIS 0).get w)]
    f (s.dreg a) ++ f v

/-- A configuration register of the ENC block (R171, R178, R190). -/
def encConfig (a : Nat) : Bool :=
  (0x2000 ≤ a && a < 0x2040 && a % 16 < 4) || (0x2100 ≤ a && a < 0x2110 && a % 4 == 0) || (0x2200 ≤ a && a < 0x2208 && a % 4 == 0)

/-- The permission a write of address a with value v needs (R312): none when port p has it. -/
def State.writePerm (s : State) (p : Port) (a : Nat) (v : W64) : Option Byte :=
  match place a with
  | .axis n o =>
    if !s.owns p n then some stNotOwner
    else if o = AX_CNTCLR ∧ s.func p fnClear = false then some stNotPermitted
    else none
  | .dev d =>
    if d = SYS_TIMESET ∨ d = SYS_TIMETRIM ∨ d = SYS_TIMELOAD then needs (s.func p fnTime)
    else if d < 0x400 ∨ (0xA00 ≤ d ∧ d < 0xB00) then needs (s.isSvc p)
    else if d < 0x800 then
      if d = HOST_OWNREQ then none
      else if d < 0x440 ∧ d % 16 = 0 then
        let k : Port := ⟨(d - 0x400) / 16 % 4, by omega⟩
        let keeps := (HOST_PCFG_EN 0).get v == s.dget (HOST_PCFG_EN k.val)
        needs ((s.isSvc p || (k == p && keeps)) && !(s.isSvc p && k == p && (HOST_PCFG_EN 0).get v == 0))
      else needs (s.isSvc p)
    else if d < 0x900 then needs (s.func p fnFuse)
    else if d < 0xA00 then needs (s.func p fnCistern)
    else if d < 0xC00 then
      let x : Bus := if d < 0xB20 then 0 else 1
      if d < 0xB10 then needs (s.isSvc p)
      else needs (s.isSvc p || (s.axesOf x).all (fun n => s.owns p n))
    else if d < 0x1000 then
      if d = FAULT_CLR then needs (s.isSvc p && s.func p fnClear)
      else if d = FAULT_FNCTL then needs (s.isSvc p)
      else none
    else if d < 0x2400 then
      if encConfig d then
        let l := s.namedAxes d v
        if l.isEmpty then (if allAx.any (fun n => s.owns p n) then none else some stNotOwner)
        else if l.all (fun n => s.owns p n) then none else some stNotOwner
      else none
    else if d = ENGINE_DBGCTL ∨ (0x2408 ≤ d ∧ d < 0x240C) ∨ d = ENGINE_DBGSEL ∨ d = ENGINE_DBGDATA ∨ d = ENGINE_DBGSTAT then
      needs (s.debugAllowed p d v)
    else if 0x2420 ≤ d ∧ d < 0x2428 then
      if (ENGINE_EXC_CLR 0).get v = 1 ∧ s.owns p (axisField (d - 0x2420)) = false then some stNotOwner else none
    else needs (s.isSvc p)
  | .none => some stBadFrame

/-! ### Ranges -/

/-- A field of a written value lies in a range. -/
def inR (f : Fld) (v : W64) (lo hi : Nat) : Bool := decide (lo ≤ f.get v) && decide (f.get v ≤ hi)

/-- The ranges and consistency rules of a word of the axis block (R110, R128, R158, R191, R209, R215, R241, R300). -/
def Axis.rangeOk (x : Axis) (o : Nat) (v : W64) : Bool :=
  if o = AX_SMCFG then inR AX_SMCFG_STOPTMO v 1 60000
  else if o = AX_PTCFG then
    inR AX_PTCFG_PWMPER v 2000 400000 && inR AX_PTCFG_HOLDMAX v 1 15 && inR AX_PTCFG_ZFILL v 0 2
  else if o = AX_PTMAP then inR AX_PTMAP_PHMAP v 0 5
  else if o = AX_PTBST then inR AX_PTBST_REFN v 1 255 && inR AX_PTBST_REFW v (x.get AX_PTDT_MINP) 1023
  else if o = AX_PTMCTL then inR AX_PTMCTL_MOFS v 0 5 && inR AX_PTMCTL_SRC v 0 2
  else if 0x48 ≤ o ∧ o < 0x4C then inR (AX_PTCMP_WIDTH 0) v 1 255
  else if o = AX_PTSW then inR AX_PTSW_TARGET v 0 200000
  else if 0x80 ≤ o ∧ o < 0x85 then inR (AX_GDBAND_WBTMO 0) v 10 200
  else if o = AX_GDCFG then inR AX_GDCFG_BSTWIN v 1 255
  else if o = AX_GDTRIP then decide (AX_GDTRIP_OCLVL.get v ≤ AX_GDTRIP_OCHARD.get v)
  else if o = AX_OASIS then inR AX_OASIS_AUTOWIN v 1 255
  else if o = AX_SNSCFG then
    inR AX_SNSCFG_GAIN v 0 4 && !(AX_SNSCFG_GAIN.get v == 4 && AX_SNSCFG_MODE.get v == 1) && inR AX_SNSCFG_MIRMAX v 1 7 &&
      inR AX_SNSCFG_SHUNT v 100 65535
  else if o = AX_BASE0 then
    inR AX_BASE0_VBASE v 1 65535 && inR AX_BASE0_IBASE v 1 65535 && inR AX_BASE0_PP v 1 15
  else if o = AX_BASE1 then
    inR AX_BASE1_PSIBASE v 1 (2 ^ 32 - 1) && inR AX_BASE1_WBASE v 1 (2 ^ 32 - 1)
  else if o = AX_STALL then inR AX_STALL_ACT v 0 2
  else if o = AX_PCFG then inR AX_PCFG_SSRC v 0 2 && inR AX_PCFG_MODE v 0 2
  else if o = AX_SPDCFG then
    inR AX_SPDCFG_PTMO v 1 255 && inR AX_SPDCFG_WIN v 10 4095 && decide (AX_SPDCFG_SWDN.get v < AX_SPDCFG_SWUP.get v)
  else if o = AX_CATCH then
    inR AX_CATCH_LOSSMAX v 1 7 && inR AX_CATCH_LOSSWIN v 100 10000 && inR AX_CATCH_TMO v 1 1000
  else true

/-- The words of the axis block that are accepted only while the axis is OFF (R49, R110, R158, R191, R215, R241, R300). -/
def offOnly (o : Nat) : Bool :=
  [AX_TICK, AX_SMCFG, AX_PTCFG, AX_PTDT, AX_PTMAP, AX_PTBST, AX_GDCFG, AX_GDVDS, AX_SNSCFG, AX_BASE0, AX_BASE1, AX_PCFG,
    AX_SPDCFG].contains o

/-- The ranges and consistency rules of a word outside the axis blocks (R171 to R178, R188, R245, R254, R273, R323, R371, R390). -/
def State.devRangeOk (s : State) (a : Nat) (v : W64) : Bool :=
  if a = HOST_UART then inR HOST_UART_BDIV v 533 27778
  else if a = HOST_CANBT then
    inR HOST_CANBT_DSJW v 1 15 && inR HOST_CANBT_DTSEG2 v 1 15 && inR HOST_CANBT_DTSEG1 v 1 31 && inR HOST_CANBT_DBRP v 1 32 &&
      inR HOST_CANBT_NSJW v 1 127 && inR HOST_CANBT_NTSEG2 v 1 127 && inR HOST_CANBT_NTSEG1 v 2 255 && inR HOST_CANBT_NBRP v 1 32 &&
      decide (HOST_CANBT_DSJW.get v ≤ HOST_CANBT_DTSEG2.get v) && decide (HOST_CANBT_NSJW.get v ≤ HOST_CANBT_NTSEG2.get v) &&
      decide (80 ≤ HOST_CANBT_NBRP.get v * (1 + HOST_CANBT_NTSEG1.get v + HOST_CANBT_NTSEG2.get v)) &&
      decide (10 ≤ HOST_CANBT_DBRP.get v * (1 + HOST_CANBT_DTSEG1.get v + HOST_CANBT_DTSEG2.get v))
  else if a = HOST_CANID then
    HOST_CANID_XTD.get v == 1 || (inR HOST_CANID_TXID v 0 0x7FF && inR HOST_CANID_RXID v 0 0x7FF)
  else if a = CISTERN_CFG then inR CISTERN_CFG_SCKDIV v 1 63
  else if a = FUSE_ADDR then inR FUSE_ADDR_MARGIN v 0 2
  else if a = THERM_NTCCFG then inR THERM_NTCCFG_R25 v 1 65535 && inR THERM_NTCCFG_BETA v 1 65535
  else if 0xA24 ≤ a ∧ a < 0xA27 then
    let f := THERM_LVL_WARN 0
    decide (f.get v ≤ (THERM_LVL_THR 0).get v) && decide ((THERM_LVL_THR 0).get v < (THERM_LVL_FULL 0).get v) &&
      decide ((THERM_LVL_FULL 0).get v < (THERM_LVL_SHUT 0).get v) && inR (THERM_LVL_HYS 0) v 1 255 &&
      (a == 0xA26 || decide ((THERM_LVL_SHUT 0).get v ≤ 340))
  else if 0xA28 ≤ a ∧ a < 0xA2B then
    inR (THERM_RATE_MODE 0) v 0 2 && inR (THERM_RATE_RWIN 0) v 1 255 &&
      decide ((THERM_RATE_RLIM1 0).get v ≤ (THERM_RATE_RLIM2 0).get v) &&
      decide ((THERM_RATE_RHYS 0).get v < (THERM_RATE_RLIM1 0).get v)
  else if a = BUS_OV 0 ∨ a = BUS_OV 1 ∨ a = BUS_UV 0 ∨ a = BUS_UV 1 then
    let x := if a < 0xB20 then 0 else 1
    let ov := if a = BUS_OV x then v else s.dreg (BUS_OV x)
    let uv := if a = BUS_UV x then v else s.dreg (BUS_UV x)
    let o1 := (BUS_OV_OV1 x).get ov
    let u1 := (BUS_UV_UV1 x).get uv
    decide ((BUS_UV_UV2 x).get uv < u1) && decide (u1 < o1) && decide (o1 < (BUS_OV_OV2 x).get ov) &&
      decide ((BUS_OV_OV2 x).get ov < (BUS_OV_OV3 x).get ov) &&
      decide (u1 + (BUS_UV_UVHYS x).get uv + (BUS_OV_OVHYS x).get ov < o1) &&
      inR (BUS_OV_OVHYS x) ov 1 100 && inR (BUS_UV_UVHYS x) uv 1 100 && inR (BUS_UV_KBMIN x) uv 0 0x8000
  else if a = BUS_ESC 0 ∨ a = BUS_ESC 1 then inR (BUS_ESC_FLT 0) v 1 255 && inR (BUS_ESC_ESCDLY 0) v 1 1000
  else if a = BUS_BRK 0 ∨ a = BUS_BRK 1 then
    inR (BUS_BRK_MODE 0) v 0 2 && inR (BUS_BRK_PBAND 0) v 1 255 && inR (BUS_BRK_PER 0) v 2000 400000
  else if 0x2000 ≤ a ∧ a < 0x2040 then
    match a % 16 with
    | 0 => inR (ENC_CFG_MODE 0) v 0 2 && inR (ENC_CFG_ERRLIM 0) v 1 15 && inR (ENC_CFG_LINES 0) v 1 65536
    | 1 =>
      inR (ENC_SSI_TMO 0) v 1 127 && inR (ENC_SSI_POSW 0) v 1 32 && inR (ENC_SSI_WLEN 0) v 1 40 && inR (ENC_SSI_DIV 0) v 19 1999 &&
        decide ((ENC_SSI_POSLSB 0).get v + (ENC_SSI_POSW 0).get v ≤ (ENC_SSI_WLEN 0).get v) &&
        decide ((ENC_SSI_ERRPOS 0).get v < (ENC_SSI_WLEN 0).get v)
    | 2 => inR (ENC_CRC_CRCW 0) v 0 8
    | _ => true
  else if 0x2100 ≤ a ∧ a < 0x2110 then !(a % 4 == 0 && inR (PRB_CFG_SRC 0) v 4 7)
  else if 0x2200 ≤ a ∧ a < 0x2208 then !(a % 4 == 0) || inR (EMU_CFG_LINES 0) v 1 65536
  else true

/-! ### The axis block -/

/-- The stored word after a write: RW bits take the value, W1C bits that are written 1 clear (R4). -/
def merged (row : Option RegRow) (old v : W64) : W64 :=
  match row with
  | some r =>
    let rw := BitVec.ofNat 64 r.rw
    ((old &&& ~~~rw) ||| (v &&& rw)) &&& ~~~(v &&& BitVec.ofNat 64 r.w1c)
  | none => old

/-- AXn_TICK (R49): PERIOD range, then the loaded program's W against the new limit; PHASE modulo PERIOD. -/
def State.writeTick (s : State) (n : Ax) (v : W64) : State × Byte :=
  let per := AX_TICK_PERIOD.get v
  if per < 400 ∨ 40000 < per then (s, stBadFrame)
  else
    let a := s.ax n
    let w := a.get AX_WCET_WCET
    let bad := a.loaded && decide (wcetLimit per < w)
    let s := if a.loaded then s.loadDiag n (if bad then 1 else 0, w, a.get AX_WCET_COMMITS) per else s
    if bad then (s, stWcet)
    else (s.modAx n (fun a => (a.setReg AX_TICK (AX_TICK_PHASE.put (AX_TICK_PERIOD.put 0 per)
        (AX_TICK_PHASE.get v % per))).put AX_WCET_LIMIT (wcetLimit per)), stOk)

/-- A CTL word with one bit: its command (R291). -/
def ctlOp (n : Ax) (v : W64) : Option Op :=
  match v.toNat % 8 with
  | 1 => some (.enable n) | 2 => some (.stop n) | 4 => some (.clear n)
  | _ => none

/-- The counters of an axis clear (R297, R301). -/
def State.clearCounters (s : State) (n : Ax) : State :=
  s.modAx n (fun a => (List.range 5).foldl (fun (a : Axis) i => a.setReg (AX_CNT0 + i) 0) a)

/-- A write of a word of the axis block by the owning port. -/
def State.writeAxis (s : State) (n : Ax) (o : Nat) (v : W64) : State × Wr :=
  if o = AX_CTL then
    match ctlOp n v with
    | some x => (s, .hold x)
    | none => (s, .done (if v.toNat % 8 = 0 then stOk else stBadFrame))
  else if o = AX_STATEREQ then (s, .done stNotPermitted)
  else if o = AX_MBCTL then (s, if AX_MBCTL_POST.get v = 1 then .hold (.post n) else Wr.ok)
  else if 0x10 ≤ o ∧ o < 0x20 then (s, .hold (.mbox n (BitVec.ofNat 4 (o - 0x10)) [v] false))
  else if offOnly o ∧ (s.ax n).st ≠ .off then (s, .done stNotPermitted)
  else if o = AX_TICK then let r := s.writeTick n v; (r.1, .done r.2)
  else if !(s.ax n).rangeOk o v then (s, .done stBadFrame)
  else if o = AX_CNTCLR then (if AX_CNTCLR_CLR.get v = 1 then s.clearCounters n else s, Wr.ok)
  else if o = AX_PCTL then
    (if AX_PCTL_FBCLR.get v = 1 then s.modAx n (fun a => { a with pos := { a.pos with fallback := false } }) else s, Wr.ok)
  else
    let s := s.modAx n (fun a => a.setReg o (merged (axRow o) (a.reg o) v))
    if o = AX_PTMCTL ∧ AX_PTMCTL_STEP.get v = 1 then
      (s.modAx n (fun a => { a with pt := { a.pt with stepReq := true } }), Wr.ok)
    else if o = AX_CATCH ∧ AX_CATCH_CLR.get v = 1 then (s.aput n AX_CATCH_LOSSTOT 0, Wr.ok)
    else (s, Wr.ok)

/-! ### Debug (R55 to R57) -/

/-- HALT (R55): at the next instruction boundary; a WAIT ends first. MISSED clears (R62). -/
def State.haltAxis (s : State) (n : Ax) : State :=
  if (s.ax n).halted then s.modAx n (fun a => { a with missed := 0 })
  else
    let s := s.modAx n (fun a => { a with missed := 0 })
    if (s.ax n).run.wait.isSome ∨ (s.ax n).engine = none then s.modAx n (fun a => { a with haltReq := true })
    else s.haltNow n

/-- The engine of a halted axis runs again (R56): the pulse island unfreezes at the drain of the tick, or now when no tick runs. -/
def State.resumeAxis (s : State) (n : Ax) : State :=
  match (s.ax n).engine with
  | some e =>
    if (s.ax n).halted then
      let s := s.modEng e (fun g => { g with pool := .active })
      let s := s.modAx n (fun a => { a with halted := false, haltReq := false })
      if (s.ax n).run.running then s.modAx n (fun a => { a with resuming := true })
      else (s.aput n AX_PTSTAT_FROZEN 0).unfreeze n
    else s
  | none => s

/-- The engine of axis n executes the word at its PC (R65, R79). -/
def State.stepEngine (s : State) (n : Ax) : State :=
  match s.ready n with
  | some e =>
    let w := (s.ax n).pword (s.eng e).core.pc.toNat
    if !listedOpcode (opcOf w) then s.engineStop n e 4
    else if opcOf w = 0x08 then
      let was := (s.ax n).resuming
      let s := s.endTick n e
      if was then s.unfreeze n else s
    else s.engineRun n (opcOf w).toNat (fieldsOf w)
  | none => s

/-- STEP (R56): one instruction, as a halt-and-resume pair; between ticks there is no instruction to execute. The halt of the
pair clears MISSED as HALT does (log 110). -/
def State.stepAxis (s : State) (n : Ax) : State :=
  if (s.ax n).halted ∧ (s.ax n).run.running = true ∧ (s.ax n).run.wait = none then
    ((s.resumeAxis n).stepEngine n).haltAxis n
  else s

/-- ENGINE_DBGCTL: AXIS is selected, then the commands act on it. -/
def State.debugControl (s : State) (v : W64) : State :=
  let n := axisField (ENGINE_DBGCTL_AXIS.get v)
  let s := s.dput ENGINE_DBGCTL_AXIS n.val
  let s := if ENGINE_DBGCTL_HALT.get v = 1 then s.haltAxis n else s
  let s := if ENGINE_DBGCTL_RESUME.get v = 1 then s.resumeAxis n else s
  if ENGINE_DBGCTL_STEP.get v = 1 then s.stepAxis n else s

/-- What a debug write leaves in F: F[31:29] read 0, and TRQI and TRQD are never both 1 (R75); a written value that sets both
keeps TRQI (DESIGN CHOICE, log 117). -/
def dbgFlags (v : W32) : W32 :=
  let f := v &&& 0x1FFFFFFF
  if f.getLsbD fTRQI then fPut f fTRQD false else f

/-- A debug write of one register of an engine (R56, R62). -/
def Core.setDbg (c : Core) (r : Nat) (v : W64) : Core :=
  if h : r < 32 then { c with v := c.v.set r v }
  else if h : r - 32 < 16 then { c with k := c.k.set (r - 32) (v.setWidth 32) }
  else if r = 48 then { c with f := dbgFlags (v.setWidth 32) }
  else if r = 49 then { c with pc := v.setWidth 13 }
  else if r = 50 then { c with lc := v.setWidth 12 }
  else if r = 51 then { c with lk := v.setWidth 13 }
  else c

/-- ENGINE_DBGDATA (R56): the selected register of the halted selected axis. -/
def State.debugData (s : State) (v : W64) : State × Byte :=
  let n := s.dbgAxis
  match (s.ax n).halted, (s.ax n).engine with
  | true, some e => (s.modEng e (fun g => { g with core := g.core.setDbg (s.dget ENGINE_DBGSEL_REG) v }), stOk)
  | _, _ => (s, stNotPermitted)

/-! ### HOST registers (R308, R311, R314, R323) -/

/-- Every command of port p that has not started completes with a status, for the commands a test picks. -/
def State.dropUnstarted (s : State) (p : Port) (f : Cmd → Bool) (st : Byte) : State :=
  ((s.port p).cmds.filter (fun c => !c.started && f c)).foldl (fun s c => s.complete p c.tag st c.axisNo []) s

/-- HOST_PCFGk (R308, R318): SGL is clamped; EN 1 to 0 cancels what has not started; EN 0 to 1 restarts the CAN error counts. -/
def State.writePcfg (s : State) (k : Port) (v : W64) : State :=
  let a := HOST_PCFG k.val
  let was := s.dget (HOST_PCFG_EN k.val)
  let w := merged (devRow a) (s.dreg a) v
  let s := s.setDreg a ((HOST_PCFG_SGL k.val).put w (max 10 (min 1000000 ((HOST_PCFG_SGL k.val).get w))))
  let now := s.dget (HOST_PCFG_EN k.val)
  if was = 1 ∧ now = 0 then s.dropUnstarted k (fun _ => true) stCancelled
  else if was = 0 ∧ now = 1 then
    let s := s.modPort k (fun q => { q with
      rx := [], rxSeg := none, ring := q.ring.map (fun (c : Completion) => { c with sent := false }),
      notes := q.notes.map (fun (c : Note) => { c with sent := false }) })
    if k = 2 then s.setDreg HOST_CANSTAT 0 else s
  else s

/-- The axis levels of a written HOST_PERMk reduced to its ceiling (R311). -/
def reduceLevels (v c : Nat) : Nat :=
  allAx.foldl (fun m n => m + (min ((v >>> (2 * n.val)) % 4) ((c >>> (2 * n.val)) % 4)) <<< (2 * n.val)) 0

/-- HOST_PERMk (R311). -/
def State.writePerm' (s : State) (k : Port) (v : W64) : State × Byte :=
  let lv := reduceLevels ((HOST_PERM_AXIS k.val).get v) (s.dget (HOST_PERM_ACEIL k.val))
  let low := allAx.filter (fun n => s.owns k n && decide ((lv >>> (2 * n.val)) % 4 < 2))
  if low.any (fun n => (s.ax n).st != .off && (s.ax n).st != .oasis) then (s, stNotPermitted)
  else if allAx.any (fun n => ((HOST_PERM_AXIS k.val).get v >>> (2 * n.val)) % 4 == 3) then (s, stBadFrame)
  else
    let fn := (HOST_PERM_FUNC k.val).get v &&& s.dget (HOST_PERM_FCEIL k.val)
    (low.foldl (fun s n => s.setOwner n 7) ((s.dput (HOST_PERM_FUNC k.val) fn).dput (HOST_PERM_AXIS k.val) lv), stOk)

/-- HOST_OWNREQ by port p (R314). -/
def State.ownReq (s : State) (p : Port) (op : Nat) (n : Ax) : State × Byte :=
  let own := decide (2 ≤ s.permLevel p n)
  let rest := (s.ax n).st == .off || (s.ax n).st == .oasis
  let cur := s.owner n
  match op with
  | 1 =>
    if !own then (s, stNotPermitted)
    else if cur = 7 ∨ cur = p.val then ((s.setOwner n p.val).irqRise s, stOk) else (s, stNotOwner)
  | 2 =>
    if cur ≠ p.val then (s, stNotOwner)
    else if rest then (s.setOwner n 7, stOk) else (s, stNotPermitted)
  | 3 =>
    if s.isSvc p && own && rest then
      let s := (s.setOwner n p.val).irqRise s
      if h : cur < 4 then
        if cur = p.val then (s, stOk)
        else
          let q : Port := ⟨cur, h⟩
          ((s.dropUnstarted q (fun c => c.axes.getLsbD n.val) stNotOwner).notifyPort q n 0xFF01 0, stOk)
      else (s, stOk)
    else (s, stNotPermitted)
  | _ => (s, stBadFrame)

/-! ### SYS, BUS, FAULT, ENC and ENGINE registers -/

/-- SYS_STBY (R402): MODE is written; ENTER requests standby when the conditions hold. -/
def State.standbyRefused (s : State) : Bool :=
  allAx.any (fun n => ((s.ax n).st != .off && (s.ax n).st != .oasis) || ((s.ax n).st == .oasis && decide (2 ≤ s.oasisOut n))) ||
    s.fuses.busy.isSome || s.load.isSome

def State.writeStby (s : State) (p : Port) (tag : W16) (v : W64) : State × Byte :=
  if SYS_STBY_ENTER.get v = 1 ∧ s.standbyRefused = true then (s, stNotPermitted)
  else
    let s := s.dput SYS_STBY_MODE (SYS_STBY_MODE.get v)
    if SYS_STBY_ENTER.get v = 1 then (s.modPins (fun q => { q with standby := some (p, tag) }), stOk) else (s, stOk)

/-- Device, bus and link counters clear (R297, R302). -/
def State.clearDevCounters (s : State) : State :=
  ([FAULT_DCNT0, FAULT_DCNT1, FAULT_DCNT2, FAULT_DCNT3, FAULT_DCNT4, 0xC08, 0xC09, 0xC0A, 0xC0B, 0xC0C, 0xC0D, 0xC0E, 0xC0F] : List Nat).foldl
    (fun s a => s.setDreg a 0) s

/-- BUSx_BRKCTL (R253, R254): STILL_ACTIVE while OV1 of the bus is set. -/
def State.writeBrkctl (s : State) (x : Bus) (v : W64) : State × Byte :=
  if (BUS_BRKCTL_CLR x.val).get v = 1 ∧ s.dget (BUS_STAT_OV1 x.val) = 1 then (s, stStillActive)
  else
    let s := if (BUS_BRKCTL_CLR x.val).get v = 1 then
        (s.modBus x (fun b => { b with fault := false, openRun := 0, shortRun := 0, testRun := 0 })).dput (BUS_STAT_BRKFLT x.val) 0
      else s
    (if (BUS_BRKCTL_TEST x.val).get v = 1 then s.testStart x else s, stOk)

/-- BUSx_BRK (R251, R253, R255): the chopper and OV2 behaviour follow the new MODE at once; the TPER count starts again
(log 83). -/
def State.writeBrk (s : State) (x : Bus) (v : W64) : State :=
  let was := s.ov2Behaviour x
  let a := BUS_BRK x.val
  (((s.modBus x (fun b => { b with testAt := s.clk })).setDreg a (merged (devRow a) (s.dreg a) v)).chopperPeriod x none).busAfter x was

/-- BUSx_UV (R245, R246): KBUS follows the new levels. -/
def State.writeUv (s : State) (x : Bus) (v : W64) : State :=
  let a := BUS_UV x.val
  let s := s.setDreg a (merged (devRow a) (s.dreg a) v)
  s.busV x (s.dget (BUS_STAT_VBUS x.val))

/-- A configuration register of the ENC block (R171, R177, R190). -/
def State.writeEnc (s : State) (a : Nat) (v : W64) : State × Wr :=
  match ([0, 1, 2, 3] : List Chan).find? (fun k => a == ENC_REQ k.val) with
  | some k => (if (ENC_REQ_REQ k.val).get v = 1 then s.ssiStart k else s, Wr.ok)
  | none =>
    if a < 0x2040 ∧ encConfig a ∧ (s.namedAxes a v).any (fun n => (s.ax n).st != .off) then (s, .done stNotPermitted)
    else if !s.devRangeOk a v then (s, .done stBadFrame)
    else
      let s := s.setDreg a (merged (devRow a) (s.dreg a) v)
      match ([0, 1] : List Emu).find? (fun m => a == EMU_CFG m.val) with
      | some m => ({ s with emu := s.emu.set m.val { s.emu[m] with fresh := true } m.isLt }, Wr.ok)
      | none => (s, Wr.ok)

/-- The accumulated exceptions of an axis clear (R107). -/
def State.clearExc (s : State) (n : Ax) : State := s.setDreg (ENGINE_EXC n.val) 0

/-- A write of a word outside the axis blocks by port p, which has the permission of R312. A CISTERN_CTL write with FORMAT and
REMOUNT both 1 formats and does not mount (DESIGN CHOICE, log 130). -/
def State.writeDev (s : State) (p : Port) (tag : W16) (a : Nat) (v : W64) : State × Wr :=
  let store := fun (s : State) => (s.setDreg a (merged (devRow a) (s.dreg a) v), Wr.ok)
  let done := fun (r : State × Byte) => (r.1, Wr.done r.2)
  if a < 0x400 then
    if a = SYS_CLKCTL then (s.clkctl v, Wr.ok)
    else if a = SYS_ISLGATE then (s.islgate v, Wr.ok)
    else if a = SYS_TIMESET then (s.timeset v, Wr.ok)
    else if a = SYS_TIMETRIM then (s.setTrim (SYS_TIMETRIM_TRIM.sget v), Wr.ok)
    else if a = SYS_TIMELOAD then
      if s.dget SYS_TIMESTAT_STATE = timeFree then (s.stepTime v.toNat, Wr.ok) else (s, .done stNotPermitted)
    else if a = SYS_STBY then done (s.writeStby p tag v)
    else store s
  else if a < 0x800 then
    if a = HOST_OWNREQ then done (s.ownReq p (HOST_OWNREQ_OP.get v) (axisField (HOST_OWNREQ_AXIS.get v)))
    else if a < 0x440 ∧ a % 16 = 0 then (s.writePcfg ⟨(a - 0x400) / 16 % 4, by omega⟩ v, Wr.ok)
    else if a < 0x440 ∧ a % 16 = 1 then done (s.writePerm' ⟨(a - 0x400) / 16 % 4, by omega⟩ v)
    else if (a = HOST_CANBT ∨ a = HOST_CANID) ∧ s.dget (HOST_PCFG_EN 2) = 1 then (s, .done stNotPermitted)
    else if !s.devRangeOk a v then (s, .done stBadFrame)
    else if a = HOST_UART then store { s with bdivBy := some (p, tag) }
    else store s
  else if a < 0x900 then
    if a = FUSE_CMD then
      let r := s.fuseCmd p tag v
      (r.1, match r.2 with | some st => .done st | none => .runs .fuse)
    else if !s.devRangeOk a v then (s, .done stBadFrame)
    else if a = FUSE_ADDR then (s.modPort p (fun q => { q with fuseAddr := merged (devRow a) q.fuseAddr v }), Wr.ok)
    else if 0x802 ≤ a ∧ a < 0x808 then (s.modPort p (fun q => { q with fuseData := q.fuseData.setIfInBounds (a - 0x802) v }), Wr.ok)
    else (s, Wr.ok)
  else if a < 0xA00 then
    if a = CISTERN_CTL then
      if CISTERN_CTL_FORMAT.get v = 1 then
        let f := s.takeFree
        let r := f.2.formatStart p tag (BitVec.ofNat 16 (CISTERN_CTL_KEY.get v)) (f.1.getLsbD 0)
        (r.1, match r.2 with | some st => .done st | none => .runs .format)
      else if CISTERN_CTL_REMOUNT.get v = 1 then done s.remount
      else (s, Wr.ok)
    else if !s.devRangeOk a v then (s, .done stBadFrame)
    else store s
  else if a < 0xC00 then
    if a = BUS_BRKCTL 0 then done (s.writeBrkctl 0 v)
    else if a = BUS_BRKCTL 1 then done (s.writeBrkctl 1 v)
    else if !s.devRangeOk a v then (s, .done stBadFrame)
    else if a = BUS_BRK 0 then (s.writeBrk 0 v, Wr.ok)
    else if a = BUS_BRK 1 then (s.writeBrk 1 v, Wr.ok)
    else if a = BUS_UV 0 then (s.writeUv 0 v, Wr.ok)
    else if a = BUS_UV 1 then (s.writeUv 1 v, Wr.ok)
    else store s
  else if a < 0x1000 then
    if a = FAULT_CLR then (if FAULT_CLR_CLR.get v = 1 then s.clearDevCounters else s, Wr.ok)
    else if a = FAULT_FNCTL then
      let s := s.dput FAULT_FNCTL_AXMASK (FAULT_FNCTL_AXMASK.get v)
      (if FAULT_FNCTL_ACK.get v = 1 then s.dput FAULT_FNCTL_DEVLATCH 0 else s, Wr.ok)
    else (s, Wr.ok)
  else if a < 0x2400 then s.writeEnc a v
  else
    if a = ENGINE_STCTL then (s.dput ENGINE_STCTL_PERIOD (max 10 (min 1000 (ENGINE_STCTL_PERIOD.get v))), Wr.ok)
    else if a = ENGINE_DBGCTL then (s.debugControl v, Wr.ok)
    else if a = ENGINE_DBGDATA then done (s.debugData v)
    else if 0x2420 ≤ a ∧ a < 0x2428 then
      (if (ENGINE_EXC_CLR 0).get v = 1 then s.clearExc (axisField (a - 0x2420)) else s, Wr.ok)
    else store s

/-- A write of one register (R433). -/
def State.writeReg (s : State) (p : Port) (tag : W16) (a : Nat) (v : W64) : State × Wr :=
  match place a with
  | .axis n o => s.writeAxis n o v
  | .dev d => s.writeDev p tag d v
  | .none => (s, .done stBadFrame)

/-- The value that a 16-bit slice write gives the register (R328): the other RW bits keep their values, bits that clear or
trigger when written 1 outside the slice stay 0. -/
def State.sliceValue (s : State) (p : Port) (a : Nat) (k : BitVec 2) (v : W16) : W64 :=
  let row := match place a with | .axis _ o => axRow o | .dev d => devRow d | .none => none
  let cur := s.readReg (some p) a &&& (match row with | some r => BitVec.ofNat 64 r.rw | none => 0)
  let sh := 16 * k.toNat
  (cur &&& ~~~((0xFFFF : W64) <<< sh)) ||| (v.setWidth 64 <<< sh)

end Sys2Proof.Machine
end

