-- ==== Sys2Proof/Machine/Packets.lean ====
section
/-! DEFINITION. What the ports send: G1 and G2 response words (R329, R330), G3 packets (R336, R340) and their transports
(R343). -/

namespace Sys2Proof.Machine

open Sys2Proof

/-! ### G1 and G2 response words -/

/-- The 16 data bits of a completion. -/
def Completion.data16 (c : Completion) : Nat := (c.data.headD 0).toNat % 2 ^ 16

/-- A G1 response (R329): tag, status code or 15 for none, data. -/
def g1Word (c : Option Completion) : W32 :=
  match c with
  | some c => BitVec.ofNat 32 ((c.tag.toNat % 16) * 2 ^ 20 + (c.status.toNat % 16) * 2 ^ 16 + c.data16)
  | none => 0xF0000

/-- A G2 word with its CRC, from bits 31 to 8 (R330). -/
def g2Word (top : Nat) : W32 :=
  BitVec.ofNat 32 (top * 256 + (crc8 [BitVec.ofNat 8 (top / 65536), BitVec.ofNat 8 (top / 256), BitVec.ofNat 8 top]).toNat)

/-- A G2 response (R330). -/
def g2Resp (c : Option Completion) : W32 :=
  match c with
  | some c => g2Word ((c.status.toNat % 16) * 2 ^ 20 + (c.tag.toNat % 16) * 2 ^ 16 + c.data16)
  | none => g2Word (15 * 2 ^ 20)

/-! ### G3 packets (R335, R336, R340) -/

/-- Header, data words and trailer. -/
def g3Packet (typ op : Nat) (tag : W16) (axis : BitVec 4) (arg : W16) (cnt : Nat) (data : List W64) : List W64 :=
  let h := BitVec.ofNat 64 (typ * 2 ^ 60 + op * 2 ^ 52 + tag.toNat * 2 ^ 36 + axis.toNat * 2 ^ 32 + arg.toNat * 2 ^ 16 +
    cnt * 2 ^ 10 + data.length % 1024)
  let body := h :: data
  body ++ [BitVec.ofNat 64 ((data.length + 2) * 2 ^ 48 + (crc32c (bytesOf body)).toNat)]

/-- A completion packet; inline ones carry INLINE = 1 and CSEQ 0; a WRITE that a register refused carries the number of
registers written in place of CSEQ (R339, log 62). -/
def Completion.packet (c : Completion) (inline : Bool) : List W64 :=
  g3Packet 2 c.status.toNat c.tag c.axis (if inline then 0 else c.wrote.getD c.cseq) (if inline then 32 else 0) (c.time :: c.data)

/-- A notification packet. -/
def Note.packet (n : Note) : List W64 := g3Packet 3 0 n.code n.axis n.nseq 0 [n.time, n.value.setWidth 64]

/-- A word on the wire: check byte, then the payload (R335). -/
def wireWord (w : W64) : List Byte := hsiao w :: wordBytes w

/-- Words on the wire. -/
def wireWords (ws : List W64) : List Byte := ws.flatMap wireWord

/-- A UART packet between flags, with its escapes (R343). -/
def uartWrap (bs : List Byte) : List Byte :=
  [0x7E] ++ bs.flatMap (fun b => if b = 0x7D ∨ b = 0x7E then [0x7D, b ^^^ 0x20] else [b]) ++ [0x7E]

/-- The data length a last CAN FD segment of k words is padded to (R343). -/
def canLength (k : Nat) : Nat := [1, 12, 20, 32, 48, 48, 64, 64].getD k 64

/-- CAN FD segments of a packet: number i, the words left (R343). -/
def canSegments : Nat → Nat → List W64 → List (List Byte)
  | 0, _, _ => []
  | k + 1, i, ws =>
    let t := ws.drop 7
    let seq := (if i = 0 then 128 else 0) + (if t.isEmpty then 64 else 0) + i % 64
    let body := BitVec.ofNat 8 seq :: wireWords (ws.take 7)
    (body ++ List.replicate (canLength (ws.take 7).length - body.length) 0) ::
      (if t.isEmpty then [] else canSegments k (i + 1) t)

/-! ### Sending -/

/-- A frame that the CAN FD port sends (R305): identifier TXID in the format of XTD, bit-rate switching under BRSEN in an FD
frame. -/
def State.canFrame (s : State) (fd : Bool) (data : List Byte) : CanFrame :=
  { ident := BitVec.ofNat 29 (s.dget HOST_CANID_TXID), ext := s.dget HOST_CANID_XTD == 1, fd := fd,
    brs := fd && s.dget HOST_CANBT_BRSEN == 1, data := data }

/-- The CAN FD port can carry G3, which takes FD frames (R343): FDEN = 1, and it is not in bus-off (R305, log 129). -/
def State.canCarries (s : State) : Bool := s.dget HOST_CANBT_FDEN == 1 && s.dget HOST_CANSTAT_STATE != 2

/-- A G3 packet leaves port p: an SPI port holds its words for the next frame; CAN FD and UART send at once (R343). -/
def State.send (s : State) (p : Port) (ws : List W64) : State :=
  s.modPort p (fun q =>
    if p.val < 2 then { q with tx := q.tx ++ ws }
    else if p.val = 3 then { q with sentBytes := uartWrap (wireWords ws) }
    else if s.canCarries then { q with sentFrames := (canSegments ws.length 0 ws).map (s.canFrame true) }
    else q)

/-- A completion as it is delivered: ABANDONED_RESET carries the TIME of its delivery (R296). -/
def State.delivered (s : State) (c : Completion) : Completion :=
  if c.status = stAbandoned then { c with time := s.time, sent := true } else { c with sent := true }

/-- Completions and notifications not yet sent leave a G3 port, oldest first (R321, R340). -/
def State.feed (s : State) (p : Port) : State :=
  let q := s.port p
  let s := (q.ring.filter (fun c => !c.sent)).foldl (fun s c => s.send p ((s.delivered c).packet false)) s
  let s := (q.notes.filter (fun n => !n.sent)).foldl (fun s n => s.send p n.packet) s
  s.modPort p (fun q => { q with
    ring := q.ring.map (fun (c : Completion) => if c.sent then c else s.delivered c)
    notes := q.notes.map (fun (n : Note) => { n with sent := true }) })

/-- Port p receives: the device runs, the boot has ended, the port is enabled (R308, R399). -/
def State.portUp (s : State) (p : Port) : Bool :=
  s.pins.powered && !s.pins.asleep && !s.pins.noClock && s.dget SYS_BOOT_STEP == 7 && s.dget (HOST_PCFG_EN p.val) == 1

/-- CAN FD and UART send what has been posted, in G3 (R340, R343), when they can carry it. -/
def State.sendPosted (s : State) : State :=
  ([2, 3] : List Port).foldl (fun s p =>
    if s.portUp p && s.gen p == 3 && (p != 2 || s.canCarries) then s.feed p else s) s

/-! ### What a frame or packet from the host holds -/

/-- Bits as a number, first bit most significant. -/
def bitsNat (l : List Bool) : Nat := l.foldl (fun n b => 2 * n + (if b then 1 else 0)) 0

/-- Bytes as a number, first byte most significant. -/
def bytesNat (l : List Byte) : Nat := l.foldl (fun n b => 256 * n + b.toNat) 0

/-- Bits as whole bytes, first bit most significant. -/
def bitBytes : Nat → List Bool → List Byte
  | 0, _ => []
  | k + 1, l => BitVec.ofNat 8 (bitsNat (l.take 8)) :: bitBytes k (l.drop 8)

/-- The CAN FD port takes a frame (R305). -/
def State.canTakes (s : State) (ident : BitVec 29) (ext fd remote : Bool) : Bool :=
  s.portUp 2 && s.dget HOST_CANSTAT_STATE != 2 && !remote && ident.toNat == s.dget HOST_CANID_RXID &&
    ext == (s.dget HOST_CANID_XTD == 1) && (!fd || s.dget HOST_CANBT_FDEN == 1)

/-- A G2 request has 32 bits and a good CRC (R330). -/
def g2Good (len v : Nat) : Bool := len = 32 && g2Word (v / 256) == BitVec.ofNat 32 v

/-- The fields of a header word (R336). -/
def hdrLen (h : W64) : Nat := h.toNat % 1024
def hdrCnt (h : W64) : Nat := h.toNat / 2 ^ 10 % 64
def hdrArg (h : W64) : W16 := (h >>> 16).setWidth 16
def hdrAxis (h : W64) : BitVec 4 := (h >>> 32).setWidth 4
def hdrTag (h : W64) : W16 := (h >>> 36).setWidth 16
def hdrOp (h : W64) : Nat := h.toNat / 2 ^ 52 % 256
def hdrType (h : W64) : Nat := h.toNat / 2 ^ 60

/-- b comes after a, modulo 2^16. -/
def later (a b : W16) : Bool := let d := (b - a).toNat; decide (0 < d ∧ d < 2 ^ 15)

/-- The operation of a G3 command with the fields of its header; none is a form error (R338, R370). The parts of a load or a
USER stream, PING and the two BEGINs are handled apart. -/
def g3Op (op : Nat) (axis : BitVec 4) (arg : W16) (cnt : Nat) (ds : List W64) : Option Op :=
  let n := axisField axis.toNat
  let onAx := fun (o : Op) => if axis.toNat < 8 ∧ ds.isEmpty then some o else none
  let one := fun (f : W64 → Option Op) => match ds with | [d] => f d | _ => none
  let bare := fun (o : Op) => if ds.isEmpty then some o else none
  match op with
  | 0x01 => bare (.rd arg (cnt + 1) none)
  | 0x02 => if ds.length = cnt + 1 then some (.wr arg ds) else none
  | 0x03 =>
    if axis.toNat < 8 ∧ ds ≠ [] ∧ ds.length ≤ 16 - arg.toNat % 16 then some (.mbox n (arg.setWidth 4) ds (arg.getLsbD 8)) else none
  | 0x04 => onAx (.enable n)
  | 0x05 => onAx (.stop n)
  | 0x06 => onAx (.clear n)
  | 0x07 => onAx (.own n (arg.setWidth 2))
  | 0x0B => bare (.applyBoot ((arg >>> 8).setWidth 8))
  | 0x13 => one (fun d =>
      let k := d.toNat / 2 ^ 32 % 1024 + 1
      if k ≤ 1020 then some (.userRead (arg.setWidth 8) (d.toNat % 2 ^ 32) k) else none)
  | 0x14 => bare (.userDelete (arg.setWidth 8))
  | 0x15 => one (fun d => some (.logRead (d.setWidth 32)))
  | 0x16 => one (fun d => some (.traceRead (d.setWidth 32)))
  | 0x17 => bare (.lifeRead (arg.setWidth 5))
  | 0x18 => bare (.bootSelect (arg.getLsbD 0))
  | _ => none

/-- The trailer of a packet counts its words and has their CRC (R336). -/
def trailerGood (h : W64) (ds : List W64) (tr : W64) : Bool :=
  tr.toNat / 2 ^ 48 == hdrLen h + 2 && tr.setWidth 32 == crc32c (bytesOf (h :: ds))

/-- A word joins the packet being received: fill is dropped, a whole packet comes out (R335, R336). -/
def rxPush (rx : List W64) (w : W64) : List W64 × Option (List W64) :=
  if rx.isEmpty && w == 0 then ([], none)
  else
    let rx := rx ++ [w]
    if rx.length = hdrLen (rx.headD 0) + 2 then ([], some rx) else (rx, none)

/-- The words not to be looked at after an uncorrectable one: the rest of its packet; on CAN FD the rest of the segment, of at
most 7 words, whose packet ends with it (R335, R343). -/
def rxLeft (p : Port) (rx : List W64) : Nat :=
  if p.val = 2 then 7 else match rx with | [] => 0 | h :: t => hdrLen h - t.length

/-- The whole packets among k received words of nine bytes each, as they will be taken. -/
def rxPackets (p : Port) : Nat → Nat → List W64 → List Byte → List (List W64)
  | 0, _, _, _ => []
  | k + 1, skip, rx, bs =>
    let go := fun (skip : Nat) (rx : List W64) => rxPackets p k skip rx (bs.drop 9)
    let push := fun (w : W64) => match rxPush rx w with | (rx, some ws) => ws :: go 0 rx | (rx, none) => go 0 rx
    if skip ≠ 0 then go (skip - 1) rx
    else match hsiaoDecode (wordOf ((bs.drop 1).take 8)) (bs.headD 0) with
      | .clean w => push w
      | .corrected w => push w
      | .bad => go (rxLeft p rx) []

/-- The operation that a good command packet asks for, with its tag (R336, R338, R345, R370). -/
def packetOp (ws : List W64) : Option (W16 × Op) :=
  match ws with
  | h :: t =>
    let ds := t.dropLast
    if trailerGood h ds (t.getLastD 0) && hdrType h == 1 && (t.getLastD 0).toNat / 2 ^ 32 % 2 ^ 16 == 0 then
      (match hdrOp h, ds with
        | 0x08, [] => some (Op.load ((hdrArg h >>> 8).setWidth 8) ((hdrArg h).getLsbD 0))
        | 0x10, [d] => some (Op.user ((hdrArg h).setWidth 8) d)
        | op, ds => g3Op op (hdrAxis h) (hdrArg h) (hdrCnt h) ds).map (fun o => (hdrTag h, o))
    else none
  | [] => none

/-! ### Discards (R335, R342) -/

/-- A detected link fault of port p (R278, R302). -/
def State.linkCrc (s : State) (p : Port) : State := (s.count 36 (10 + p.val)).detect 36 (10 + p.val) 0

/-- A host packet is discarded: the open packet is lost, LINK_CRC counts, a discard link packet is sent (R342). -/
def State.discardPacket (s : State) (p : Port) : State :=
  let s := (s.linkCrc p).modPort p (fun q => { q with rx := [], rxSeg := none, skip := 0, discards := q.discards + 1 })
  s.send p (g3Packet 4 1 0 15 (s.port p).discards 0 [])

end Sys2Proof.Machine
end

