-- ==== Sys2Proof/Machine/HostPump.lean ====
section
/-! DEFINITION. Commands from the host ports: the arrival checks (R316), arbitration (R319), slots, and the start of every
command in the order of issue (R317), with what each does when it starts. -/

namespace Sys2Proof.Machine

open Sys2Proof

/-! ### Refusal on arrival (R316, R399 to R402) -/

/-- An inline completion (R316, R340): a G3 packet, or what G1 and G2 answer next (on SPI the response of the next frame, on
CAN FD a frame of its own, R334), whose tag is not stated (log 48). -/
def State.inline (s : State) (p : Port) (tag : W16) (st : Byte) (axis : BitVec 4) : State :=
  let c : Completion := { tag := tag, status := st, axis := axis, data := [], time := s.time, cseq := 0, wrote := none, sent := false }
  if s.gen p = 3 then s.send p (c.packet true)
  else
    let f := s.takeFree
    f.2.modPort p (fun q => { q with
      inl := if p.val < 2 then [{ c with tag := f.1.setWidth 16 }] else q.inl ++ [{ c with tag := f.1.setWidth 16, cseq := q.cseq }] })

/-- A command is refused: it takes no slot, LASTREF shows why (R316). -/
def State.refuse (s : State) (p : Port) (tag : W16) (st : Byte) (axis : BitVec 4) : State :=
  (s.dput (HOST_QSTAT_LASTREF p.val) st.toNat).inline p tag st axis

/-- The registers an operation addresses. -/
def Op.addrs : Op → List Nat
  | .rd a n _ => (List.range n).map (a.toNat + ·)
  | .win a _ => [a.toNat]
  | .wr a vs => (List.range vs.length).map (a.toNat + ·)
  | .wrSlice a _ _ => [a.toNat]
  | .fmt _ _ => [CISTERN_CTL]
  | _ => []

/-- A tag of port p that still holds a slot (R315, R337). -/
def State.tagUsed (s : State) (p : Port) (tag : W16) : Bool :=
  (s.port p).cmds.any (fun c => c.tag == tag) || (s.port p).ring.any (fun c => c.tag == tag)

/-- The first failing permission of a list of register writes (R312). -/
def State.writePerms (s : State) (p : Port) : Nat → List W64 → Option Byte
  | _, [] => none
  | a, v :: t => match s.writePerm p a v with | some st => some st | none => s.writePerms p (a + 1) t

/-- A Caravan load needs program load, the Cistern permission to store, and every targeted axis (R312, R345). -/
def State.loadPerm (s : State) (p : Port) (m : Byte) (store : Bool) : Option Byte :=
  if !s.func p fnLoad || (store && !s.func p fnCistern) then some stNotPermitted
  else if (maskAxes m).all (fun n => s.owns p n) then none else some stNotOwner

/-- Permission of an operation (R312, R370). -/
def State.opPerm (s : State) (p : Port) (o : Op) : Option Byte :=
  let own := fun (n : Ax) => if s.owns p n then none else some stNotOwner
  let cis := needs (s.func p fnCistern)
  match o with
  | .rd _ _ _ | .win _ _ =>
    if o.addrs.any (fun a => match place a with | .axis n _ => s.permLevel p n == 0 | _ => false) then some stNotOwner else none
  | .wr a vs => s.writePerms p a.toNat vs
  | .wrSlice a k v => s.writePerm p a.toNat (s.sliceValue p a.toNat k v)
  | .mbox n _ _ _ | .mbq n _ _ _ | .post n | .enable n | .stop n | .clear n => own n
  | .load m store => s.loadPerm p m store
  | .applyBoot m => s.loadPerm p m false
  | .user _ _ | .userDelete _ | .bootSelect _ | .fmt _ _ => cis
  | _ => none

/-- The arrival checks 1 to 3 of R316, with R332 for G2. -/
def State.arrival (s : State) (p : Port) (tag : W16) (o : Op) : Option Byte :=
  if s.gen p = 3 ∧ s.tagUsed p tag = true then some stBadFrame
  else if o.addrs.any (fun a => match place a with | .none => true | _ => false) then some stBadFrame
  else if s.gen p = 2 ∧ o.addrs.any (fun a => decide (0x800 ≤ a ∧ a < 0xA00)) = true then some stNotPermitted
  else match s.opPerm p o with
    | some st => some st
    | none => if 16 ≤ (s.port p).slots then some stQueueFull else none

/-! ### Arbitration (R319) -/

/-- The contended resource a request is for. -/
def Op.res : Op → Option Rsc
  | .own n _ => some (.own n)
  | .wr a vs =>
    if a.toNat ≤ HOST_OWNREQ ∧ HOST_OWNREQ < a.toNat + vs.length then
      some (.own (axisField (HOST_OWNREQ_AXIS.get (vs.getD (HOST_OWNREQ - a.toNat) 0))))
    else if a.toNat ≤ FUSE_CMD ∧ FUSE_CMD < a.toNat + vs.length then some .fuse
    else none
  | .wrSlice a k v =>
    if a.toNat = HOST_OWNREQ ∧ k = 0 then some (.own (axisField (HOST_OWNREQ_AXIS.get (v.setWidth 64)))) else none
  | .load _ true => some .adm
  | .user _ _ => some .adm
  | _ => none

/-- The resource's own rule accepts the request: what it refuses is no contention. -/
def State.resGranted (s : State) (p : Port) (o : Op) : Bool :=
  let own := fun (n : Ax) (op : Nat) => (s.ownReq p op n).2 == stOk
  let fuse := fun (v : W64) => match (s.fuseCmd p 0 v).2 with | none => true | some st => st == stOk
  match o with
  | .own n op => own n op.toNat
  | .wr a vs =>
    let v := fun (r : Nat) => vs.getD (r - a.toNat) 0
    if a.toNat ≤ HOST_OWNREQ ∧ HOST_OWNREQ < a.toNat + vs.length then
      own (axisField (HOST_OWNREQ_AXIS.get (v HOST_OWNREQ))) (HOST_OWNREQ_OP.get (v HOST_OWNREQ))
    else fuse (v FUSE_CMD)
  | .wrSlice _ _ v => own (axisField (HOST_OWNREQ_AXIS.get (v.setWidth 64))) (HOST_OWNREQ_OP.get (v.setWidth 64))
  | .load _ _ => s.load.isNone && s.streamRefusal.isNone && !s.admHeld p
  | .user _ _ => s.stream.isNone && s.streamRefusal.isNone && !s.admHeld p
  | _ => false

/-- The word a fuse command writes. -/
def fuseCmdWord (op cnt : Nat) : W64 := FUSE_CMD_CNT.put (FUSE_CMD_OP.put 0 op) cnt

/-- The requests that the rows for single commands make of contended resources. -/
def hostOp : Instr → Option (Port × W16 × Op)
  | .claim p tag n => some (p, tag, .own n 1)
  | .release p tag n => some (p, tag, .own n 2)
  | .forceClaim p tag n => some (p, tag, .own n 3)
  | .program p tag cnt => some (p, tag, .wr (BitVec.ofNat 16 FUSE_CMD) [fuseCmdWord 1 cnt.toNat])
  | .seal p tag => some (p, tag, .wr (BitVec.ofNat 16 FUSE_CMD) [fuseCmdWord 2 0])
  | .fuseRead p tag => some (p, tag, .wr (BitVec.ofNat 16 FUSE_CMD) [fuseCmdWord 3 0])
  | .loadBegin p tag m true => some (p, tag, .load m true)
  | .userBegin p tag b n => some (p, tag, .user b n)
  | .write p tag a vs => some (p, tag, .wr a vs)
  | .registerWrite p tag a v => some (p, tag, .wr a [v])
  | _ => none

/-- The request of a G2 frame of port p: OWN, and WR through the address pointer. -/
def State.g2Ops (s : State) (p : Port) (len v : Nat) : List (Port × W16 × Op) :=
  let ax := v / 2 ^ 24 % 16
  let data := BitVec.ofNat 16 (v / 256)
  if !g2Good len v then []
  else if v / 2 ^ 28 = 4 ∧ ax < 8 then [(p, 0, .own (axisField ax) (data.setWidth 2))]
  else if v / 2 ^ 28 = 10 then [(p, 0, .wrSlice (s.port p).addr (BitVec.ofNat 2 ax) data)]
  else []

/-- The requests of the packets of a G3 frame: k words of nine bytes after what was received. -/
def State.g3Ops (s : State) (p : Port) (rx : List W64) (k : Nat) (bs : List Byte) : List (Port × W16 × Op) :=
  ((rxPackets p k (s.port p).skip rx bs).filterMap packetOp).map (fun x => (p, x.1, x.2))

/-- The requests for contended resources in a command of the queue: a row for one, or a frame of a port (R319). -/
def State.requests (s : State) (i : Instr) : List (Port × W16 × Op) :=
  match i with
  | .spiFrame p bits =>
    if 2 ≤ p.val then []
    else if s.gen p = 2 then s.g2Ops p bits.length (bitsNat bits)
    else if s.gen p = 3 then s.g3Ops p (s.port p).rx (bits.length / 72) (bitBytes (bits.length / 8) bits)
    else []
  | .canFrame ident ext fd remote data =>
    let first := (data.headD 0).getLsbD 7
    if !s.canTakes ident ext fd remote then []
    else if s.gen 2 = 2 then s.g2Ops 2 (8 * data.length) (bytesNat data)
    else if fd && (first || (s.port 2).rxSeg == some ((data.headD 0).toNat % 64)) then
      s.g3Ops 2 (if first then [] else (s.port 2).rx) ((data.length - 1) / 9) (data.drop 1)
    else []
  | .wr p k v => if s.gen p = 2 then [(p, 0, .wrSlice (s.port p).addr k v)] else []
  | i => (hostOp i).toList

/-- The SYS cycle of the present base tick. -/
def State.sysCycle (s : State) : Nat := s.clk / 2

/-- Port p has lost resource r in this SYS cycle. -/
def State.hasLost (s : State) (r : Rsc) (p : Port) : Bool :=
  s.contest.any (fun (x : Rsc × Nat × Port) => x.1 == r && x.2.1 == s.sysCycle && x.2.2 == p)

/-- Port k, which has not lost it already, has a request for resource r waiting in the same SYS cycle. -/
def State.rival (s : State) (r : Rsc) (k : Port) : Bool :=
  !s.hasLost r k && s.pending.any (fun i => (s.requests i).any (fun x =>
    x.1 == k && x.2.2.res == some r && s.portUp k && (s.arrival k x.2.1 x.2.2).isNone && s.resGranted k x.2.2))

/-- The first of a list of ports, counted upward from a port, modulo 4. -/
def firstFrom (t : Nat) (ps : List Port) : Port :=
  ((List.range 4).map (fun i => (⟨(t + i) % 4, by omega⟩ : Port))).find? (fun k => ps.contains k) |>.getD 0

/-- Arbitration of a request that reaches a contended resource: true when port p loses (R319). -/
def State.contend (s : State) (p : Port) (o : Op) : State × Bool :=
  match o.res with
  | none => (s, false)
  | some r =>
    if s.hasLost r p then (s, true)
    else if !s.resGranted p o then (s, false)
    else
      let rivals := allPorts.filter (fun k => k != p && s.rival r k)
      if rivals.isEmpty then (s, false)
      else
        let ps := p :: rivals
        let w := firstFrom (s.dget HOST_ARB_TOKEN) ps
        let l := (ps.filter (fun k => k != w)).map (fun k => (r, s.sysCycle, k))
        (({ s with contest := s.contest.filter (fun (x : Rsc × Nat × Port) => x.2.1 == s.sysCycle) ++ l }).dput HOST_ARB_TOKEN
          ((w.val + 1) % 4), p != w)

/-! ### The mailbox (R50, R51, R284) -/

/-- Axis n is migrating: a need for a spare has not reached step 6 of R281. -/
def State.migrating (s : State) (n : Ax) : Bool := s.pool.needs.any (fun x => x.axis == n)

/-- A mailbox write or POST may be carried out now (R51, R284). -/
def State.mbFree (s : State) (n : Ax) : Bool :=
  s.aget n AX_MBCTL_PEND == 0 && decide ((s.ax n).mb.copyUntil ≤ s.clk) && !s.migrating n

/-- Words of the inactive inbound page. -/
def State.mbPut (s : State) (n : Ax) : Nat → List W64 → State
  | _, [] => s
  | i, v :: t => if i < 16 then (s.modAx n (fun a => a.setD (inWord (!a.mb.inPage) i) v)).mbPut n (i + 1) t else s

/-- POST (R50): the swap is pending; with no running tick it happens at once, within the 1 µs. -/
def State.doPost (s : State) (n : Ax) : State :=
  let s := s.aput n AX_MBCTL_PEND 1
  if s.ticks n then s else s.mbSwap n

/-- A swap that was pending when the ticks of axis n ended (R50). -/
def State.idleSwap (s : State) (n : Ax) : State :=
  if s.aget n AX_MBCTL_PEND = 1 ∧ s.ticks n = false ∧ s.migrating n = false then s.mbSwap n else s

/-! ### What a command does when it starts -/

/-- Whether a register write may act now: its island runs (R20), no migration holds a debug request (R284). -/
def State.regReady (s : State) (a : Nat) (v : W64) : Bool :=
  match place a with
  | .axis n o => s.islOk n o
  | .dev d => !(d == ENGINE_DBGCTL && s.migrating (axisField (ENGINE_DBGCTL_AXIS.get v)))
  | .none => true

/-- How far a WRITE comes: ended with a status and the values not written, in progress as an operation, waiting at a register,
or at a state command. -/
inductive WrEnd where
  | fin (st : Byte) (vs : List W64)
  | runs (o : Op)
  | waits (a : Nat) (vs : List W64)
  | state (o : Op) (a : Nat) (vs : List W64)
  deriving DecidableEq, Repr

/-- A WRITE applies its registers in address order and stops at the first refused (R339); `ran` is a fuse command or FORMAT
that one of them started. -/
def State.writeRegs (s : State) (p : Port) (tag : W16) : Option Op → Nat → List W64 → State × WrEnd
  | ran, _, [] => (s, match ran with | some o => .runs o | none => .fin stOk [])
  | ran, a, v :: t =>
    if !s.regReady a v then (s, .waits a (v :: t))
    else
      let r := s.writeReg p tag a v
      match r.2 with
      | .done st => if st = stOk then r.1.writeRegs p tag ran (a + 1) t else (r.1, .fin st (v :: t))
      | .runs o => r.1.writeRegs p tag (some o) (a + 1) t
      | .hold (.mbox n i vs _) =>
        if s.mbFree n then (r.1.mbPut n i.toNat vs).writeRegs p tag ran (a + 1) t else (s, .waits a (v :: t))
      | .hold (.post n) => if s.mbFree n then (r.1.doPost n).writeRegs p tag ran (a + 1) t else (s, .waits a (v :: t))
      | .hold o => (r.1, .state o (a + 1) t)

/-- A 16-bit slice of a value. -/
def slice16 (w : W64) (k : Nat) : W64 := ((w >>> (16 * k)).setWidth 16).setWidth 64

/-- A read of registers (R327, R331, R338), when every island it addresses runs (R20). -/
def State.readNow (s : State) (p : Port) (o : Op) : Option (List W64) :=
  if o.addrs.all (fun a => match place a with | .axis n k => s.islOk n k | _ => true) then
    match o with
    | .rd a n none => some ((List.range n).map (fun i => s.readReg (some p) (a.toNat + i)))
    | .rd a _ (some k) => some [slice16 (s.readReg (some p) a.toNat) k.toNat]
    | .win a lo => some [((s.readReg (some p) a.toNat >>> lo).setWidth 16).setWidth 64]
    | _ => none
  else none

/-- A Cistern read: none while it has to wait, else its status and data (R352, R366, R370). -/
def State.storeRead (s : State) (life : Bool) (f : State → State × List W64) : Option (State × Byte × List W64) :=
  let c := s.cis
  if c = cisNone ∨ c = cisFailed then some (s, stDeviceFault, [])
  else if c = cisReady ∧ (life = false ∨ s.dget CISTERN_STAT_LIFERDY = 1) then let r := f s; some (r.1, stOk, r.2)
  else none

/-- A USER_DELETE (R370). -/
def State.deleteBlob (s : State) (b : Byte) : State × Byte :=
  match s.streamRefusal with
  | some st => (s, st)
  | none => (s.modStore (fun c => { c with blobs := c.blobs.filter (fun (x : Byte × Nat × List W64) => x.1 != b), dirty := true }), stOk)

/-- APPLY_BOOT (R345, R346): refused while another port's load runs. -/
def State.applyBootNow (s : State) (p : Port) (m : Byte) : State × Byte :=
  if s.load.any (fun l => l.port != p) then (s.loadRecord m [] 0 stNotPermitted, stNotPermitted) else s.applyBoot m

/-- What the start of an operation gives: it must still wait, it ends with a status and data, it runs on, or a state command
decides by its own rule. -/
inductive Start where
  | waits
  | ends (s : State) (st : Byte) (data : List W64)
  | runs (s : State) (o : Op)
  | rewrites (s : State) (a : Nat) (vs : List W64)
  | state (s : State) (n : Ax) (o : Op) (rest : Option (W16 × List W64))

/-- The axis of a state command. -/
def stateAxis : Op → Ax
  | .enable n => n
  | .stop n => n
  | .clear n => n
  | _ => 0

/-- Engine writes may still drain in this SYS cycle: a tick runs (R53). -/
def State.mayDrain (s : State) : Bool := allAx.any (fun n => (s.ax n).run.running)

/-- An operation of port p starts, if it can (R317). While engine writes may still drain in the SYS cycle, a slice write waits
for its end, since they apply first (R328). -/
def State.start (s : State) (p : Port) (tag : W16) (c : Cmd) : Start :=
  let okay := fun (r : State × Byte) => Start.ends r.1 r.2 []
  match c.op with
  | .rd a n k => match s.readNow p (.rd a n k) with | some d => .ends s stOk d | none => .waits
  | .win a lo => match s.readNow p (.win a lo) with | some d => .ends s stOk d | none => .waits
  | .wr a vs =>
    let r := s.writeRegs p tag none a.toNat vs
    let wrote := fun (k : Nat) => r.1.addWrote p tag (vs.length - k)
    match r.2 with
    | .fin st ws => .ends (wrote ws.length) st []
    | .runs o => .runs r.1 o
    | .waits b ws => if ws.length = vs.length then .waits else .rewrites (wrote ws.length) b ws
    | .state o b ws => .state (wrote (ws.length + 1)) (stateAxis o) o (if ws.isEmpty then none else some (BitVec.ofNat 16 b, ws))
  | .wrSlice a k v =>
    if s.mayDrain && !s.cycleEnd then .waits
    else
    let r := s.writeRegs p tag none a.toNat [s.sliceValue p a.toNat k v]
    match r.2 with
    | .fin st _ => .ends r.1 st []
    | .runs o => .runs r.1 o
    | .waits _ _ => .waits
    | .state o _ _ => .state r.1 (stateAxis o) o none
  | .mbox n i vs post =>
    if s.mbFree n then let t := s.mbPut n i.toNat vs; .ends (if post then t.doPost n else t) stOk [] else .waits
  | .mbq n w q v =>
    if s.mbFree n then
      let cur := (s.ax n).dword (inWord (!(s.ax n).mb.inPage) w.toNat)
      let sh := 16 * q.toNat
      .ends (s.mbPut n w.toNat [(cur &&& ~~~((0xFFFF : W64) <<< sh)) ||| (v.setWidth 64 <<< sh)]) stOk []
    else .waits
  | .post n => if s.mbFree n then .ends (s.doPost n) stOk [] else .waits
  | .enable n => .state s n (.enable n) c.rest
  | .stop n => .state s n (.stop n) c.rest
  | .clear n => .state s n (.clear n) c.rest
  | .own n o => okay (s.ownReq p o.toNat n)
  | .value v => .ends s stOk [v.setWidth 64]
  | .applyBoot m => okay (s.applyBootNow p m)
  | .user b n =>
    let r := s.userStart p tag b n.toNat
    match r.2 with | some st => .ends r.1 st [] | none => .runs r.1 (.user b n)
  | .userRead b off cnt =>
    match s.storeRead false (fun s => (s, s.userData b off cnt)) with | some r => .ends r.1 r.2.1 r.2.2 | none => .waits
  | .userDelete b => okay (s.deleteBlob b)
  | .logRead q =>
    match s.storeRead false (fun s => s.ringData s.store.log.flatten q) with | some r => .ends r.1 r.2.1 r.2.2 | none => .waits
  | .traceRead q =>
    match s.storeRead false (fun s => s.ringData s.store.trace.flatten q) with | some r => .ends r.1 r.2.1 r.2.2 | none => .waits
  | .lifeRead u =>
    match s.storeRead true (fun s => (s, s.lifeData u.toNat)) with | some r => .ends r.1 r.2.1 r.2.2 | none => .waits
  | .bootSelect b =>
    let r := s.bootSelect p tag (if b then 1 else 0)
    match r.2 with | some st => .ends r.1 st [] | none => .runs r.1 (.bootSelect b)
  | .fmt key ans =>
    let r := s.formatStart p tag key ans
    match r.2 with | some st => .ends r.1 st [] | none => .runs r.1 .format
  | .load _ _ | .format | .fuse => .waits

/-- A later ENABLE, STOP or CLEAR of the axis supersedes a held ENABLE when it is accepted (R292). -/
def State.supersedes (s : State) : Op → State
  | .enable n => s.supersede n
  | .stop n => s.supersede n
  | .clear n => s.supersede n
  | _ => s

/-- One step of a command of port p: its operation starts, and a WRITE goes on while it can. -/
def State.advance : Nat → State → Port → W16 → State
  | 0, s, _, _ => s
  | k + 1, s, p, tag =>
    match (s.port p).cmds.find? (fun c => c.tag == tag) with
    | none => s
    | some c =>
      match s.start p tag c with
      | .waits => s
      | .ends s st d => s.completeWith p tag st c.axisNo d (s.wroteOf p tag st)
      | .runs s o => s.modCmd p tag (fun c => { c with op := o, started := true })
      | .rewrites s a vs => s.modCmd p tag (fun c => { c with op := .wr (BitVec.ofNat 16 a) vs, started := true })
      | .state s n o rest =>
        let s := if c.op = o then s else s.supersedes o
        let s := s.modCmd p tag (fun c => { c with op := o, rest := rest })
        if s.waitsBoundary n o then s
        else
          let s := s.runState p n tag o
          if rest.isSome then State.advance k s p tag else s

/-- The commands of port p start in the order of issue: `held` are the axes of commands that have not started, `none_`
whether one that addresses no axis has not (R317). -/
def State.pumpTags (p : Port) : List W16 → Byte → Bool → State → State
  | [], _, _, s => s
  | tag :: t, held, none_, s =>
    match (s.port p).cmds.find? (fun c => c.tag == tag) with
    | none => State.pumpTags p t held none_ s
    | some c =>
      let s := if c.open_ && (c.axes &&& held == 0) && !(c.axes == 0 && none_) then State.advance 70 s p tag else s
      match (s.port p).cmds.find? (fun c => c.tag == tag) with
      | some c =>
        if c.blocks then State.pumpTags p t (held ||| c.axes) (none_ || (c.axes == 0 && c.open_)) s
        else State.pumpTags p t held none_ s
      | none => State.pumpTags p t held none_ s

/-- The commands of port p start as far as they can. -/
def State.pumpPort (s : State) (p : Port) : State := State.pumpTags p ((s.port p).cmds.map (·.tag)) 0 false s

/-- Commands of every port start as far as they can; none while the system controller restarts (R280). -/
def State.pump (s : State) : State :=
  if s.pool.restart || s.pins.noClock then s
  else (allPorts.foldl (fun s p => s.pumpPort p) (allAx.foldl (fun s n => s.idleSwap n) s)).sendPosted

/-! ### Acceptance -/

/-- The axes a register operation addresses. -/
def addrAxes (as : List Nat) : Byte :=
  as.foldl (fun m a => match place a with | .axis n _ => m ||| ((1 : Byte) <<< n.val) | _ => m) 0

/-- The axes an operation addresses (R317, R347). -/
def Op.axes : Op → Byte
  | .mbox n _ _ _ => (1 : Byte) <<< n.val
  | .mbq n _ _ _ => (1 : Byte) <<< n.val
  | .post n => (1 : Byte) <<< n.val
  | .enable n => (1 : Byte) <<< n.val
  | .stop n => (1 : Byte) <<< n.val
  | .clear n => (1 : Byte) <<< n.val
  | .own n _ => (1 : Byte) <<< n.val
  | .load m _ => m
  | .applyBoot m => m
  | o => addrAxes o.addrs

/-- The axis that an inline refusal of an operation names. -/
def Op.axisNo (o : Op) : BitVec 4 :=
  Cmd.axisNo { tag := 0, axes := o.axes, op := o, rest := none, wrote := none, started := false, at_ := 0 }

/-- The count a WRITE starts with (R339). -/
def Op.counts : Op → Option W16
  | .wr _ _ => some 0
  | _ => none

/-- The tag of an accepted command (R325). -/
def State.assignTag (s : State) (p : Port) (tag : W16) : W16 × State :=
  if s.gen p = 3 then (tag, s)
  else ((s.port p).nextTag, s.modPort p (fun q => { q with nextTag := q.nextTag + 1 }))

/-- A command is accepted: it takes a slot; a load starts at once (R345); then whatever can start starts. -/
def State.accept (s : State) (p : Port) (tag : W16) (o : Op) : State :=
  let a := s.assignTag p tag
  let s := a.2.modPort p (fun q => { q with
    cmds := q.cmds ++ [{ tag := a.1, axes := o.axes, op := o, rest := none, wrote := o.counts, started := false, at_ := s.clk }] })
  let s := s.supersedes o
  let s := match o with
    | .load m store =>
      let r := s.loadStart p a.1 m store
      match r.2 with
      | some st => r.1.complete p a.1 st 15 []
      | none => r.1.modCmd p a.1 (fun c => { c with started := true })
    | _ => s
  s.pump

/-- A command arrives at port p (R316): a port that does not receive ignores it; after the early warning and once standby is
requested every command is refused (R400, R402). -/
def State.hostRequest (s : State) (p : Port) (tag : W16) (o : Op) : State :=
  if !s.portUp p then s
  else if s.pins.warning then s.refuse p tag stDeviceFault o.axisNo
  else if s.pins.standby.isSome then s.refuse p tag stNotPermitted o.axisNo
  else match s.arrival p tag o with
    | some st => s.refuse p tag st o.axisNo
    | none =>
      let c := s.contend p o
      if c.2 then c.1.refuse p tag stLostArb o.axisNo else c.1.accept p tag o

/-- A write of one register by a port. -/
def State.hostWrite (s : State) (p : Port) (tag : W16) (a : Nat) (v : W64) : State :=
  s.hostRequest p tag (.wr (BitVec.ofNat 16 a) [v])

/-- A write of one word of axis n's block by a port. -/
def State.hostWriteAx (s : State) (p : Port) (tag : W16) (n : Ax) (o : Nat) (v : W64) : State :=
  s.hostWrite p tag (0x1000 + 0x200 * n.val + o) v

end Sys2Proof.Machine
end

