-- ==== Sys2Proof/Machine/HostExec.lean ====
section
/-! DEFINITION. The rows that are commands of a host port to a register, a mailbox or an axis, the tick boundary, and the
events that end or release commands. -/

namespace Sys2Proof.Machine

open Sys2Proof

/-! ### The tick boundary, and commands that wait -/

/-- The device runs: supplied, awake, with a clock (R13, R391, R402). -/
def State.alive (s : State) : Bool := s.pins.powered && !s.pins.asleep && !s.pins.noClock

/-- TICK_BOUNDARY (R42): a boundary of axis n while its island runs; a halted axis only counts it (R56), and an island still
frozen after a RESUME acts on none (R214, log 122). Commands that the boundary lets start then start. -/
def execTickBoundary (n : Ax) (adc : Adc) (s : State) : Out :=
  if s.onBoundary n 0 ∧ s.ptIsl n = islRun ∧ s.alive = true then
    if (s.ax n).halted then .next (s.missed n)
    else if s.aget n AX_PTSTAT_FROZEN = 1 then .next s
    else .next (s.boundary n adc).pump
  else .next s

/-- MAILBOX_HELD_WRITE_RELEASE (R51): what PEND, the page copy or a migration held is carried out. -/
def execMailboxHeldWriteRelease (n : Ax) (s : State) : Out := if s.mbFree n then .next s.pump else .next s

/-- SANDGLASS_EXPIRY (R20, R318): a command that has not started SGL µs after its acceptance is withdrawn. -/
def execSandglassExpiry (p : Port) (tag : W16) (s : State) : Out :=
  match (s.port p).cmds.find? (fun c => c.tag == tag) with
  | some c =>
    if c.started = false ∧ c.at_ + s.dget (HOST_PCFG_SGL p.val) * usTicks ≤ s.clk ∧ s.pool.restart = false then
      .next (s.complete p tag stTimeout c.axisNo []).pump
    else .next s
  | none => .next s

/-- Every command in flight completes with a status; a load and a USER stream end with it (R13, R280). -/
def State.failAll (s : State) (status : Byte) : State :=
  let s := (s.endLoad status).endStream status
  allPorts.foldl (fun s p => (s.port p).cmds.foldl (fun s c => s.complete p c.tag status c.axisNo []) s) s

/-- The restart of the system controller ends (R280): every command in flight completes FAILED_DEVICE_FAULT. -/
def State.restartEnd (s : State) : State :=
  ((s.modPool (fun p => { p with restart := false })).failAll stDeviceFault).pump

/-- It ends within 200 us (R280). -/
def State.restartTick (s : State) : State :=
  if s.pool.restart = true ∧ s.pool.restartAt + 200 * usTicks ≤ s.clk then s.restartEnd else s

/-- SYSTEM_CONTROLLER_RESTART_END (R280). -/
def execSystemControllerRestartEnd (s : State) : Out := if s.pool.restart then .next s.restartEnd else .next s

/-- STANDBY_PLL_RESTORED (R12): after 10 ms of correct output. After the double fault of R13 the restored PLL becomes the
active one and SYS runs again (log 32). -/
def execStandbyPllRestored (s : State) : Out :=
  let q := s.standbyPll
  if s.dget SYS_CLKSTAT_STBY_BAD = 1 ∧ s.pins.pllAt.getD q 0 + tenMs ≤ s.clk then
    let s := s.dput (lockFld q) 1
    if s.pins.noClock then .next ((s.switchPll.modPins (fun p => { p with noClock := false })).failAll stDeviceFault)
    else .next (s.dput SYS_CLKSTAT_STBY_BAD 0)
  else .next s

/-! ### The mailbox (R50) -/

/-- MBIN_WRITE. -/
def execMbinWrite (p : Port) (tag : W16) (n : Ax) (w : BitVec 4) (v : W64) (s : State) : Out :=
  .next (s.hostWriteAx p tag n (AX_MBIN w.toNat) v)

/-- POST. -/
def execPost (p : Port) (tag : W16) (n : Ax) (s : State) : Out := .next (s.hostRequest p tag (.post n))

/-! ### Debug (R55 to R57) -/

/-- HALT. -/
def execHalt (p : Port) (tag : W16) (n : Ax) (s : State) : Out :=
  .next (s.hostWrite p tag ENGINE_DBGCTL (ENGINE_DBGCTL_HALT.put (ENGINE_DBGCTL_AXIS.put 0 n.val) 1))

/-- RESUME. -/
def execResume (p : Port) (tag : W16) (n : Ax) (s : State) : Out :=
  .next (s.hostWrite p tag ENGINE_DBGCTL (ENGINE_DBGCTL_RESUME.put (ENGINE_DBGCTL_AXIS.put 0 n.val) 1))

/-- DBGCTL_STEP. -/
def execDbgctlStep (p : Port) (tag : W16) (n : Ax) (s : State) : Out :=
  .next (s.hostWrite p tag ENGINE_DBGCTL (ENGINE_DBGCTL_STEP.put (ENGINE_DBGCTL_AXIS.put 0 n.val) 1))

/-- DBGDATA_WRITE. -/
def execDbgdataWrite (p : Port) (tag : W16) (v : W64) (s : State) : Out := .next (s.hostWrite p tag ENGINE_DBGDATA v)

/-- An enabled breakpoint stands at the next instruction of axis n. -/
def State.atBreakpoint (s : State) (n : Ax) : Bool :=
  match (s.ax n).engine with
  | some e => (List.range 4).any (fun k =>
      s.dget (ENGINE_BKPT_EN k) == 1 && s.dget (ENGINE_BKPT_AXIS k) == n.val && s.dget (ENGINE_BKPT_PC k) == (s.eng e).core.pc.toNat)
  | none => false

/-- BREAKPOINT (R57). -/
def execBreakpoint (n : Ax) (s : State) : Out :=
  if (s.ax n).run.running = true ∧ (s.ax n).run.wait.isNone = true ∧ (s.ax n).halted = false ∧ s.atBreakpoint n = true then
    .next (s.haltAxis n)
  else .next s

/-! ### Axis registers and commands -/

/-- AXN_TICK_WRITE (R49). -/
def execAxnTickWrite (p : Port) (tag : W16) (n : Ax) (v : W64) (s : State) : Out := .next (s.hostWriteAx p tag n AX_TICK v)

/-- AXN_BASE_WRITE (R110). -/
def execAxnBaseWrite (p : Port) (tag : W16) (n : Ax) (one : Bool) (v : W64) (s : State) : Out :=
  .next (s.hostWriteAx p tag n (if one then AX_BASE1 else AX_BASE0) v)

/-- ENABLE (R291, R292). -/
def execEnable (p : Port) (tag : W16) (n : Ax) (s : State) : Out := .next (s.hostRequest p tag (.enable n))

/-- STOP (R291). -/
def execStop (p : Port) (tag : W16) (n : Ax) (s : State) : Out := .next (s.hostRequest p tag (.stop n))

/-- CLEAR (R291, R293). -/
def execClear (p : Port) (tag : W16) (n : Ax) (s : State) : Out := .next (s.hostRequest p tag (.clear n))

/-- FBCLR (R176). -/
def execFbclr (p : Port) (tag : W16) (n : Ax) (s : State) : Out := .next (s.hostWriteAx p tag n AX_PCTL (AX_PCTL_FBCLR.put 0 1))

/-- CATCH_CLR (R191): the other fields are written as they stand. -/
def execCatchClr (p : Port) (tag : W16) (n : Ax) (s : State) : Out :=
  .next (s.hostWriteAx p tag n AX_CATCH (AX_CATCH_CLR.put (s.readAx n AX_CATCH) 1))

/-- AXN_CNTCLR (R297). -/
def execAxnCntclr (p : Port) (tag : W16) (n : Ax) (s : State) : Out :=
  .next (s.hostWriteAx p tag n AX_CNTCLR (AX_CNTCLR_CLR.put 0 1))

/-- ENGINE_EXC_CLR (R107). -/
def execEngineExcClr (p : Port) (tag : W16) (n : Ax) (s : State) : Out :=
  .next (s.hostWrite p tag (ENGINE_EXC n.val) ((ENGINE_EXC_CLR n.val).put 0 1))

/-! ### Encoders and emulation -/

/-- ENCODER_CONFIG_WRITE (R171). -/
def execEncoderConfigWrite (p : Port) (tag : W16) (k : Chan) (r : Fin 4) (v : W64) (s : State) : Out :=
  .next (s.hostWrite p tag (ENC_CFG k.val + r.val) v)

/-- EMU_CFG_WRITE (R190). -/
def execEmuCfgWrite (p : Port) (tag : W16) (m : Emu) (v : W64) (s : State) : Out := .next (s.hostWrite p tag (EMU_CFG m.val) v)

/-! ### Clocks and time -/

/-- SYS_CLKCTL as it reads: REF_RET alone (R32). -/
def State.clkctlWord (s : State) : W64 := SYS_CLKCTL_REF_RET.put 0 (s.dget SYS_CLKCTL_REF_RET)

/-- SWAP (R10, R32): REF_RET is written as it stands. -/
def execSwap (p : Port) (tag : W16) (s : State) : Out :=
  .next (s.hostWrite p tag SYS_CLKCTL (SYS_CLKCTL_SWAP.put s.clkctlWord 1))

/-- REF_REARM (R15, R32): REF_RET is written as it stands. -/
def execRefRearm (p : Port) (tag : W16) (s : State) : Out :=
  .next (s.hostWrite p tag SYS_CLKCTL (SYS_CLKCTL_REF_REARM.put s.clkctlWord 1))

/-- SYS_TIMESET (R26). -/
def execSysTimeset (p : Port) (tag : W16) (v : W64) (s : State) : Out := .next (s.hostWrite p tag SYS_TIMESET v)

/-- SYS_TIMETRIM (R30). -/
def execSysTimetrim (p : Port) (tag : W16) (v : W64) (s : State) : Out := .next (s.hostWrite p tag SYS_TIMETRIM v)

/-- SYS_TIMELOAD (R31). -/
def execSysTimeload (p : Port) (tag : W16) (v : W64) (s : State) : Out := .next (s.hostWrite p tag SYS_TIMELOAD v)

/-! ### Buses -/

/-- BUS_THRESHOLD_WRITE (R245). -/
def execBusThresholdWrite (p : Port) (tag : W16) (x : Bus) (uv : Bool) (v : W64) (s : State) : Out :=
  .next (s.hostWrite p tag (if uv then BUS_UV x.val else BUS_OV x.val) v)

/-- BRKCTL_TEST (R253): the write gives a test pulse when the bus can be tested. -/
def execBrkctlTest (p : Port) (tag : W16) (x : Bus) (s : State) : Out :=
  .next (s.hostWrite p tag (BUS_BRKCTL x.val) ((BUS_BRKCTL_TEST x.val).put 0 1))

/-- BRKCTL_CLR (R254). -/
def execBrkctlClr (p : Port) (tag : W16) (x : Bus) (s : State) : Out :=
  .next (s.hostWrite p tag (BUS_BRKCTL x.val) ((BUS_BRKCTL_CLR x.val).put 0 1))

/-! ### Ownership, permissions, ports -/

/-- CLAIM (R314). -/
def execClaim (p : Port) (tag : W16) (n : Ax) (s : State) : Out := .next (s.hostRequest p tag (.own n 1))

/-- RELEASE (R314). -/
def execRelease (p : Port) (tag : W16) (n : Ax) (s : State) : Out := .next (s.hostRequest p tag (.own n 2))

/-- FORCE_CLAIM (R314). -/
def execForceClaim (p : Port) (tag : W16) (n : Ax) (s : State) : Out := .next (s.hostRequest p tag (.own n 3))

/-- HOST_PERM_WRITE (R311). -/
def execHostPermWrite (p : Port) (tag : W16) (k : Port) (v : W64) (s : State) : Out := .next (s.hostWrite p tag (HOST_PERM k.val) v)

/-- PORT_DISABLE (R308): EN written 0, the other fields as they stand. -/
def execPortDisable (p : Port) (tag : W16) (k : Port) (s : State) : Out :=
  .next (s.hostWrite p tag (HOST_PCFG k.val) ((HOST_PCFG_EN k.val).put (s.dreg (HOST_PCFG k.val)) 0))

/-- PORT_ENABLE (R308): EN written 1, the other fields as they stand. -/
def execPortEnable (p : Port) (tag : W16) (k : Port) (s : State) : Out :=
  .next (s.hostWrite p tag (HOST_PCFG k.val) ((HOST_PCFG_EN k.val).put (s.dreg (HOST_PCFG k.val)) 1))

/-- UART_BDIV_CHANGE (R306): the completion of the write has been sent and both directions are idle. -/
def execUartBdivChange (s : State) : Out :=
  let sent := match s.bdivBy with
    | some (p, tag) => !(s.port p).cmds.any (fun c => c.tag == tag) && !(s.port p).ring.any (fun c => c.tag == tag && !c.sent)
    | none => true
  if sent = true ∧ (s.port 3).rx.isEmpty = true ∧ (s.port 3).tx.isEmpty = true then
    .next { s with bdiv := BitVec.ofNat 16 (s.dget HOST_UART_BDIV), bdivBy := none }
  else .next s

/-- CAN_BUS_OFF_RECOVERY (R305). -/
def execCanBusOffRecovery (s : State) : Out :=
  if s.dget HOST_CANSTAT_STATE = 2 ∧ s.dget HOST_CANBT_ABOR = 1 ∧ s.dget (HOST_PCFG_EN 2) = 1 then
    .next (s.setDreg HOST_CANSTAT 0).sendPosted
  else .next s

/-- CAN_BUS_OFF (R305): the error counts carry the node to error passive above 127, to bus-off above 255. -/
def execCanBusOff (tec rec_ : BitVec 9) (s : State) : Out :=
  if s.dget (HOST_PCFG_EN 2) = 1 ∧ s.dget HOST_CANSTAT_STATE ≠ 2 then
    let st := if 255 < tec.toNat then 2 else if 127 < tec.toNat ∨ 127 < rec_.toNat then 1 else 0
    .next (s.setDreg HOST_CANSTAT (HOST_CANSTAT_STATE.put (HOST_CANSTAT_REC.put (HOST_CANSTAT_TEC.put 0 (min 255 tec.toNat))
      (min 255 rec_.toNat)) st))
  else .next s

/-! ### Faults, and every other register -/

/-- FAULT_CLR (R297, R302). -/
def execFaultClr (p : Port) (tag : W16) (s : State) : Out := .next (s.hostWrite p tag FAULT_CLR (FAULT_CLR_CLR.put 0 1))

/-- ACK (R278): AXMASK is written as it stands. -/
def execAck (p : Port) (tag : W16) (s : State) : Out :=
  .next (s.hostWrite p tag FAULT_FNCTL (FAULT_FNCTL_ACK.put (s.dreg FAULT_FNCTL) 1))

/-- REGISTER_WRITE (R433). -/
def execRegisterWrite (p : Port) (tag : W16) (a : W16) (v : W64) (s : State) : Out := .next (s.hostRequest p tag (.wr a [v]))

/-! ### Fuse commands (R382, R385, R389) -/

/-- PROGRAM. -/
def execProgram (p : Port) (tag : W16) (cnt : BitVec 3) (s : State) : Out := .next (s.hostWrite p tag FUSE_CMD (fuseCmdWord 1 cnt.toNat))

/-- SEAL. -/
def execSeal (p : Port) (tag : W16) (s : State) : Out := .next (s.hostWrite p tag FUSE_CMD (fuseCmdWord 2 0))

/-- FUSE_READ. -/
def execFuseRead (p : Port) (tag : W16) (s : State) : Out := .next (s.hostWrite p tag FUSE_CMD (fuseCmdWord 3 0))

end Sys2Proof.Machine
end

