-- ==== Sys2Proof/Machine/Frames.lean ====
section
/-! DEFINITION. Frames as they cross to SYS: the G1 window (R326 to R329), G2 frames (R330 to R334), G3 packets (R335 to
R343), and what each command in them asks for. -/

namespace Sys2Proof.Machine

open Sys2Proof

/-- A command of port p would be accepted now (no contended resource). -/
def State.accepts (s : State) (p : Port) (tag : W16) (o : Op) : Bool :=
  s.portUp p && !s.pins.warning && s.pins.standby.isNone && (s.arrival p tag o).isNone

/-- A command is requested; when it is accepted the port changes as well. -/
def State.requestWith (s : State) (p : Port) (o : Op) (f : PortSt → PortSt) : State :=
  if s.accepts p 0 o then (s.modPort p f).hostRequest p 0 o else s.hostRequest p 0 o

/-- A completion is acknowledged: its slot is free (R315, R321). -/
def PortSt.ack (q : PortSt) (c : W16) : PortSt := { q with ring := q.ring.filter (fun x => x.cseq != c) }

/-! ### Loads and streams from a port (R345, R370) -/

/-- A port's own load that still takes parts. -/
def State.ownLoad (s : State) (p : Port) : Bool := s.load.any (fun l => l.port == p && !l.waiting)
def State.ownStream (s : State) (p : Port) : Bool := s.stream.any (fun t => t.port == p && !t.waiting)

/-- Commands are taken in: the port receives, and neither the early warning nor standby stands. -/
def State.takes (s : State) (p : Port) : Bool := s.portUp p && !s.pins.warning && s.pins.standby.isNone

/-- LOAD_BEGIN: it abandons the port's own running load, then arrives like any command. -/
def State.beginLoad (s : State) (p : Port) (tag : W16) (m : Byte) (store : Bool) : State :=
  (if s.takes p && s.ownLoad p then s.abandonLoad else s).hostRequest p tag (.load m store)

/-- USER_BEGIN, likewise. -/
def State.beginUser (s : State) (p : Port) (tag : W16) (b : Byte) (total : W64) : State :=
  (if s.takes p && s.ownStream p then s.endStream stBadFrame else s).hostRequest p tag (.user b total)

/-- PING (R338, R340): an inline OK, no slot; BAD_FRAME under the tag of a command in flight (R337). -/
def State.ping (s : State) (p : Port) (tag : W16) (axis : BitVec 4) : State :=
  if !s.portUp p then s
  else if s.pins.warning then s.refuse p tag stDeviceFault axis
  else if s.pins.standby.isSome then s.refuse p tag stNotPermitted axis
  else if s.tagUsed p tag then s.refuse p tag stBadFrame axis
  else s.inline p tag stOk axis

/-- A part of a load or a USER stream under the tag of another command in flight is answered BAD_FRAME (R337): `mine` when the
tag is that of the running load or stream. -/
def State.part (s : State) (p : Port) (tag : W16) (mine : Bool) (f : State → State) : State :=
  if s.takes p && !mine && s.tagUsed p tag then s.refuse p tag stBadFrame 15 else (f s).pump

/-- The tag is that of the port's own load, or USER stream, that takes parts. -/
def State.loadTag (s : State) (p : Port) (tag : W16) : Bool := s.load.any (fun l => l.port == p && l.tag == tag && !l.waiting)
def State.streamTag (s : State) (p : Port) (tag : W16) : Bool := s.stream.any (fun t => t.port == p && t.tag == tag && !t.waiting)

/-! ### G1 (R326 to R329) -/

/-- The G1 axis of the integrator fuse region. -/
def State.g1Axis (s : State) : Ax := axisField (s.fld 9)

/-- The register that EXTA names. -/
def State.extReg (s : State) (p : Port) : W16 :=
  BitVec.ofNat 16 (0x1000 + 0x200 * s.g1Axis.val + (s.port p).exta.toNat % 0x200)
def State.extSlice (s : State) (p : Port) : BitVec 2 := BitVec.ofNat 2 ((s.port p).exta.toNat / 2 ^ 14)

/-- A read of a window address (R327, R328). -/
def State.g1Read (s : State) (p : Port) (a : Nat) : State :=
  let n := s.g1Axis
  let base := 0x1000 + 0x200 * n.val
  let win := fun (o lo : Nat) => s.hostRequest p 0 (.win (BitVec.ofNat 16 (base + o)) lo)
  let value := fun (v : Nat) =>
    if s.permLevel p n = 0 then (if s.takes p then s.refuse p 0 stNotOwner (BitVec.ofNat 4 n.val) else s.hostRequest p 0 (.value 0))
    else s.hostRequest p 0 (.value (BitVec.ofNat 16 v))
  if a = 0x00 then win AX_STATE 0
  else if a = 0x02 then win AX_GDSTAT 16
  else if 0x20 ≤ a ∧ a < 0x40 then win a 16
  else if a = 0x70 then value (s.port p).exta.toNat
  else if a = 0x71 then s.hostRequest p 0 (.rd (s.extReg p) 1 (some (s.extSlice p)))
  else if a = 0x7D then value n.val
  else if a = 0x7E then value 0x0864
  else if a = 0x7F then s
  else value 0

/-- A write of EXTA: it needs ownership like every G1 write (R328). -/
def State.g1Exta (s : State) (p : Port) (v : W16) : State :=
  if s.takes p && !s.owns p s.g1Axis then s.refuse p 0 stNotOwner (BitVec.ofNat 4 s.g1Axis.val)
  else s.requestWith p (.value 0) (fun q => { q with exta := v &&& 0xC1FF })

/-- A write of EXTD (R328). -/
def State.g1Extd (s : State) (p : Port) (v : W16) : State := s.hostRequest p 0 (.wrSlice (s.extReg p) (s.extSlice p) v)

/-- A write of an inbound mailbox word (R327): DATA to bits [31:16], then POST. -/
def State.g1Mailbox (s : State) (p : Port) (w : BitVec 4) (v : W16) : State :=
  s.hostRequest p 0 (.mbox s.g1Axis w [v.setWidth 64 <<< 16] true)

/-- A write of a window address (R327). -/
def State.g1Write (s : State) (p : Port) (a : Nat) (v : W16) : State :=
  let n := s.g1Axis
  if a = 0x01 then
    match ctlOp n (v.setWidth 64) with
    | some o => s.hostRequest p 0 o
    | none => s.hostRequest p 0 (.wr (BitVec.ofNat 16 (0x1000 + 0x200 * n.val + AX_CTL)) [v.setWidth 64 &&& 7])
  else if 0x10 ≤ a ∧ a < 0x20 then s.g1Mailbox p (BitVec.ofNat 4 (a - 0x10)) v
  else if a = 0x70 then s.g1Exta p v
  else if a = 0x71 then s.g1Extd p v
  else if s.takes p then s.refuse p 0 stBadFrame (BitVec.ofNat 4 n.val)
  else s.hostRequest p 0 (.value 0)

/-- The response of a G1 frame (R329): the inline refusal, the oldest held completion, or none; a frame of 24 bits
acknowledges the completion it carries. -/
def State.g1Respond (s : State) (p : Port) (whole : Bool) : State :=
  let q := s.port p
  match q.inl with
  | c :: _ => s.modPort p (fun q => { q with inl := [], lastOut := (g1Word (some c), none) })
  | [] =>
    match q.ring.head? with
    | some c =>
      let s := s.modPort p (fun q => { q with
        lastOut := (g1Word (some c), some c.cseq)
        ring := q.ring.map (fun (x : Completion) => if x.cseq = c.cseq then { x with sent := true } else x) })
      if whole then s.modPort p (fun q => q.ack c.cseq) else s
    | none => s.modPort p (fun q => { q with lastOut := (g1Word none, none) })

/-- A frame on a G1 port. -/
def State.g1Frame (s : State) (p : Port) (len v : Nat) : State :=
  let s := s.g1Respond p (len = 24)
  if len ≠ 24 then s.refuse p 0 stBadFrame 15
  else
    let a := v / 2 ^ 16 % 128
    if v / 2 ^ 23 % 2 = 1 then s.g1Write p a (BitVec.ofNat 16 v) else s.g1Read p a

/-! ### G2 (R330 to R334) -/

/-- The response of a G2 frame on SPI (R331, R333): `ok` when the frame has 32 bits and a valid CRC, `rep` for a POLL with
REPEAT. A completion is acknowledged by the first good frame after the one that carried it. On CAN FD a frame has no response
of its own, and REPEAT asks for the word sent last, if one was, in a frame of its own (log 128). -/
def State.g2Respond (s : State) (p : Port) (ok rep : Bool) : State :=
  if 2 ≤ p.val then
    if rep && !(s.port p).sentFrames.isEmpty then s.modPort p (fun q => { q with again := some (q.lastOut.1, none) }) else s
  else
    let q := s.port p
    let cur : W32 × Option W16 := match q.inl with
      | c :: _ => (g2Resp (some c), none)
      | [] => match q.again with
        | some w => w
        | none => match q.ring.find? (fun c => !c.sent) with
          | some c => (g2Resp (some c), some c.cseq)
          | none => (g2Resp none, none)
    let prev := q.lastOut
    s.modPort p (fun q =>
      let sent := fun (x : Completion) => if cur.2 = some x.cseq then { x with sent := true }
        else if !ok && prev.2 == some x.cseq then { x with sent := false } else x
      { q with
        inl := []
        again := if rep then some prev else if q.inl.isEmpty then none else q.again
        ring := (if ok && !rep then q.ring.filter (fun x => prev.2 != some x.cseq) else q.ring).map sent
        lastOut := cur })

/-- G2 commands (R331); AXIS is a slice for ADDR, RD and WR. -/
def State.g2Command (s : State) (p : Port) (cmd ax : Nat) (v : W16) : State :=
  let n := axisField ax
  if (1 ≤ cmd ∧ cmd ≤ 7 ∧ 8 ≤ ax) ∨ 12 ≤ cmd then s.refuse p 0 stBadFrame 15
  else match cmd with
    | 1 => s.hostRequest p 0 (.enable n)
    | 2 => s.hostRequest p 0 (.stop n)
    | 3 => s.hostRequest p 0 (.clear n)
    | 4 => s.hostRequest p 0 (.own n (v.setWidth 2))
    | 5 => s.requestWith p (.value 0) (fun q => { q with mbptr := q.mbptr.set n.val (v.setWidth 6) n.isLt })
    | 6 =>
      let t := (s.port p).mbptr[n]
      s.requestWith p (.mbq n (t.setWidth 4) ((t >>> 4).setWidth 2) v) (fun q =>
        let w := if t >>> 4 = 3 then (t + 1).setWidth 4 else t.setWidth 4
        { q with mbptr := q.mbptr.set n.val (((t >>> 4) + 1).setWidth 2 ++ w) n.isLt })
    | 7 => s.hostRequest p 0 (.post n)
    | 8 => s.requestWith p (.value 0) (fun q => { q with addr := v })
    | 9 => s.hostRequest p 0 (.rd (s.port p).addr 1 (some (BitVec.ofNat 2 ax)))
    | 10 => s.hostRequest p 0 (.wrSlice (s.port p).addr (BitVec.ofNat 2 ax) v)
    | 11 =>
      match (s.port p).notes.head?, v.toNat % 4 with
      | none, _ => s.hostRequest p 0 (.value 0)
      | some m, 0 => s.hostRequest p 0 (.value m.code)
      | some m, 1 => s.hostRequest p 0 (.value (m.value.setWidth 16))
      | some m, 2 => s.hostRequest p 0 (.value ((m.value >>> 16).setWidth 16))
      | some m, _ => s.requestWith p (.value (m.axis.setWidth 16)) (fun q => { q with notes := q.notes.drop 1 })
    | _ => s

/-- A frame of 32 bits on a G2 port. -/
def State.g2Frame (s : State) (p : Port) (len v : Nat) : State :=
  let good := g2Good len v
  let cmd := v / 2 ^ 28 % 16
  let data := BitVec.ofNat 16 (v / 256)
  let s := s.g2Respond p good (good && cmd == 0 && data.getLsbD 0)
  if len ≠ 32 then s.refuse p 0 stBadFrame 15
  else if !good then (s.linkCrc p).refuse p 0 stBadFrame 15
  else s.g2Command p cmd (v / 2 ^ 24 % 16) data

/-- A G2 command as a good frame of its port. -/
def State.g2Row (s : State) (p : Port) (cmd ax : Nat) (v : W16) : State :=
  if s.gen p = 2 ∧ s.portUp p = true then (s.g2Respond p true false).g2Command p cmd ax v else s

/-! ### G3 packets (R335 to R341) -/

/-- An acknowledgement takes what was sent up to and including a number (R341). -/
def ackUpto {α : Type} (sent : α → Bool) (num : α → W16) (n : W16) (l : List α) : List α :=
  let pre := l.takeWhile sent
  match pre.findIdx? (fun x => num x == n) with
  | some i => l.drop (i + 1)
  | none => l

/-- A link acknowledgement (R341). -/
def State.linkAck (s : State) (p : Port) (cseq nseq : W16) (crw nrw : Bool) : State :=
  let s := s.modPort p (fun q =>
    let ring := ackUpto (·.sent) (·.cseq) cseq q.ring
    let notes := ackUpto (·.sent) (·.nseq) nseq q.notes
    { q with
      ring := ring.map (fun (c : Completion) => if crw && later cseq c.cseq then { c with sent := false } else c)
      notes := notes.map (fun (c : Note) => if nrw && later nseq c.nseq then { c with sent := false } else c) })
  s.sendPosted

/-- A G3 command packet whose check bytes, count and CRC are good (R336, R338). -/
def State.g3Command (s : State) (p : Port) (h : W64) (ds : List W64) (rsv : Bool) : State :=
  let op := hdrOp h
  let tag := hdrTag h
  let axis := hdrAxis h
  let arg := hdrArg h
  let bad := if s.takes p then s.refuse p tag stBadFrame (if axis.toNat < 8 then axis else 15) else s.hostRequest p tag (.value 0)
  if rsv || (8 ≤ axis.toNat && axis != 15) || (hdrCnt h != 0 && op != 1 && op != 2) then bad
  else match op with
    | 0x08 => if ds.isEmpty then s.beginLoad p tag ((arg >>> 8).setWidth 8) (arg.getLsbD 0) else bad
    | 0x09 => s.part p tag (s.loadTag p tag) (fun s => s.loadChunk p tag arg ds)
    | 0x0A => s.part p tag (s.loadTag p tag) (fun s => s.loadEnd p tag)
    | 0x0C => s.ping p tag axis
    | 0x10 => match ds with | [d] => s.beginUser p tag (arg.setWidth 8) d | _ => bad
    | 0x11 => s.part p tag (s.streamTag p tag) (fun s => s.userChunk p tag arg ds)
    | 0x12 => s.part p tag (s.streamTag p tag) (fun s => s.userFinish p tag)
    | _ => match g3Op op axis arg (hdrCnt h) ds with | some o => s.hostRequest p tag o | none => bad

/-- A whole packet, header to trailer (R336, R341). -/
def State.g3Packet (s : State) (p : Port) (ws : List W64) : State :=
  match ws with
  | h :: t =>
    let ds := t.dropLast
    let tr := t.getLastD 0
    if !trailerGood h ds tr then s.discardPacket p
    else
      let rsv := tr.toNat / 2 ^ 32 % 2 ^ 16 ≠ 0
      match hdrType h with
      | 1 => s.g3Command p h ds rsv
      | 4 =>
        match hdrOp h, ds with
        | 0, [d] => s.linkAck p ((d >>> 16).setWidth 16) ((d >>> 32).setWidth 16) (d.getLsbD 0) (d.getLsbD 1)
        | _, _ => s
      | _ => s.discardPacket p
  | [] => s

/-- A received word, its check byte first (R335). After an uncorrectable word the rest of its packet is not looked at. -/
def State.g3Word (s : State) (p : Port) (check : Byte) (w : W64) : State :=
  let push := fun (s : State) (w : W64) =>
    let r := rxPush (s.port p).rx w
    let s := s.modPort p (fun q => { q with rx := r.1 })
    match r.2 with | some ws => s.g3Packet p ws | none => s
  if (s.port p).skip ≠ 0 then s.modPort p (fun q => { q with skip := q.skip - 1 })
  else match hsiaoDecode w check with
    | .clean w => push s w
    | .corrected w => push (s.count 35 (10 + p.val)) w
    | .bad =>
      let left := rxLeft p (s.port p).rx
      (s.discardPacket p).modPort p (fun q => { q with skip := left })

/-- Words of nine bytes. -/
def State.g3Bytes (p : Port) : Nat → List Byte → State → State
  | 0, _, s => s
  | k + 1, bs, s => State.g3Bytes p k (bs.drop 9) (s.g3Word p (bs.headD 0) (wordOf ((bs.drop 1).take 8)))

/-- A frame on a G3 SPI port (R343): one byte out per byte in, fill words when nothing waits; a word cut off stays to be sent
again; bytes after the last whole word discard the open packet. -/
def State.g3Spi (s : State) (p : Port) (bits : List Bool) : State :=
  let s := s.feed p
  let k := bits.length / 72
  let n := (bits.length + 7) / 8
  let s := s.modPort p (fun q => { q with
    sentBytes := (wireWords (q.tx.take (k + 1)) ++ List.replicate n 0).take n, tx := q.tx.drop k })
  let s := State.g3Bytes p k (bitBytes (9 * k) bits) s
  if bits.length ≠ 72 * k then s.discardPacket p else s

/-! ### CAN FD (R305, R334, R343) -/

/-- A segment of a G3 packet. The segments that follow a discarded one are not looked at until a first segment. -/
def State.canSegment (s : State) (data : List Byte) : State :=
  let p : Port := 2
  let b := (data.headD 0).toNat
  let first := b / 128 == 1
  let num := b % 64
  let open_ := (s.port p).rxSeg
  let s := if first && open_.isSome then s.discardPacket p else s
  if !first && open_ != some num then (if open_.isSome then s.discardPacket p else s)
  else
    let s := s.modPort p (fun q => { q with rxSeg := some ((num + 1) % 64), rx := if first then [] else q.rx })
    let s := (State.g3Bytes p ((data.length - 1) / 9) (data.drop 1) s).modPort p (fun q => { q with skip := 0 })
    if (s.port p).rxSeg.isNone then s
    else if b / 64 % 2 = 1 then
      if (s.port p).rx.isEmpty then s.modPort p (fun q => { q with rxSeg := none }) else s.discardPacket p
    else s

/-- A frame with the port's identifier. -/
def State.canData (s : State) (fd : Bool) (data : List Byte) : State :=
  if s.gen 2 = 2 then
    s.g2Frame 2 (8 * data.length) (bytesNat data)
  else if fd then s.canSegment data
  else let f := s.takeFree; f.2.refuse 2 (f.1.setWidth 16) stBadFrame 15

end Sys2Proof.Machine
end

