-- ==== Sys2Proof/Machine/FrameExec.lean ====
section
/-! DEFINITION. The rows of the three protocol generations and of Caravan loading (chapter 13). -/

namespace Sys2Proof.Machine

open Sys2Proof

/-! ### Transports -/

/-- SPI_FRAME (R304): a frame of an SPI port crosses at the rising edge of CS_N. -/
def execSpiFrame (p : Port) (bits : List Bool) (s : State) : Out :=
  if 2 ≤ p.val ∨ s.portUp p = false then .next s
  else match s.gen p with
    | 1 => .next (s.g1Frame p bits.length (bitsNat bits))
    | 2 => .next (s.g2Frame p bits.length (bitsNat bits))
    | _ => .next (s.g3Spi p bits)

/-- PACKET_DISCARD (R342): a transport or a packet check found an error. -/
def execPacketDiscard (p : Port) (s : State) : Out :=
  if s.portUp p = true ∧ s.gen p = 3 then .next (s.discardPacket p) else .next s

/-- CAN_FRAME (R343, R334). -/
def execCanFrame (ident : BitVec 29) (ext fd remote : Bool) (data : List Byte) (s : State) : Out :=
  if s.canTakes ident ext fd remote then .next (s.canData fd data) else .next s

/-- The four data bytes of a G2 word, most significant first (R334). -/
def bytes4 (w : W32) : List Byte := [24, 16, 8, 0].map (fun i => (w >>> i).setWidth 8)

/-- What the CAN FD port sends next in G2 (R334): the word a REPEAT asked for, else the older of the oldest inline answer and
the oldest completion; what the port is when its frame has been sent. -/
def PortSt.canNext (q : PortSt) : Option (W32 × PortSt) :=
  let inl := fun (c : Completion) (t : List Completion) => some (g2Resp (some c), { q with inl := t })
  let ring := fun (c : Completion) => some (g2Resp (some c), q.ack c.cseq)
  match q.again, q.inl, q.ring with
  | some w, _, _ => some (w.1, { q with again := none })
  | none, c :: t, r :: _ => if later r.cseq c.cseq then ring r else inl c t
  | none, c :: t, [] => inl c t
  | none, [], r :: _ => ring r
  | none, [], [] => none

/-- G2_CAN_COMPLETION_SENT (R334, R305): the frame of the oldest inline refusal or completion has been sent without error, which
acknowledges a completion; an FD frame when FDEN = 1 (log 129). -/
def execG2CanCompletionSent (p : Port) (s : State) : Out :=
  if p = 2 ∧ s.portUp p = true ∧ s.gen p = 2 ∧ s.dget HOST_CANSTAT_STATE ≠ 2 then
    match (s.port p).canNext with
    | some (w, q) =>
      .next (s.modPort p (fun _ => { q with
        lastOut := (w, none), sentFrames := [s.canFrame (s.dget HOST_CANBT_FDEN == 1) (bytes4 w)] }))
    | none => .next s
  else .next s

/-! ### G1: each row is one frame of 24 bits on SPI0 -/

/-- A G1 frame with a command. -/
def State.g1Row (s : State) (f : State → State) : State :=
  if s.gen 0 = 1 ∧ s.portUp 0 = true then f (s.g1Respond 0 true) else s

/-- G1_WINDOW_READ (R327). -/
def execG1WindowRead (a : BitVec 7) (s : State) : Out := .next (s.g1Row (fun s => s.g1Read 0 a.toNat))

/-- G1_MAILBOX_WRITE (R327). -/
def execG1MailboxWrite (w : BitVec 4) (v : W16) (s : State) : Out := .next (s.g1Row (fun s => s.g1Mailbox 0 w v))

/-- EXTA (R327). -/
def execExta (v : W16) (s : State) : Out := .next (s.g1Row (fun s => s.g1Exta 0 v))

/-- EXTD (R328). -/
def execExtd (v : W16) (s : State) : Out := .next (s.g1Row (fun s => s.g1Extd 0 v))

/-- G1_NOP (R329): collects a completion, takes no slot. -/
def execG1Nop (s : State) : Out := .next (s.g1Row (fun s => s))

/-! ### G2: each row is one good frame -/

/-- POLL (R331). -/
def execPoll (p : Port) (rep : Bool) (s : State) : Out :=
  if s.gen p = 2 ∧ s.portUp p = true then .next (s.g2Respond p true rep) else .next s

/-- MBPTR (R331). -/
def execMbptr (p : Port) (n : Ax) (v : W16) (s : State) : Out := .next (s.g2Row p 5 n.val v)

/-- MBWR (R331). -/
def execMbwr (p : Port) (n : Ax) (v : W16) (s : State) : Out := .next (s.g2Row p 6 n.val v)

/-- ADDR (R331). -/
def execAddr (p : Port) (v : W16) (s : State) : Out := .next (s.g2Row p 8 15 v)

/-- RD (R331, R332). -/
def execRd (p : Port) (k : BitVec 2) (s : State) : Out := .next (s.g2Row p 9 k.toNat 0)

/-- WR (R331, R332). -/
def execWr (p : Port) (k : BitVec 2) (v : W16) (s : State) : Out := .next (s.g2Row p 10 k.toNat v)

/-- NTF (R331). -/
def execNtf (p : Port) (v : BitVec 2) (s : State) : Out := .next (s.g2Row p 11 15 (v.setWidth 16))

/-! ### G3 -/

/-- A G3 command of port p. -/
def State.g3Row (s : State) (p : Port) (tag : W16) (o : Op) : State := if s.gen p = 3 then s.hostRequest p tag o else s

/-- READ (R338). -/
def execRead (p : Port) (tag : W16) (a : W16) (cnt : BitVec 6) (s : State) : Out := .next (s.g3Row p tag (.rd a (cnt.toNat + 1) none))

/-- WRITE (R339). -/
def execWrite (p : Port) (tag : W16) (a : W16) (vs : List W64) (s : State) : Out :=
  if vs.isEmpty ∨ 64 < vs.length then .next (if s.gen p = 3 ∧ s.takes p = true then s.refuse p tag stBadFrame 15 else s)
  else .next (s.g3Row p tag (.wr a vs))

/-- MBWRITE (R339): 1 to 16 − first words. -/
def execMbwrite (p : Port) (tag : W16) (n : Ax) (first : BitVec 4) (post : Bool) (vs : List W64) (s : State) : Out :=
  if vs.isEmpty ∨ 16 - first.toNat < vs.length then
    .next (if s.gen p = 3 ∧ s.takes p = true then s.refuse p tag stBadFrame (BitVec.ofNat 4 n.val) else s)
  else .next (s.g3Row p tag (.mbox n first vs post))

/-- PING (R338, R340). -/
def execPing (p : Port) (tag : W16) (s : State) : Out := if s.gen p = 3 then .next (s.ping p tag 15) else .next s

/-- LINK_ACK (R341). -/
def execLinkAck (p : Port) (cseq nseq : W16) (crw nrw : Bool) (s : State) : Out :=
  if s.gen p = 3 ∧ s.portUp p = true then .next (s.linkAck p cseq nseq crw nrw).pump else .next s

/-! ### Loading a Caravan (R345 to R347) -/

/-- LOAD_BEGIN. -/
def execLoadBegin (p : Port) (tag : W16) (m : Byte) (store : Bool) (s : State) : Out :=
  if s.gen p = 3 then .next (s.beginLoad p tag m store) else .next s

/-- LOAD_DATA. -/
def execLoadData (p : Port) (tag : W16) (chunk : W16) (ws : List W64) (s : State) : Out :=
  if s.gen p = 3 ∧ s.portUp p = true then .next (s.part p tag (s.loadTag p tag) (fun s => s.loadChunk p tag chunk ws)) else .next s

/-- LOAD_END. -/
def execLoadEnd (p : Port) (tag : W16) (s : State) : Out :=
  if s.gen p = 3 ∧ s.portUp p = true then .next (s.part p tag (s.loadTag p tag) (fun s => s.loadEnd p tag)) else .next s

/-- LOAD_ABANDON (R345, R370): more than 100 ms since the last part of the port's load or USER stream. -/
def execLoadAbandon (p : Port) (s : State) : Out :=
  let old := s.load.any (fun l => l.port == p && !l.waiting && decide (l.last + partTicks < s.clk))
  let s := if old then s.abandonLoad else s
  let stale := s.stream.any (fun t => t.port == p && !t.waiting && decide (t.last + partTicks < s.clk))
  .next (if stale then s.endStream stBadFrame else s).pump

/-- APPLY_BOOT. -/
def execApplyBoot (p : Port) (tag : W16) (m : Byte) (s : State) : Out := .next (s.g3Row p tag (.applyBoot m))

end Sys2Proof.Machine
end

