-- ==== Sys2Proof/Machine/Boot.lean ====
section
/-! DEFINITION. What a reset keeps and loses (R393 to R395), the boot (R396 to R399), and the power-fail write (R369). -/

namespace Sys2Proof.Machine

open Sys2Proof

/-! ### What a reset keeps (R35, R201, R269, R393) -/

/-- The store after a reset: what the devices hold stays, what waited in SYS memory is lost (R393). -/
def Store.afterReset (c : Store) : Store :=
  { Store.reset with
    log := c.log, trace := c.trace, lifeRecs := c.lifeRecs, blobs := c.blobs, banks := c.banks, seqs := c.seqs, life := c.life
    inflight := c.inflight, bad := c.bad, erases := c.erases, shutLogged := c.shutLogged }

/-- The commands in flight, port by port in issue order (R296). -/
def State.inFlight (s : State) : List (Port × W16) :=
  allPorts.flatMap (fun p => (s.port p).cmds.map (fun c => (p, c.tag)))

/-- Registers of the AON island that every reset but power-on reset keeps (R269, R406), and the sensors that were declared broken
(R262). -/
def State.keepAon (new old : State) : State :=
  let s := ((new.setDreg SYS_AONCNT (old.dreg SYS_AONCNT)).setDreg SYS_WAKE (old.dreg SYS_WAKE)).setDreg SYS_RSTINFO (old.dreg SYS_RSTINFO)
  let s := allTs.foldl (fun s i => s.dput (THERM_TS_BAD i.val) (old.dget (THERM_TS_BAD i.val))) s
  let s := s.dput THERM_STAT_BAD (old.dget THERM_STAT_BAD)
  ((s.dput THERM_STAT_SHUT (old.dget THERM_STAT_SHUT)).dput THERM_STAT_SHSRC (old.dget THERM_STAT_SHSRC)).setDreg THERM_SHTIME
    (old.dreg THERM_SHTIME)

/-- The gates after a reset: all off; what was not confirmed below 1.5 V is not confirmed by the reset (R219). -/
def State.gatesOff (s : State) (n : Ax) : Drive :=
  let d := (s.ax n).gd
  { Drive.reset with low := d.low, vgs := d.vgs, edgeAt := setGates d.edgeAt d.on (32 * s.clk) }

/-- The engine that serves axis n after a reset: En, or, where it is retired, the first free spare (R35, log 49). -/
def engineOf (retired : List Eng) (n : Ax) : Option Eng :=
  let own : Eng := ⟨n.val, by omega⟩
  if !retired.contains own then some own
  else
    let before := (allAx.filter (fun m => m.val < n.val && retired.contains ⟨m.val, by omega⟩)).length
    (([8, 9] : List Eng).filter (fun e => !retired.contains e))[before]?

/-- The pool after a reset that is no power-on reset: retired engines stay retired (R35). -/
def State.keepRetired (new old : State) : State :=
  let r := allEng.filter (fun e => (old.eng e).pool == .retired)
  let maps := allAx.map (fun n => engineOf r n)
  let s := { new with axes := Vector.ofFn (fun n : Ax => { new.ax n with engine := engineOf r n }) }
  { s with engines := Vector.ofFn (fun e : Eng =>
      { new.eng e with pool := if r.contains e then .retired else if maps.contains (some e) then .active else .spare }) }

/-- The state that a reset leaves before boot: registers, banks, ports and buffers at their reset values; fuses, the NAND
devices and the pins stay; AON content stays unless VSUP was lost. -/
def State.wiped (s : State) (por : Bool) : State :=
  let s := s.fuseCut
  let z := State.reset
  let new : State := { z with
    pending := s.pending
    clk := s.clk
    free := s.free
    store := s.store.afterReset
    fuses := { s.fuses with rereadDue := false }
    flight := if por then none else some (s.flight.getD [] ++ s.inFlight)
    pins := { z.pins with safeLow := s.pins.safeLow, vgdUv := s.pins.vgdUv, vgdLow := s.pins.vgdLow, vgdHeld := s.pins.vgdUv || s.pins.vgdLow,
                          trip := s.pins.trip, tripAt := s.pins.tripAt, pps := s.pins.pps,
                          drvRc := s.pins.drvRc, bootAt := s.clk } }
  if por then new.modStore (fun c => { c with shutLogged := true })
  else
    let s2 := ((new.keepAon s).setDreg FUSE_STAT (s.dreg FUSE_STAT)).keepRetired s
    { s2 with axes := Vector.ofFn (fun n : Ax => { s2.ax n with gd := s.gatesOff n, pt := { (s2.ax n).pt with lineBad := (s.ax n).pt.lineBad } }) }

/-! ### Values the fuses and straps give (R307, R310, R313, R352, R376) -/

/-- The generation of a port. -/
def State.portGen (s : State) (p : Port) (psel0 : Bool) : Nat :=
  if p = 0 ∧ psel0 = true then 1 else if (s.fld 2 >>> (2 * p.val)) % 4 = 2 ∧ p ≠ 3 then 2 else 3

/-- The registers of a port. -/
def State.fusePort (s : State) (psel0 : Bool) (p : Port) : State :=
  let perm := s.fld (4 + p.val)
  let fn := (perm >>> 16) % 64
  let ax := perm % 2 ^ 16
  let s := (s.dput (HOST_PCFG_GEN p.val) (s.portGen p psel0)).dput (HOST_PCFG_SVC p.val) (if s.fld 3 % 8 = p.val then 1 else 0)
  (((s.dput (HOST_PERM_FCEIL p.val) fn).dput (HOST_PERM_ACEIL p.val) ax).dput (HOST_PERM_FUNC p.val) fn).dput (HOST_PERM_AXIS p.val) ax

/-- The initial owner of axis n: none where its ceiling is below OWN. -/
def State.firstOwner (s : State) (n : Ax) : Nat :=
  let o := (s.fld 8 >>> (3 * n.val)) % 8
  if o < 4 ∧ 2 ≤ (s.dget (HOST_PERM_ACEIL o) >>> (2 * n.val)) % 4 then o else 7

/-- Every register whose reset value the fuses give. -/
def State.fuseValues (s : State) (psel0 : Bool) : State :=
  let s := s.dput BUS_MAP_AXBUS (s.fld 1)
  let s := allPorts.foldl (fun s p => s.fusePort psel0 p) s
  let s := allAx.foldl (fun s n => s.setOwner n (s.firstOwner n)) s
  let g := s.fld 10
  let m := s.fld 11
  let s := ((s.dput CISTERN_GEOM_BLKS0 (g % 2 ^ 17)).dput CISTERN_GEOM_BLKS1 ((g >>> 17) % 2 ^ 17)).dput CISTERN_GEOM_PAGE ((g >>> 34) % 2)
  ((s.dput CISTERN_GEOM_PPB ((g >>> 35) % 2)).dput CISTERN_GEOM_LOGMB (m % 2 ^ 12)).dput CISTERN_GEOM_USERMB ((m >>> 12) % 2 ^ 12)

/-! ### The boot (R396 to R399) -/

/-- SYS_RSTINFO after a reset. -/
def State.rstInfo (s : State) (src detail : Nat) : State :=
  let c := if src = 1 then 0 else min 65535 (s.dget SYS_RSTINFO_COUNT + 1)
  s.setDreg SYS_RSTINFO (SYS_RSTINFO_COUNT.put (SYS_RSTINFO_DETAIL.put (SYS_RSTINFO_SRC.put 0 src) detail) c)

/-- Every axis starts in OASIS while the thermal latch is set (R269); SAFE_N low at the release acts as its falling edge
(log 50). -/
def State.startAxes (s : State) : State :=
  let s := if s.dget THERM_STAT_SHUT = 1 then
      { s with axes := Vector.ofFn (fun n : Ax => { s.ax n with st := .oasis, since := s.clk }) } else s
  if s.pins.safeLow then allAx.foldl (fun s n => s.enterOasis n 0x3E) s else s

/-- ABANDONED_RESET records of one port: G1 and G2 give them the tags from 0 and carry the original tag as data (R325). -/
def State.abandonTags (s : State) (p : Port) : List W16 → State
  | [] => s
  | t :: l =>
    let g3 := s.gen p == 3
    let tag := if g3 then t else (s.port p).nextTag
    let s := s.complete p tag stAbandoned 15 (if g3 then [] else [t.setWidth 64])
    ((if g3 then s else s.modPort p (fun q => { q with nextTag := q.nextTag + 1 }))).abandonTags p l

/-- The recovered list is delivered, and FAULT_RSTINFO shows it (R296). -/
def State.deliverAbandoned (s : State) : State :=
  let r : List (Port × W16) × Nat × Nat := match s.flight, s.store.inflight with
    | some l, _ => (l, 0, 0)
    | none, some l => if s.cis = cisReady then (l, 1, 0) else ([], 0, 1)
    | none, none => ([], 0, 1)
  let s := allPorts.foldl (fun s p => s.abandonTags p ((r.1.filter (fun x => x.1 == p)).map (·.2))) s
  let s := s.setDreg FAULT_RSTINFO (FAULT_RSTINFO_ABAND.put (FAULT_RSTINFO_ABSRC.put (FAULT_RSTINFO_ABLOST.put 0 r.2.2) r.2.1)
    (min 255 r.1.length))
  { s with flight := none, store := { s.store with inflight := if s.cis = cisReady then none else s.store.inflight } }

/-- The boot load (R368, R396 step 6, R397): true when its image asks for autostart. -/
def State.bootLoad (s : State) : State × Bool :=
  if s.cis ≠ cisReady then (s, false)
  else match s.currentBank with
    | none => (s, false)
    | some b =>
      let ws := s.store.banks[b].image.getD []
      let s := s.dput SYS_BOOT_BANK (b.val + 1)
      if 24576 < ws.length then (s, false)
      else
        let m := BitVec.ofNat 8 (wbits (ws.headD 0) 39 32)
        let f := s.checkForm ws
        let r := if f = stOk then s.applyImage ws m (bankSrc b) else (s, f)
        let s := (r.1.loadRecord m ws (bankRec b) r.2).dput SYS_BOOT_STATUS r.2.toNat
        if r.2 = stOk then
          (s.dput SYS_BOOT_LOADAX m.toNat, match parseImage ws with | some i => i.autostart | none => false)
        else (s, false)

/-- Autostart of axis n (R398): the internal ENABLE has no tag and no completion. -/
def State.autostart (s : State) (n : Ax) : State :=
  if (s.dget SYS_BOOT_LOADAX).testBit n.val = true ∧ (s.fld 12).testBit n.val = true ∧ s.dget THERM_STAT_SHUT = 0 ∧
      s.dget (BUS_STAT_UV2 (s.busOf n).val) = 0 then
    let s := (s.actEnable n).1
    if (s.ax n).st = .arming then s.dput SYS_BOOT_AUTOAX (s.dget SYS_BOOT_AUTOAX + 2 ^ n.val) else s
  else s

/-- Steps 6 and 7, after the mount has ended or where there is none (R396 to R399). -/
def State.finishBoot (s : State) : State :=
  let l := s.bootLoad
  let s := l.1.deliverAbandoned
  let s := (s.dput SYS_BOOT_STEP 7).dput SYS_BOOT_TRDY (min 65535 ((s.clk - s.pins.bootAt) / 4000))
  let s := if l.2 then allAx.foldl (fun s n => s.autostart n) s else s
  (s.presentLog 0x12 s.time (wordBytes (s.dreg SYS_RSTINFO) ++ wordBytes (s.dreg FAULT_RSTINFO))).pump

/-- Boot after a reset up to step 4; the Cistern then mounts, or, where there is none, the boot ends (R352, R396, R397). -/
def State.boot (s : State) (src detail : Nat) (psel0 vioHigh xin x32 : Bool) : State :=
  let s := ((s.rstInfo src detail).dput SYS_PWRSTAT_VIOSEL (if vioHigh then 1 else 0)).dput SYS_CLKSTAT_AON_SRC (if x32 then 0 else 1)
  let s := if src = 1 then s.loadShadow else s.loadFields
  let s := (s.fuseValues psel0).startAxes
  let s := if xin then s else
    ((((s.modPins (fun p => { p with xinBad := true })).dput SYS_CLKSTAT_REF_SRC 1).dput SYS_CLKSTAT_REF_LOSTF 1).count 30 unitDev).dput
      SYS_TIMESTAT_DEGRADED 1
  let s := (s.dput SYS_BOOT_STEP 4).modPool (fun p => { p with scrubAt := some s.clk })
  if s.blocks = 0 then (s.setCis cisNone).finishBoot else s.setCis cisMounting

/-! ### The power-fail write (R369) -/

/-- Records queued or staged when the sequence starts. -/
def State.unwritten (s : State) : Nat :=
  s.store.logQ.length + s.store.bootQ.length + s.store.userQ.length + s.store.stage.length

/-- The INFLIGHT record and the LIFECNT increments reach a LIFE page; the records lost count as STORE_FAIL. -/
def State.powerFailWrite (s : State) : State :=
  if s.cis ≠ cisPowerfail ∨ s.dget CISTERN_STAT_LIFERDY = 0 then s
  else
    let l := s.inFlight
    let lost := s.unwritten
    let k := 32 * 37 + unitDev
    let inc := if lost = 0 then s.store.lifeInc
      else WMap.set zeroWord s.store.lifeInc k (BitVec.ofNat 64 ((WMap.get zeroWord s.store.lifeInc k).toNat + lost))
    let q := s.nextSeq partLife
    let r := q.2.nextSeq partLife
    let pay := l.flatMap (fun x => [BitVec.ofNat 8 x.1.val, 0] ++ beBytes 2 x.2.toNat)
    let pay := pay ++ List.replicate (256 - pay.length) 0xFF
    r.2.modStore (fun c => { c with
      inflight := some l
      life := addLife c.life inc
      lifeInc := []
      lifeRecs := c.lifeRecs ++
        [{ typ := 0x21, flags := s.recFlags, seq := q.1, time := s.time, payload := pay },
         { typ := 0x20, flags := s.recFlags, seq := r.1, time := s.time, payload := lifeEntries inc }] })

end Sys2Proof.Machine
end

