-- ==== Sys2Proof/Machine/Cistern.lean ====
section
/-! DEFINITION. The rows of the Cistern (chapter 14): its mount, format and checkpoints, its page programs, failures and
erases, and the host operations of R370. -/

namespace Sys2Proof.Machine

open Sys2Proof

/-! ### Mount and format -/

/-- MOUNT (R354): what the devices hold and answer; the mount of a boot is followed by its steps 6 and 7 (R396). -/
def execMount (idsMatch checkpoint : Bool) (s : State) : Out :=
  if s.alive = true ∧ s.cis = cisMounting then
    let t := s.mountEnd idsMatch checkpoint
    if s.dget SYS_BOOT_STEP = 4 then .next t.finishBoot else .next t.pump
  else .next s

/-- REMOUNT (R354): the write, then the mount it starts. -/
def execRemount (p : Port) (tag : W16) (idsMatch checkpoint : Bool) (s : State) : Out :=
  let was := s.cis
  let s := s.hostWrite p tag CISTERN_CTL (CISTERN_CTL_REMOUNT.put 0 1)
  if was ≠ cisMounting ∧ s.cis = cisMounting then .next (s.mountEnd idsMatch checkpoint).pump else .next s

/-- FORMAT (R355); `answers`: failed devices answer a reset and a read of their IDs. -/
def execFormat (p : Port) (tag : W16) (key : W16) (answers : Bool) (s : State) : Out :=
  .next (s.hostRequest p tag (.fmt key answers))

/-- FORMATTING_END (R355). -/
def execFormattingEnd (s : State) : Out :=
  if s.alive = true ∧ s.cis = cisFormatting then .next s.formatEnd.pump else .next s

/-- CISTERN_CHECKPOINT (R354): every 1 s while something has been written. -/
def execCisternCheckpoint (s : State) : Out :=
  if s.cis = cisReady ∧ s.store.dirty = true ∧ s.store.ckptAt + 1000 * msTicks ≤ s.clk then
    .next (s.modStore (fun c => { c with dirty := false, ckptAt := s.clk }))
  else .next s

/-! ### Page programs and failures -/

/-- The chip select of an operation whose place the manual leaves open (log 51). -/
def State.someCs (s : State) : Nat × State :=
  if s.dget CISTERN_GEOM_BLKS1 = 0 then (0, s) else if s.dget CISTERN_GEOM_BLKS0 = 0 then (1, s)
  else let f := s.takeFree; (f.1.toNat % 2, f.2)

/-- PAGE_PROGRAM (R362): the next pending page is programmed, fails (its block is then retired, R363) or times out (R353). -/
def execPageProgram (r : NandEnd) (s : State) : Out :=
  if s.alive = true ∧ s.cis = cisReady then
    match s.nextPage, r with
    | some k, .ok => .next (s.writePage k).pump
    | some _, .timeout => let c := s.someCs; .next (c.2.nandTimeout c.1)
    | _, _ => .next s
  else .next s

/-- STORE_TIMEOUT (R353, R366). -/
def execStoreTimeout (cs : Bool) (s : State) : Out :=
  if s.alive = true ∧ s.cis ≠ cisNone ∧ s.cis ≠ cisFailed ∧ s.cis ≠ cisPowerfail then .next (s.nandTimeout (if cs then 1 else 0))
  else .next s

/-- BLOCK_FAILURE (R363): block b is retired; a page that failed on three blocks in succession is lost. A block that fails
while a format runs joins the bad-block table (R355). -/
def execBlockFailure (b : Nat) (erase third : Bool) (s : State) : Out :=
  if s.alive = false ∨ s.blocks ≤ b ∨ s.store.bad.contains b = true then .next s
  else if s.cis = cisFormatting then
    let cs := if s.dget CISTERN_GEOM_BLKS0 ≤ b then 1 else 0
    let s := s.storeError (if erase then 2 else 1) 5 cs (if cs = 1 then b - s.dget CISTERN_GEOM_BLKS0 else b) 0
    .next (s.modStore (fun c => { c with bad := c.bad ++ [b] }))
  else if s.cis = cisReady then
    .next ((if third && !erase then s.losePage else s).retireBlock b erase)
  else .next s

/-- WEAR_RELOCATION (R364): the records of a least-worn block move to a block of high count; nothing a reader sees changes. -/
def execWearRelocation (src dst : Nat) (s : State) : Out :=
  if s.cis = cisReady ∧ src ≠ dst ∧ 1000 < s.dget CISTERN_WEAR_MAXE - s.dget CISTERN_WEAR_MINE then
    .next (s.modStore (fun c => { c with dirty := true }))
  else .next s

/-- CISTERN_WEAR over the good blocks. -/
def State.wear (s : State) : State :=
  let es := s.store.erases.filter (fun (x : Nat × W64) => !s.store.bad.contains x.1)
  let top := es.foldl (fun (m : Nat) (x : Nat × W64) => max m x.2.toNat) 0
  let low := if es.length < s.blocks - s.store.bad.length then 0 else es.foldl (fun (m : Nat) (x : Nat × W64) => min m x.2.toNat) top
  (s.dput CISTERN_WEAR_MAXE top).dput CISTERN_WEAR_MINE low

/-- BLOCK_ERASE (R356, R362): the oldest block of a full ring, LOG before TRACE, is erased and reused; or the erase fails and
retires the block, or times out. -/
def execBlockErase (b : Nat) (r : NandEnd) (s : State) : Out :=
  let full := fun (l n : Nat) => decide (n ≤ l)
  let log := full s.store.log.length s.logPages
  if s.alive = true ∧ s.cis = cisReady ∧ (log = true ∨ full s.store.trace.length s.tracePages = true) ∧ b < s.blocks ∧
      s.store.bad.contains b = false then
    match r with
    | .ok =>
      let k := s.blockPages
      .next (s.modStore (fun c => { c with
        erases := WMap.set zeroWord c.erases b (WMap.get zeroWord c.erases b + 1)
        log := if log then c.log.drop k else c.log
        trace := if log then c.trace else c.trace.drop k
        timeouts := 0, dirty := true })).wear
    | .fail => .next (s.retireBlock b true)
    | .timeout => .next (s.nandTimeout (if s.dget CISTERN_GEOM_BLKS0 ≤ b then 1 else 0))
  else .next s

/-! ### Host operations (R370) -/

/-- USER_BEGIN. -/
def execUserBegin (p : Port) (tag : W16) (blob : Byte) (total : W64) (s : State) : Out :=
  if s.gen p = 3 then .next (s.beginUser p tag blob total) else .next s

/-- USER_DATA. -/
def execUserData (p : Port) (tag : W16) (chunk : W16) (ws : List W64) (s : State) : Out :=
  if s.gen p = 3 ∧ s.portUp p = true then .next (s.part p tag (s.streamTag p tag) (fun s => s.userChunk p tag chunk ws)) else .next s

/-- USER_END. -/
def execUserEnd (p : Port) (tag : W16) (s : State) : Out :=
  if s.gen p = 3 ∧ s.portUp p = true then .next (s.part p tag (s.streamTag p tag) (fun s => s.userFinish p tag)) else .next s

/-- USER_READ. -/
def execUserRead (p : Port) (tag : W16) (blob : Byte) (d : W64) (s : State) : Out :=
  let k := d.toNat / 2 ^ 32 % 1024 + 1
  if k ≤ 1020 then .next (s.g3Row p tag (.userRead blob (d.toNat % 2 ^ 32) k))
  else .next (if s.gen p = 3 ∧ s.takes p = true then s.refuse p tag stBadFrame 15 else s)

/-- USER_DELETE. -/
def execUserDelete (p : Port) (tag : W16) (blob : Byte) (s : State) : Out := .next (s.g3Row p tag (.userDelete blob))

/-- LOG_READ. -/
def execLogRead (p : Port) (tag : W16) (seq : W64) (s : State) : Out := .next (s.g3Row p tag (.logRead (seq.setWidth 32)))

/-- TRACE_READ. -/
def execTraceRead (p : Port) (tag : W16) (seq : W64) (s : State) : Out := .next (s.g3Row p tag (.traceRead (seq.setWidth 32)))

/-- LIFE_READ. -/
def execLifeRead (p : Port) (tag : W16) (unit : BitVec 5) (s : State) : Out := .next (s.g3Row p tag (.lifeRead unit))

/-- BOOT_SELECT (R368). -/
def execBootSelect (p : Port) (tag : W16) (b : Bool) (s : State) : Out := .next (s.g3Row p tag (.bootSelect b))

end Sys2Proof.Machine
end

