-- ==== Sys2Proof/Machine/Power.lean ====
section
/-! DEFINITION. Resets, the early power-fail warning, and standby (chapter 16). -/

namespace Sys2Proof.Machine

open Sys2Proof

/-- POWER_ON_RESET (R393): VSUP rises through 8.0 V on a device without supply, or on one that has never booted. -/
def execPowerOnReset (psel0 vioHigh xin x32 : Bool) (s : State) : Out :=
  if s.pins.powered = false ∨ s.dget SYS_BOOT_STEP = 0 then .next ((s.wiped true).boot 1 0 psel0 vioHigh xin x32) else .next s

/-- RESET_N (R393): low for 1 µs, then released. -/
def execResetN (psel0 vioHigh xin x32 : Bool) (s : State) : Out :=
  if s.pins.powered = true ∧ s.pins.asleep = false then .next ((s.wiped false).boot 2 0 psel0 vioHigh xin x32) else .next s

/-- DETAIL of a SUPPLY reset (R406). -/
def Rail.detail : Rail → Nat
  | .vcore => 1 | .v33 => 2 | .vio => 3

/-- SUPPLY (R391, R393). -/
def execSupply (r : Rail) (psel0 vioHigh xin x32 : Bool) (s : State) : Out :=
  if s.pins.powered = true ∧ s.pins.asleep = false then
    .next ((s.wiped false).boot 4 (Rail.detail r) psel0 vioHigh xin x32)
  else .next s

/-- VSUP_POWER_ON_RESET_ASSERT (R391): VSUP below 7.0 V; nothing in SYS or AON survives. The power-fail sequence that the
warning started has ended by then (R369, R401). -/
def execVsupPowerOnResetAssert (s : State) : Out :=
  if s.pins.powered = true then
    .next ((s.powerFailWrite.wiped true).modPins (fun p => { p with powered := false }))
  else .next s

/-- EARLY_POWER_FAIL (R400, R369 step 1): state POWERFAIL, host write streams abandoned with their commands still in flight. -/
def execEarlyPowerFail (s : State) : Out :=
  if s.pins.powered = true ∧ s.pins.asleep = false ∧ s.pins.warning = false then
    let s := s.modPins (fun p => { p with warning := true })
    let s := if s.cis = cisNone then s else s.setCis cisPowerfail
    let adm := s.stream.isSome || s.load.any (fun l => l.store)
    let s := { s with stream := none, load := if s.load.any (fun l => l.store) then none else s.load }
    .next (if adm then s.dput CISTERN_ADM_HOLDER 7 else s)
  else .next s

/-- POWERFAIL (R400): the end of the sequence resets the device, once VSUP has stayed above 8.8 V for 1 ms. -/
def execPowerfail (psel0 vioHigh xin x32 : Bool) (s : State) : Out :=
  if s.pins.powered = true ∧ s.pins.warning = true then .next ((s.powerFailWrite.wiped false).boot 3 0 psel0 vioHigh xin x32)
  else .next s

/-- ENTER (R402): the write of SYS_STBY.ENTER, MODE as it stands. -/
def execEnter (p : Port) (tag : W16) (s : State) : Out := .next (s.hostWrite p tag SYS_STBY (SYS_STBY_ENTER.put (s.dreg SYS_STBY) 1))

/-- STANDBY (R402): the STANDBY completion has been acknowledged; the Cistern writes a checkpoint, the engines and the bucks
stop. -/
def execStandby (s : State) : Out :=
  match s.pins.standby with
  | some (p, tag) =>
    if s.tagUsed p tag then .next s
    else
      let s := s.modStore (fun c => { c with dirty := false })
      let s := { s with engines := s.engines.map (fun (e : Engine) => if e.pool = PoolSt.retired then e else { e with pool := .stopped }) }
      .next (s.modPins (fun q => { q with asleep := true, standby := none }))
  | none => .next s

/-- WAKE (R404): the WAKE pin, or in timed standby the AON counter at CMP; a reset of source 5 or 6. -/
def execWake (pin : Bool) (psel0 vioHigh xin x32 : Bool) (s : State) : Out :=
  let timed := s.dget SYS_STBY_MODE = 1
  if s.pins.powered = true ∧ s.pins.asleep = true ∧ (pin = true ∨ (timed ∧ s.dget SYS_WAKE_CMP ≤ s.dget SYS_AONCNT_COUNT)) then
    .next ((s.wiped false).boot (if timed then 6 else 5) 0 psel0 vioHigh xin x32)
  else .next s

end Sys2Proof.Machine
end

