-- ==== Sys2Proof/Machine/Dispatch.lean ====
section
/-! DEFINITION. One arm per command: the meaning it calls. -/

namespace Sys2Proof.Machine

open Sys2Proof

/-- The effect of a command on everything but the queue. -/
def exec (i : Instr) (s : State) : Host.Outcome State Fault Refusal :=
  match i with
  | .wait n f => Sys2Proof.Machine.execWait n f s
  | .waitTimeout n => Sys2Proof.Machine.execWaitTimeout n s
  | .br n f => Sys2Proof.Machine.execBr n f s
  | .call n f => Sys2Proof.Machine.execCall n f s
  | .ret n f => Sys2Proof.Machine.execRet n f s
  | .loop n f => Sys2Proof.Machine.execLoop n f s
  | .step n f => Sys2Proof.Machine.execStep n f s
  | .sig n f => Sys2Proof.Machine.execSig n f s
  | .endTick n f => Sys2Proof.Machine.execEndTick n f s
  | .vadd n f => Sys2Proof.Machine.execVadd n f s
  | .vsub n f => Sys2Proof.Machine.execVsub n f s
  | .vmul n f => Sys2Proof.Machine.execVmul n f s
  | .cmul n f => Sys2Proof.Machine.execCmul n f s
  | .clarke n f => Sys2Proof.Machine.execClarke n f s
  | .iclarke n f => Sys2Proof.Machine.execIclarke n f s
  | .rot n f => Sys2Proof.Machine.execRot n f s
  | .cross n f => Sys2Proof.Machine.execCross n f s
  | .dot n f => Sys2Proof.Machine.execDot n f s
  | .mag n f => Sys2Proof.Machine.execMag n f s
  | .atan2 n f => Sys2Proof.Machine.execAtan2 n f s
  | .integ n f => Sys2Proof.Machine.execInteg n f s
  | .hyst n f => Sys2Proof.Machine.execHyst n f s
  | .sect n f => Sys2Proof.Machine.execSect n f s
  | .swt n f => Sys2Proof.Machine.execSwt n f s
  | .lim n f => Sys2Proof.Machine.execLim n f s
  | .pi n f => Sys2Proof.Machine.execPi n f s
  | .filt n f => Sys2Proof.Machine.execFilt n f s
  | .lut1 n f => Sys2Proof.Machine.execLut1 n f s
  | .lut2 n f => Sys2Proof.Machine.execLut2 n f s
  | .ld n f => Sys2Proof.Machine.execLd n f s
  | .st n f => Sys2Proof.Machine.execSt n f s
  | .ior n f => Sys2Proof.Machine.execIor n f s
  | .iow n f => Sys2Proof.Machine.execIow n f s
  | .samp n f => Sys2Proof.Machine.execSamp n f s
  | .apply n f => Sys2Proof.Machine.execApply n f s
  | .pred n f => Sys2Proof.Machine.execPred n f s
  | .trc n f => Sys2Proof.Machine.execTrc n f s
  | .shr n f => Sys2Proof.Machine.execShr n f s
  | .illegalOpcodeFetch n => Sys2Proof.Machine.execIllegalOpcodeFetch n s
  | .tickBoundary n adc => Sys2Proof.Machine.execTickBoundary n adc s
  | .positionRefresh n => Sys2Proof.Machine.execPositionRefresh n s
  | .emuCountEmit m => Sys2Proof.Machine.execEmuCountEmit m s
  | .engMismatch n => Sys2Proof.Machine.execEngMismatch n s
  | .engineOverrun n => Sys2Proof.Machine.execEngineOverrun n s
  | .checkpointCopyMismatch n => Sys2Proof.Machine.execCheckpointCopyMismatch n s
  | .selftest e => Sys2Proof.Machine.execSelftest e s
  | .selftestEnd e pass => Sys2Proof.Machine.execSelftestEnd e pass s
  | .memUncorrectable m word byEngine => Sys2Proof.Machine.execMemUncorrectable m word byEngine s
  | .scrubRead m o e => Sys2Proof.Machine.execScrubRead m o e s
  | .systemControllerRestart memory => Sys2Proof.Machine.execSystemControllerRestart memory s
  | .systemControllerRestartEnd => Sys2Proof.Machine.execSystemControllerRestartEnd s
  | .pllFail => Sys2Proof.Machine.execPllFail s
  | .delayLineRecalibrationEnd => Sys2Proof.Machine.execDelayLineRecalibrationEnd s
  | .delayLineCalibration n converged => Sys2Proof.Machine.execDelayLineCalibration n converged s
  | .standbyPllRestored => Sys2Proof.Machine.execStandbyPllRestored s
  | .standbyPllLoss => Sys2Proof.Machine.execStandbyPllLoss s
  | .swap p tag => Sys2Proof.Machine.execSwap p tag s
  | .refLost => Sys2Proof.Machine.execRefLost s
  | .refReturn => Sys2Proof.Machine.execRefReturn s
  | .refRearm p tag => Sys2Proof.Machine.execRefRearm p tag s
  | .islandGateStop n => Sys2Proof.Machine.execIslandGateStop n s
  | .cdcMismatch unit p tag second => Sys2Proof.Machine.execCdcMismatch unit p tag second s
  | .sandglassExpiry p tag => Sys2Proof.Machine.execSandglassExpiry p tag s
  | .ppsEdge rising short => Sys2Proof.Machine.execPpsEdge rising short s
  | .ppsLost => Sys2Proof.Machine.execPpsLost s
  | .sysTimeset p tag v => Sys2Proof.Machine.execSysTimeset p tag v s
  | .sysTimetrim p tag v => Sys2Proof.Machine.execSysTimetrim p tag v s
  | .sysTimeload p tag v => Sys2Proof.Machine.execSysTimeload p tag v s
  | .mbinWrite p tag n w v => Sys2Proof.Machine.execMbinWrite p tag n w v s
  | .post p tag n => Sys2Proof.Machine.execPost p tag n s
  | .mailboxHeldWriteRelease n => Sys2Proof.Machine.execMailboxHeldWriteRelease n s
  | .halt p tag n => Sys2Proof.Machine.execHalt p tag n s
  | .resume p tag n => Sys2Proof.Machine.execResume p tag n s
  | .dbgctlStep p tag n => Sys2Proof.Machine.execDbgctlStep p tag n s
  | .breakpoint n => Sys2Proof.Machine.execBreakpoint n s
  | .dbgdataWrite p tag v => Sys2Proof.Machine.execDbgdataWrite p tag v s
  | .axnTickWrite p tag n v => Sys2Proof.Machine.execAxnTickWrite p tag n v s
  | .axnBaseWrite p tag n one v => Sys2Proof.Machine.execAxnBaseWrite p tag n one v s
  | .enable p tag n => Sys2Proof.Machine.execEnable p tag n s
  | .stop p tag n => Sys2Proof.Machine.execStop p tag n s
  | .clear p tag n => Sys2Proof.Machine.execClear p tag n s
  | .armingComplete n terms => Sys2Proof.Machine.execArmingComplete n terms s
  | .armingBootstrapTimeout n => Sys2Proof.Machine.execArmingBootstrapTimeout n s
  | .disarmComplete n => Sys2Proof.Machine.execDisarmComplete n s
  | .stoptmo n => Sys2Proof.Machine.execStoptmo n s
  | .stateRequest n => Sys2Proof.Machine.execStateRequest n s
  | .catchTimeout n => Sys2Proof.Machine.execCatchTimeout n s
  | .stall n => Sys2Proof.Machine.execStall n s
  | .hallCode n c => Sys2Proof.Machine.execHallCode n c s
  | .hallInvtmo n => Sys2Proof.Machine.execHallInvtmo n s
  | .speedStopped n => Sys2Proof.Machine.execSpeedStopped n s
  | .encQuadratureStep k ab => Sys2Proof.Machine.execEncQuadratureStep k ab s
  | .encZ k => Sys2Proof.Machine.execEncZ k s
  | .ssiRequest k => Sys2Proof.Machine.execSsiRequest k s
  | .ssiTransactionEnd k word crc => Sys2Proof.Machine.execSsiTransactionEnd k word crc s
  | .encTimeout k => Sys2Proof.Machine.execEncTimeout k s
  | .fbclr p tag n => Sys2Proof.Machine.execFbclr p tag n s
  | .encoderConfigWrite p tag k r v => Sys2Proof.Machine.execEncoderConfigWrite p tag k r v s
  | .probeLatch j rising => Sys2Proof.Machine.execProbeLatch j rising s
  | .emuCfgWrite p tag m v => Sys2Proof.Machine.execEmuCfgWrite p tag m v s
  | .catchClr p tag n => Sys2Proof.Machine.execCatchClr p tag n s
  | .currentBound n ph uv => Sys2Proof.Machine.execCurrentBound n ph uv s
  | .ptmctlStep n => Sys2Proof.Machine.execPtmctlStep n s
  | .compare n k codes => Sys2Proof.Machine.execCompare n k codes s
  | .switchingRateWindow n => Sys2Proof.Machine.execSwitchingRateWindow n s
  | .windbreakTurnOn n g => Sys2Proof.Machine.execWindbreakTurnOn n g s
  | .gateStuckOn n g high => Sys2Proof.Machine.execGateStuckOn n g high s
  | .gateStuckOff n g check v => Sys2Proof.Machine.execGateStuckOff n g check v s
  | .hbConflict n ph begins => Sys2Proof.Machine.execHbConflict n ph begins s
  | .hbConflictTimeout n ph => Sys2Proof.Machine.execHbConflictTimeout n ph s
  | .vgdUv => Sys2Proof.Machine.execVgdUv s
  | .vgdUvRelease => Sys2Proof.Machine.execVgdUvRelease s
  | .bstUv n ph v => Sys2Proof.Machine.execBstUv n ph v s
  | .desat n g v => Sys2Proof.Machine.execDesat n g v s
  | .ocTrip n ph hard uv => Sys2Proof.Machine.execOcTrip n ph hard uv s
  | .tripPin k high => Sys2Proof.Machine.execTripPin k high s
  | .oasholdExpiry n => Sys2Proof.Machine.execOasholdExpiry n s
  | .ascAutoShort n terms => Sys2Proof.Machine.execAscAutoShort n terms s
  | .safeN low => Sys2Proof.Machine.execSafeN low s
  | .busOv1 x v => Sys2Proof.Machine.execBusOv1 x v s
  | .busOv2 x v => Sys2Proof.Machine.execBusOv2 x v s
  | .busOv3 x v => Sys2Proof.Machine.execBusOv3 x v s
  | .busUv1 x v => Sys2Proof.Machine.execBusUv1 x v s
  | .busUv2 x v => Sys2Proof.Machine.execBusUv2 x v s
  | .busThresholdRelease x t v => Sys2Proof.Machine.execBusThresholdRelease x t v s
  | .busThresholdWrite p tag x uv v => Sys2Proof.Machine.execBusThresholdWrite p tag x uv v s
  | .escalation n terms => Sys2Proof.Machine.execEscalation n terms s
  | .brakeChopperPeriod x on off => Sys2Proof.Machine.execBrakeChopperPeriod x on off s
  | .brakeTest x on off => Sys2Proof.Machine.execBrakeTest x on off s
  | .brkctlTest p tag x => Sys2Proof.Machine.execBrkctlTest p tag x s
  | .brkctlClr p tag x => Sys2Proof.Machine.execBrkctlClr p tag x s
  | .thermReading ts ntc x => Sys2Proof.Machine.execThermReading ts ntc x s
  | .tempSensorBad f => Sys2Proof.Machine.execTempSensorBad f s
  | .ntcOpenShort k short => Sys2Proof.Machine.execNtcOpenShort k short s
  | .ntcDeclarationEnd k => Sys2Proof.Machine.execNtcDeclarationEnd k s
  | .fuseReread changed => Sys2Proof.Machine.execFuseReread changed s
  | .spiFrame p bits => Sys2Proof.Machine.execSpiFrame p bits s
  | .packetDiscard p => Sys2Proof.Machine.execPacketDiscard p s
  | .g1WindowRead a => Sys2Proof.Machine.execG1WindowRead a s
  | .g1MailboxWrite w v => Sys2Proof.Machine.execG1MailboxWrite w v s
  | .exta v => Sys2Proof.Machine.execExta v s
  | .extd v => Sys2Proof.Machine.execExtd v s
  | .g1Nop => Sys2Proof.Machine.execG1Nop s
  | .poll p rep => Sys2Proof.Machine.execPoll p rep s
  | .mbptr p n v => Sys2Proof.Machine.execMbptr p n v s
  | .mbwr p n v => Sys2Proof.Machine.execMbwr p n v s
  | .addr p v => Sys2Proof.Machine.execAddr p v s
  | .rd p k => Sys2Proof.Machine.execRd p k s
  | .wr p k v => Sys2Proof.Machine.execWr p k v s
  | .ntf p v => Sys2Proof.Machine.execNtf p v s
  | .g2CanCompletionSent p => Sys2Proof.Machine.execG2CanCompletionSent p s
  | .read p tag a cnt => Sys2Proof.Machine.execRead p tag a cnt s
  | .write p tag a vs => Sys2Proof.Machine.execWrite p tag a vs s
  | .mbwrite p tag n first post vs => Sys2Proof.Machine.execMbwrite p tag n first post vs s
  | .ping p tag => Sys2Proof.Machine.execPing p tag s
  | .linkAck p cseq nseq crw nrw => Sys2Proof.Machine.execLinkAck p cseq nseq crw nrw s
  | .loadBegin p tag mask store => Sys2Proof.Machine.execLoadBegin p tag mask store s
  | .loadData p tag chunk ws => Sys2Proof.Machine.execLoadData p tag chunk ws s
  | .loadEnd p tag => Sys2Proof.Machine.execLoadEnd p tag s
  | .loadAbandon p => Sys2Proof.Machine.execLoadAbandon p s
  | .applyBoot p tag mask => Sys2Proof.Machine.execApplyBoot p tag mask s
  | .claim p tag n => Sys2Proof.Machine.execClaim p tag n s
  | .release p tag n => Sys2Proof.Machine.execRelease p tag n s
  | .forceClaim p tag n => Sys2Proof.Machine.execForceClaim p tag n s
  | .hostPermWrite p tag k v => Sys2Proof.Machine.execHostPermWrite p tag k v s
  | .portDisable p tag k => Sys2Proof.Machine.execPortDisable p tag k s
  | .portEnable p tag k => Sys2Proof.Machine.execPortEnable p tag k s
  | .uartBdivChange => Sys2Proof.Machine.execUartBdivChange s
  | .canBusOffRecovery => Sys2Proof.Machine.execCanBusOffRecovery s
  | .engineExcClr p tag n => Sys2Proof.Machine.execEngineExcClr p tag n s
  | .axnCntclr p tag n => Sys2Proof.Machine.execAxnCntclr p tag n s
  | .faultClr p tag => Sys2Proof.Machine.execFaultClr p tag s
  | .ack p tag => Sys2Proof.Machine.execAck p tag s
  | .registerWrite p tag a v => Sys2Proof.Machine.execRegisterWrite p tag a v s
  | .mount idsMatch checkpoint => Sys2Proof.Machine.execMount idsMatch checkpoint s
  | .remount p tag idsMatch checkpoint => Sys2Proof.Machine.execRemount p tag idsMatch checkpoint s
  | .format p tag key answers => Sys2Proof.Machine.execFormat p tag key answers s
  | .cisternCheckpoint => Sys2Proof.Machine.execCisternCheckpoint s
  | .pageProgram r => Sys2Proof.Machine.execPageProgram r s
  | .storeTimeout cs => Sys2Proof.Machine.execStoreTimeout cs s
  | .blockFailure b erase third => Sys2Proof.Machine.execBlockFailure b erase third s
  | .wearRelocation src dst => Sys2Proof.Machine.execWearRelocation src dst s
  | .userBegin p tag blob total => Sys2Proof.Machine.execUserBegin p tag blob total s
  | .userData p tag chunk ws => Sys2Proof.Machine.execUserData p tag chunk ws s
  | .userEnd p tag => Sys2Proof.Machine.execUserEnd p tag s
  | .userRead p tag blob d => Sys2Proof.Machine.execUserRead p tag blob d s
  | .userDelete p tag blob => Sys2Proof.Machine.execUserDelete p tag blob s
  | .logRead p tag seq => Sys2Proof.Machine.execLogRead p tag seq s
  | .traceRead p tag seq => Sys2Proof.Machine.execTraceRead p tag seq s
  | .lifeRead p tag unit => Sys2Proof.Machine.execLifeRead p tag unit s
  | .bootSelect p tag b => Sys2Proof.Machine.execBootSelect p tag b s
  | .program p tag cnt => Sys2Proof.Machine.execProgram p tag cnt s
  | .seal p tag => Sys2Proof.Machine.execSeal p tag s
  | .fuseRead p tag => Sys2Proof.Machine.execFuseRead p tag s
  | .powerOnReset psel0 vioHigh xin x32 => Sys2Proof.Machine.execPowerOnReset psel0 vioHigh xin x32 s
  | .resetN psel0 vioHigh xin x32 => Sys2Proof.Machine.execResetN psel0 vioHigh xin x32 s
  | .supply r psel0 vioHigh xin x32 => Sys2Proof.Machine.execSupply r psel0 vioHigh xin x32 s
  | .vsupPowerOnResetAssert => Sys2Proof.Machine.execVsupPowerOnResetAssert s
  | .earlyPowerFail => Sys2Proof.Machine.execEarlyPowerFail s
  | .powerfail psel0 vioHigh xin x32 => Sys2Proof.Machine.execPowerfail psel0 vioHigh xin x32 s
  | .enter p tag => Sys2Proof.Machine.execEnter p tag s
  | .standby => Sys2Proof.Machine.execStandby s
  | .wake pin psel0 vioHigh xin x32 => Sys2Proof.Machine.execWake pin psel0 vioHigh xin x32 s
  | .drvClockFallback stops => Sys2Proof.Machine.execDrvClockFallback stops s
  | .canFrame ident ext fd remote data => Sys2Proof.Machine.execCanFrame ident ext fd remote data s
  | .canBusOff tec rec => Sys2Proof.Machine.execCanBusOff tec rec s
  | .formattingEnd => Sys2Proof.Machine.execFormattingEnd s
  | .fuseCommandEnd r => Sys2Proof.Machine.execFuseCommandEnd r s
  | .blockErase b r => Sys2Proof.Machine.execBlockErase b r s

end Sys2Proof.Machine
end

