-- ==== Sys2Proof/Machine/Idle.lean ====
section
/-! DEFINITION. One base tick of the OL864 (R41), and what happens by itself in it. -/

namespace Sys2Proof.Machine

open Sys2Proof

/-- The filters of the position inputs in one base tick (R162, R173, R177). -/
def State.posTick (s : State) : State :=
  let s := allAx.foldl (fun s n => s.hallTick n) s
  let s := ([0, 1, 2, 3] : List Chan).foldl (fun s k => s.encTick k) s
  ([0, 1, 2, 3] : List Chan).foldl (fun s j => s.prbTick j) s

/-- At the end of a SYS cycle the slice writes that waited for its drains apply (R328). -/
def State.sliceWrites (s : State) : State :=
  if s.clk % 2 = 0 then { ({ s with cycleEnd := true }).pump with cycleEnd := false } else s

/-- What the islands of a clocked device do in one base tick: the slice writes of the SYS cycle that ends (R328), TIME (R24), the AON counter (R7), the position
inputs (R162, R173, R177), the scheduled gate edges that fall in it (R200), OV2 behaviour (R249), the engine pool (R281), the end of a restart of the system controller (R280), what
stops a fuse command (R384), and the host commands that can start (R317). -/
def State.clocked (s : State) : State :=
  let s := allAx.foldl (fun s n => s.playUntil n (32 * s.clk)) s.sliceWrites.timeTick.aonTick.posTick
  ((([0, 1] : List Bus).foldl (fun s x => s.ov2Tick x) s).poolTick.restartTick.fuseTick).pump

/-- One base tick of the gate-drive channels of axis n: the TRIP pins (R230), the bootstrap events and refreshes (R226), ARMING
and DISARM (R228, R289, R290), and the bus-current estimate (R248). -/
def State.gateTick (s : State) (n : Ax) : State :=
  (((((s.tripHeld n).bstArrivals n).endRefresh n).armTick n).armLimits n).regenTick n

/-- One base tick of the driver die, which needs no control-die clock: the gate-drive channels and the brake choppers (R251). -/
def State.driveTick (s : State) : State :=
  ([0, 1] : List Bus).foldl (fun s x => s.chopperTick x) (allAx.foldl (fun s n => s.gateTick n) s)

/-- One base tick. Without supply nothing runs; in timed standby the AON counter runs alone, in deep standby nothing does
(R403); after the double fault of R13 only the DRV and AON islands have a clock. -/
def State.idle (s : State) : State :=
  let s := { s with clk := s.clk + 1 }
  if s.pins.powered = false then s
  else if s.pins.asleep = true then (if s.dget SYS_STBY_MODE = 1 then s.aonTick else s)
  else if s.pins.noClock = true then s.driveTick.aonTick
  else s.driveTick.clocked

end Sys2Proof.Machine
end

