-- ==== Sys2Proof/Safety.lean ====
section
/-! DEFINITION. What a sound state and a safe output are, in the terms the statements use. -/

namespace Sys2Proof.Machine

open Sys2Proof

/-- Every register map is in its canonical form: addresses strictly rising, no entry equal to its reset value. -/
def State.mapsWf (s : State) : Bool :=
  WMap.wf devReset s.dev && allAx.all (fun n => WMap.wf axReset (s.ax n).regs)

/-- Every bank and buffer is in its canonical form. -/
def State.banksWf (s : State) : Bool :=
  WMap.wf zeroWord s.shared && allAx.all (fun n => WMap.wf zeroWord (s.ax n).p && WMap.wf zeroWord (s.ax n).d)

/-- No half-bridge has both its gates in a set of gates. -/
def apart (g : BitVec 6) : Bool := allPh.all (fun p => !(g.getLsbD (highGate p).val && g.getLsbD (lowGate p).val))

/-- No half-bridge of the axis conducts on both sides (R223), nor has Windbreak issued both its turn-ons (R219). -/
def Axis.noShoot (a : Axis) : Bool := apart a.gd.on && apart a.gd.iss

/-- No half-bridge of the device conducts on both sides, nor has both its turn-ons issued. -/
def State.noShoot (s : State) : Bool := allAx.all (fun n => (s.ax n).noShoot)

/-- A run is safe while no half-bridge conducts on both sides. -/
def State.safe (s : State) : Bool := s.noShoot

/-- An axis whose outputs are all off. -/
def Axis.allOff (a : Axis) : Bool := a.gd.on == 0 && a.gd.pend == 0

/-! ### Vocabulary of the statements -/

/-- Command i, from state s, answers a next state, and that state has the property P. -/
def Runs (i : Instr) (s : State) (P : State → Prop) : Prop := ∃ t, exec i s = .next t ∧ P t

/-- The signed 32-bit integer nearest to x (R72). -/
def clamp32 (x : Int) : W32 := BitVec.ofInt 32 (max (-2147483648) (min 2147483647 x))

/-- x lies outside the signed 32-bit range: storing it saturates (R72). -/
def over32 (x : Int) : Bool := decide (x < -2147483648 ∨ 2147483647 < x)

/-- A quotient by 2^k rounded to nearest, ties toward positive (R72). -/
def shrRound (x : Int) (k : Nat) : Int := (x + 2 ^ (k - 1)) / 2 ^ k

/-- What one instruction of the engine of axis n leaves alone: everything outside the engine's registers and the tick of the
axis. -/
def EngineFrame (s t : State) (n : Ax) (e : Eng) : Prop :=
  t = { s with engines := t.engines, axes := t.axes } ∧
  (∀ d : Eng, d ≠ e → t.eng d = s.eng d) ∧ (t.eng e).pool = (s.eng e).pool ∧
  (∀ m : Ax, m ≠ n → t.ax m = s.ax m) ∧ t.ax n = { s.ax n with run := (t.ax n).run }

/-- The tick after one instruction of `cyc` cycles that adds the entries `es` and raises the exceptions `xs`. -/
def TickNext (s t : State) (n : Ax) (e : Eng) (cyc : Nat) (es : List Effect) (xs : List (BitVec 4)) : Prop :=
  let r := (s.ax n).run
  let q := (t.ax n).run
  let pc := (s.eng e).core.pc
  q.cyc = r.cyc + cyc ∧ q.seq = r.seq + 1 ∧
  q.buf = r.buf ++ es.map (fun x => { seq := r.seq, pc := pc, eff := x }) ∧
  q.exc = r.exc ++ xs.map (fun x => { seq := r.seq, pc := pc, code := x }) ∧
  (t.eng e).core.f.getLsbD fEXC = ((s.eng e).core.f.getLsbD fEXC || !xs.isEmpty)

/-- The vector and K registers after both lanes are written through a write mask (R69). -/
def LanesWritten (t : State) (e : Eng) (c : Core) (cls : Cls) (code : BitVec 6) (wm : Nat) (x y : W32) : Prop :=
  (t.eng e).core.v = (writeLanes c cls code wm x y).1.v ∧ (t.eng e).core.k = (writeLanes c cls code wm x y).1.k

/-- Outside a LOOP body the PC moves to the next word and LC stays. -/
def PcNext (s t : State) (n : Ax) (e : Eng) : Prop :=
  (s.ax n).run.loop = none → (t.eng e).core.pc = (s.eng e).core.pc + 1 ∧ (t.eng e).core.lc = (s.eng e).core.lc

/-- Where control goes after a word of axis n's engine that leads to word u (R83; for CALL and RET: DEDUCED, log 52). Where u
follows the active LOOP body and control comes from its last word or by RET, LC above 1 leads back to the first word and counts
down, and LC of 1 ends the loop; everywhere else control goes to u. -/
def Control (s t : State) (n : Ax) (e : Eng) (u : BitVec 13) (ret : Bool) : Prop :=
  let c := (s.eng e).core
  let q := (t.eng e).core
  let lp := (s.ax n).run.loop
  let ends := lp.any (fun l => u == l.2 + 1 && (c.pc == l.2 || ret))
  (ends = true → 1 < c.lc → ∀ l ∈ lp, q.pc = l.1 ∧ q.lc = c.lc - 1 ∧ (t.ax n).run.loop = lp) ∧
  (ends = true → c.lc ≤ 1 → q.pc = u ∧ q.lc = c.lc ∧ (t.ax n).run.loop = none) ∧
  (ends = false → q.pc = u ∧ q.lc = c.lc ∧ (t.ax n).run.loop = lp)

/-- The engine e of axis n has executed one word of one cycle that writes no V and no K register: it adds the entries `es`,
raises the exceptions `xs` (F.EXC set when there is one) and changes nothing else but the PC, LC and the loop. -/
def Ran (s t : State) (n : Ax) (e : Eng) (es : List Effect) (xs : List (BitVec 4)) : Prop :=
  let c := (s.eng e).core
  let q := (t.ax n).run
  EngineFrame s t n e ∧ TickNext s t n e 1 es xs ∧
  (t.eng e).core = { c with pc := (t.eng e).core.pc, lc := (t.eng e).core.lc, f := if xs = [] then c.f else c.f ||| 0x10000000 } ∧
  q = { (s.ax n).run with cyc := q.cyc, seq := q.seq, loop := q.loop, buf := q.buf, exc := q.exc }

/-- Axis n has entered OASIS with a cause: CAUSE and OASTIME, no ENABLE held, and every gate off where its Oasis option names
no short (R234). -/
def Faulted (s t : State) (n : Ax) (cause : Nat) : Prop :=
  (t.ax n).st = .oasis ∧ (t.ax n).get AX_STATE_CAUSE = cause ∧ (t.ax n).reg AX_OASTIME = s.time ∧
  (t.ax n).since = s.clk ∧ (t.ax n).held = false ∧
  ((s.ax n).get AX_OASIS_OPT = 0 ∨ (s.ax n).get AX_OASIS_OPT = 3 → (t.ax n).gd.on = 0)

/-- A 16-bit counter of axis n has counted one, saturating. -/
def CountedAx (s t : State) (n : Ax) (f : Fld) : Prop := (t.ax n).get f = min ((s.ax n).get f + 1) 65535

/-- A 16-bit counter outside the axis blocks has counted one, saturating. -/
def CountedDev (s t : State) (f : Fld) : Prop := t.dget f = min (s.dget f + 1) 65535

/-- Axis n sees event b (R77): in F at once while its tick runs, else in its latch. -/
def EventSeen (s t : State) (n : Ax) (b : Nat) : Prop :=
  ((s.ax n).run.running = false ∨ (s.ax n).engine = none → (t.ax n).ev.getLsbD b = true) ∧
  ((s.ax n).run.running = true → ∀ e : Eng, (s.ax n).engine = some e → (t.eng e).core.f.getLsbD (16 + b) = true)

/-- FAULT_LAST shows a code and a unit (R302). -/
def LastFault (t : State) (code unit : Nat) : Prop := t.dget FAULT_LAST_CODE = code ∧ t.dget FAULT_LAST_UNIT = unit

/-- Everything but the axis blocks is as before. -/
def OnlyAxes (s t : State) : Prop := t = { s with axes := t.axes }

/-- Every other axis is as before. -/
def OthersKept (s t : State) (n : Ax) : Prop := ∀ m : Ax, m ≠ n → t.ax m = s.ax m

/-- No command of any port is in flight. -/
abbrev NoCommands (s : State) : Prop := ∀ p : Port, (s.port p).cmds = []

/-- Every axis keeps its state. -/
def StatesKept (s t : State) : Prop := ∀ m : Ax, (t.ax m).st = (s.ax m).st

/-- What a stop of the engine of axis n leaves (R281, R283, R434): the engine retired, the axis without an engine, the tick
discarded, one count; then a need for a spare, or OASIS where there is none or the cause is the checkpoint copy (R45). -/
def EngineLost (s t : State) (n : Ax) (e : Eng) (cause : BitVec 4) : Prop :=
  (t.eng e).pool = .retired ∧ (t.ax n).engine = none ∧ (t.ax n).run.running = false ∧ (t.ax n).run.buf = [] ∧
  CountedAx s t n AX_CNT3_ENG_MISMATCH ∧ OthersKept s t n ∧
  (cause = 3 ∨ s.pickSpare = none → ((s.ax n).st ≠ .oasis → Faulted s t n 25) ∧ LastFault t 25 n.val ∧
    t.dget FAULT_LAST_DETAIL = 256 * e.val + cause.toNat ∧ t.pool.needs = s.pool.needs) ∧
  (cause ≠ 3 → s.pickSpare ≠ none → (t.ax n).st = (s.ax n).st ∧
    t.pool.needs.map (fun x => (x.axis, x.failed, x.cause, x.at_, x.chosen)) =
      s.pool.needs.map (fun x => (x.axis, x.failed, x.cause, x.at_, x.chosen)) ++ [(n, e, cause, s.clk, none)])

/-- A bootstrap low event of phase p of axis n (R226, R227): counted and shown as EV_TRIP; in OASIS and under the escalation short
every gate goes off, a second event within BSTWIN enters OASIS with cause 5, and else the phase refreshes. -/
def BstEvent (s t : State) (n : Ax) (p : Phase) : Prop :=
  let a := s.ax n
  CountedAx s t n AX_CNT1_BST_UV ∧ EventSeen s t n evTrip ∧ OthersKept s t n ∧ (t.ax n).gd.bstLast[p] = some s.clk ∧
  (a.st = .oasis → (t.ax n).st = .oasis ∧ (t.ax n).gd.bstOff = true ∧ (t.ax n).gd.on = 0) ∧
  (a.st ≠ .oasis → a.bstAgain p s.clk = true → Faulted s t n 5 ∧ LastFault t 5 n.val) ∧
  (a.st ≠ .oasis → a.bstAgain p s.clk = false → (t.ax n).st = a.st ∧
    (a.gd.esc = true → (t.ax n).gd.bstOff = true ∧ (t.ax n).gd.on = 0) ∧
    (a.gd.esc = false → (t.ax n).gd.refresh.getLsbD p.val = true))

/-- A failure of encoder channel k (R175, R176), where it serves axis n or none: LASTERR, one more BADRUN (up to 15), the count of
the axis or of the device; at ERRLIM the fallback of the axis, or OASIS with the cause. POS stays. -/
def ChanFailed (s t : State) (k : Chan) (n : Ax) (cause : Nat) (cnt dcnt : Fld) (err : Nat) : Prop :=
  let run := min 15 (s.dget (ENC_STAT_BADRUN k.val) + 1)
  let atLim := decide (s.dget (ENC_CFG_ERRLIM k.val) ≤ run)
  let masked := decide (s.dget (ENC_CFG_FALLBK k.val) = 1)
  t.dget (ENC_STAT_LASTERR k.val) = err ∧ t.dget (ENC_STAT_BADRUN k.val) = run ∧
  t.dget (ENC_POS_POS k.val) = s.dget (ENC_POS_POS k.val) ∧ t.clk = s.clk ∧ t.pending = s.pending ∧
  (s.encAxis k = some n → CountedAx s t n cnt ∧ OthersKept s t n ∧
    (atLim = false ∨ masked = true ∨ (s.ax n).st = .oasis → (t.ax n).st = (s.ax n).st) ∧
    (atLim = true → masked = true → (t.ax n).pos.fallback = true ∧ (t.ax n).pos.fbWait = true) ∧
    (atLim = true → masked = false → (s.ax n).st ≠ .oasis → Faulted s t n cause ∧ LastFault t cause n.val)) ∧
  (s.encAxis k = none → CountedDev s t dcnt ∧ t.axes = s.axes)

/-- The axes of a bus. -/
abbrev OnBus (s : State) (x : Bus) (n : Ax) : Prop := s.busOf n = x

/-- A comparator of a bus has set: its bit, its count, the reported voltage and the derate (R243, R244, R246). -/
def ThresholdSet (s t : State) (x : Bus) (f c : Fld) (v : BitVec 10) : Prop :=
  t.dget f = 1 ∧ CountedDev s t c ∧ t.dget (BUS_STAT_VBUS x.val) = 4 * v.toNat ∧
  t.dget (BUS_STAT_KBUS x.val) = s.kbus x (4 * v.toNat)

/-! ### Host commands -/

/-- Port p receives and nothing that waits or stands in its way: no early warning, no standby request, no restart or migration,
no command in flight and no completion held on any port, no swap pending, no contention (R316, R317, R319). -/
abbrev Calm (s : State) (p : Port) : Prop :=
  s.portUp p = true ∧ s.pins.warning = false ∧ s.pins.standby = none ∧ s.pool.restart = false ∧ s.pool.needs = [] ∧
  s.contest = [] ∧ s.pending.all (fun i => (s.requests i).isEmpty) = true ∧
  (∀ k : Port, (s.port k).cmds = [] ∧ (s.port k).ring = []) ∧ (∀ n : Ax, s.aget n AX_MBCTL_PEND = 0)

/-- Every other port is without commands and completions. -/
abbrev OthersQuiet (t : State) (p : Port) : Prop := ∀ k : Port, k ≠ p → (t.port k).cmds = [] ∧ (t.port k).ring = []

/-- The command has completed with a status and data: one completion record on port p (R294, R320), under the port's next CSEQ;
G1 and G2 ports number their commands themselves (R325). How many registers a refused WRITE wrote (R339) is left to the
statements about WRITE. -/
def Done (s t : State) (p : Port) (tag : W16) (st : Byte) (axis : BitVec 4) (data : List W64) : Prop :=
  (t.port p).cmds = [] ∧ (t.port p).cseq = (s.port p).cseq + 1 ∧ OthersQuiet t p ∧
  (t.port p).ring.map (fun (c : Completion) => { c with wrote := none, sent := false }) =
    [{ tag := (s.assignTag p tag).1, status := st, axis := axis, data := data, time := t.time, cseq := (s.port p).cseq,
       wrote := none, sent := false }]

/-- Only registers outside the axis blocks and the ports have changed; of the registers only the one at a. -/
def DevOnly (s t : State) (a : Nat) : Prop :=
  t = { s with dev := t.dev, ports := t.ports } ∧ ∀ b : Nat, b ≠ a → t.dreg b = s.dreg b

/-- The command is refused on arrival (R316): LASTREF of port p shows why, it takes no slot, posts no completion, and nothing
but the port has changed (`free` advances past the tag of an inline answer, log 48). On G1 and G2 an inline answer carries the
status: on SPI in place of an earlier one, on CAN FD after the earlier ones (R329, R333, R334). -/
def Refused (s t : State) (p : Port) (st : Byte) : Prop :=
  t.dget (HOST_QSTAT_LASTREF p.val) = st.toNat ∧ (t.port p).cmds = (s.port p).cmds ∧ (t.port p).ring = (s.port p).ring ∧
  (s.gen p ≠ 3 → (t.port p).inl.map (·.status) = (if p.val < 2 then [] else (s.port p).inl.map (·.status)) ++ [st]) ∧
  (∀ k : Port, k ≠ p → t.port k = s.port k) ∧ DevOnly { s with free := t.free } t (HOST_QSTAT p.val)

/-- The command is in flight: it holds its slot, started or waiting. -/
def InFlight (s t : State) (p : Port) (tag : W16) (o : Op) (started : Bool) : Prop :=
  (t.port p).cmds.map (fun c => (c.tag, c.op, c.started)) = [((s.assignTag p tag).1, o, started)] ∧ (t.port p).ring = [] ∧
  OthersQuiet t p

/-- s with operation o of port p in its slot: what a read shows that counts the commands in flight. -/
def State.taking (s : State) (p : Port) (tag : W16) (o : Op) : State :=
  let a := s.assignTag p tag
  a.2.modPort p (fun q => { q with cmds := q.cmds ++
    [{ tag := a.1, axes := o.axes, op := o, rest := none, wrote := none, started := false, at_ := s.clk }] })

/-- Only the ports have changed. -/
def PortsOnly (s t : State) : Prop := t = { s with ports := t.ports }

/-- Only word o of axis n's block and the ports have changed. -/
def AxisOnly (s t : State) (n : Ax) (o : Nat) : Prop :=
  t = { s with axes := t.axes, ports := t.ports } ∧ OthersKept s t n ∧ t.ax n = { s.ax n with regs := (t.ax n).regs } ∧
  ∀ b : Nat, b ≠ o → (t.ax n).reg b = (s.ax n).reg b

/-- The stored word of a device register after a write of v (R4). -/
def writtenDev (s : State) (a : Nat) (v : W64) : W64 := merged (devRow a) (s.dreg a) v

/-- Port p has one command in flight, c, which has started; nothing else waits on any port. -/
abbrev Serving (s : State) (p : Port) (c : Cmd) : Prop :=
  s.portUp p = true ∧ s.pool.restart = false ∧ (s.port p).cmds = [c] ∧ c.open_ = false ∧ (s.port p).ring = [] ∧ OthersQuiet s p ∧
  (∀ n : Ax, s.aget n AX_MBCTL_PEND = 0)

/-- That command has completed with a status and data, naming no axis. -/
def Ends (s t : State) (p : Port) (c : Cmd) (st : Byte) (data : List W64) : Prop :=
  (t.port p).cmds = [] ∧ (t.port p).cseq = (s.port p).cseq + 1 ∧ OthersQuiet t p ∧
  (t.port p).ring.map (fun (x : Completion) => { x with wrote := none, sent := false }) =
    [{ tag := c.tag, status := st, axis := 15, data := data, time := t.time, cseq := (s.port p).cseq, wrote := none, sent := false }]

/-- A number as bits, most significant first. -/
def msbBits (n v : Nat) : List Bool := (List.range n).map (fun i => v.testBit (n - 1 - i))

/-- The G2 word of a command (R330): CMD, AXIS or slice, DATA. -/
def g2Cmd (cmd ax : Nat) (v : W16) : W32 := g2Word (cmd * 2 ^ 20 + ax * 2 ^ 16 + v.toNat)

/-- No more than one axis of the device stands on each engine. -/
def State.bound (s : State) : Bool :=
  allAx.all (fun n => allAx.all (fun m => n == m || (s.ax n).engine.isNone || (s.ax n).engine != (s.ax m).engine))

/-- What every reset leaves once its boot has come to the mount, or to its end where there is no Cistern (R24, R35, R393 to
R399): the source and the count, TIME 0 and FREE, no program, no tick and no gate on any axis, which is OFF, or in OASIS under the
thermal latch or SAFE_N; no command in flight, no load, no stream. -/
def Booted (s t : State) (src detail : Nat) : Prop :=
  t.dget SYS_RSTINFO_SRC = src ∧ t.dget SYS_RSTINFO_DETAIL = detail ∧
  t.dget SYS_RSTINFO_COUNT = (if src = 1 then 0 else min 65535 (s.dget SYS_RSTINFO_COUNT + 1)) ∧
  t.time = 0 ∧ t.dget SYS_TIMESTAT_STATE = 0 ∧ t.load = none ∧ t.stream = none ∧ t.pending = s.pending ∧
  t.pins.powered = true ∧ t.pins.asleep = false ∧ t.pins.warning = false ∧ t.pins.standby = none ∧
  (∀ p : Port, (t.port p).cmds = []) ∧
  (∀ n : Ax, (t.ax n).loaded = false ∧ (t.ax n).run.running = false ∧ (t.ax n).gd.on = 0 ∧
    (t.ax n).st = if s.pins.safeLow ∨ t.dget THERM_STAT_SHUT = 1 then AxSt.oasis else AxSt.off) ∧
  (t.dget SYS_BOOT_STEP = 7 ∧ t.cis = cisNone ∨ t.dget SYS_BOOT_STEP = 4 ∧ t.cis = cisMounting)

end Sys2Proof.Machine
end

