-- ==== Sys2Proof/Certificates/Slice0/Obligations.lean ====
section
/-! DEFINITION. The statements for the provers. Rules are cited as in spec/; "the model's choice" names a log entry. -/

open Sys2Proof Sys2Proof.Machine

/-- From every state in which the engine e of axis n can execute, each of the 24 data instructions (VADD, VSUB, VMUL, CMUL, CLARKE, ICLARKE, ROT, CROSS, DOT, MAG, ATAN2, INTEG, HYST, SECT, SWT, LIM, PI, FILT, LUT1, LUT2, LD, IOR, SAMP, PRED) answers a next state: it takes the cycles of the table, adds no commit-buffer entry, leaves LK, every K register but the destination and every V register outside its destination registers unchanged, moves the PC to the next word outside a loop body, and changes nothing outside the engine and the tick of its axis; only HYST changes TRQI, TRQD and FLX. -/
def Obligations.EngineDataFrame : Prop :=
  ∀ (n : Ax) (e : Eng) (i : Fields) (s : State),
    s.ready n = some e →
      ∀ r ∈ ([(.vadd, 1, 1), (.vsub, 1, 1), (.vmul, 1, 1), (.cmul, 1, 1), (.clarke, 1, 1), (.iclarke, 1, 2), (.rot, 4, 1),
       (.cross, 1, 1), (.dot, 1, 1), (.mag, 4, 1), (.atan2, 4, 1), (.integ, 1, 1), (.hyst, 1, 1), (.sect, 1, 1), (.swt, 1, 1),
       (.lim, 1, 1), (.pi, 1, 1), (.filt, 1, 1), (.lut1, 1, 1), (.lut2, 1, 1), (.ld, 1, 1), (.ior, 1, 1), (.samp, 1, 4),
       (.pred, 1, 1)] : List ((Ax → Fields → Instr) × Nat × Nat)),
        Runs (r.1 n i) s (fun t =>
          EngineFrame s t n e ∧ PcNext s t n e ∧
          (t.ax n).run.cyc = (s.ax n).run.cyc + r.2.1 ∧ (t.ax n).run.seq = (s.ax n).run.seq + 1 ∧
          (t.ax n).run.buf = (s.ax n).run.buf ∧ (t.ax n).run.wait = none ∧
          (t.eng e).core.lk = (s.eng e).core.lk ∧
          (∀ j : Fin 32, ¬(i.dst.toNat ≤ j.val ∧ j.val < i.dst.toNat + r.2.2) → (t.eng e).core.v[j] = (s.eng e).core.v[j]) ∧
          (∀ j : Fin 16, i.dst.toNat ≠ 32 + j.val → (t.eng e).core.k[j] = (s.eng e).core.k[j]) ∧
          (r.1 n i ≠ .hyst n i → ∀ b ∈ [fFLX, fTRQI, fTRQD],
            (t.eng e).core.f.getLsbD b = (s.eng e).core.f.getLsbD b))

/-- For every operand form with a legal write mask: without INT, VADD and VSUB write the sum and the difference of the lanes of A and B, saturating; with INT they wrap and leave SAT as it was; VMUL writes the product over 2^30, or over 2^24 with W, rounded once and saturating. SAT is set when an evaluated lane (or the negation of its B lane under N) saturates, and only then. -/
def Obligations.LaneArithmetic : Prop :=
  ∀ (n : Ax) (e : Eng) (i : Fields) (s : State),
    s.ready n = some e → wmOf i ≠ 3 →
      let c := (s.eng e).core
      let a := readSrc c ((s.ax n).env n) .vks i.a
      let b := readB c ((s.ax n).env n) i true true false
      let b0 := readB c ((s.ax n).env n) i true false false
      let ng := fun (x : W32) => if i.mod.getLsbD 3 then -x else x
      let mul := fun (x y : W32) => shrRound (x.toInt * y.toInt) (if i.mod.getLsbD 2 then 24 else 30)
      let sat := fun (x y : Int) =>
        (wmX (wmOf i) && (over32 x || b.2.1.1)) || (wmY (wmOf i) && (over32 y || b.2.1.2))
      let res := fun (x y : Int) (t : State) =>
        LanesWritten t e c .vk i.dst (wmOf i) (clamp32 x) (clamp32 y) ∧
          (t.eng e).core.f.getLsbD fSAT = (c.f.getLsbD fSAT || sat x y)
      let wrap := fun (x y : W32) (t : State) =>
        LanesWritten t e c .vk i.dst (wmOf i) x y ∧ (t.eng e).core.f.getLsbD fSAT = c.f.getLsbD fSAT
      (i.mod.getLsbD 2 = false →
        Runs (.vadd n i) s (res (a.1.x.toInt + b.1.1.toInt) (a.1.y.toInt + b.1.2.toInt)) ∧
        Runs (.vsub n i) s (res (a.1.x.toInt - b.1.1.toInt) (a.1.y.toInt - b.1.2.toInt))) ∧
      (i.mod.getLsbD 2 = true →
        Runs (.vadd n i) s (wrap (a.1.x + ng b0.1.1) (a.1.y + ng b0.1.2)) ∧
        Runs (.vsub n i) s (wrap (a.1.x - ng b0.1.1) (a.1.y - ng b0.1.2))) ∧
      Runs (.vmul n i) s (res (mul a.1.x b.1.1) (mul a.1.y b.1.2))

/-- CMUL writes (ax bx - ay by, ax by + ay bx) under the write mask, with B conjugated under N (the conjugated lane saturates at -2: the model's choice, log 21); CROSS writes ax by - ay bx and DOT ax bx + ay by to lane x with 0 in lane y; each lane is rounded once and saturates. MAG writes the integer nearest to the square root of ax^2 + ay^2, saturating, with 0 in lane y. -/
def Obligations.ComplexProducts : Prop :=
  ∀ (n : Ax) (e : Eng) (i : Fields) (s : State),
    s.ready n = some e →
      let c := (s.eng e).core
      let en := (s.ax n).env n
      let a := (readSrc c en .vks i.a).1
      let b := (readB c en i true true true).1
      let p := (readSrc c en (.v 31) i.a).1
      let q := (readSrc c en (.v 31) i.b).1
      (wmOf i ≠ 3 → Runs (.cmul n i) s (fun t => LanesWritten t e c (.v 31) i.dst (wmOf i)
        (clamp32 (shrRound (a.x.toInt * b.1.toInt - a.y.toInt * b.2.toInt) 30))
        (clamp32 (shrRound (a.x.toInt * b.2.toInt + a.y.toInt * b.1.toInt) 30)))) ∧
      Runs (.cross n i) s (fun t => LanesWritten t e c .vk i.dst 0
        (clamp32 (shrRound (p.x.toInt * q.y.toInt - p.y.toInt * q.x.toInt) 30)) 0) ∧
      Runs (.dot n i) s (fun t => LanesWritten t e c .vk i.dst 0
        (clamp32 (shrRound (p.x.toInt * q.x.toInt + p.y.toInt * q.y.toInt) 30)) 0) ∧
      Runs (.mag n i) s (fun t =>
        let m := nearestRoot (p.x.toInt * p.x.toInt + p.y.toInt * p.y.toInt).toNat
        LanesWritten t e c .vk i.dst 0 (clamp32 m) 0 ∧ 0 ≤ m ∧
          4 * (p.x.toInt * p.x.toInt + p.y.toInt * p.y.toInt) ≤ (2 * m + 1) * (2 * m + 1) ∧
          (m = 0 ∨ (2 * m - 1) * (2 * m - 1) ≤ 4 * (p.x.toInt * p.x.toInt + p.y.toInt * p.y.toInt)))

/-- CLARKE writes (2u - v - w)/3 and (v - w)/sqrt 3, or with TWO u and (u + 2v)/sqrt 3; ICLARKE writes alpha and -alpha/2 + (sqrt 3/2) beta to Vd and -alpha/2 - (sqrt 3/2) beta with 0 to V(d+1). The square-root terms are given by roundRoot3 a b d, the rounding of (a + b sqrt 3)/d. A destination outside V0 to V30 writes nothing and raises OPERAND. -/
def Obligations.ClarkeTransforms : Prop :=
  ∀ (n : Ax) (e : Eng) (i : Fields) (s : State),
    s.ready n = some e →
      let c := (s.eng e).core
      let en := (s.ax n).env n
      let p := (readSrc c en (.v 31) i.a).1
      let w := (readSrc c en .vks i.b).1.x.toInt
      let u := p.x.toInt
      let v := p.y.toInt
      (i.mod.getLsbD 2 = false → Runs (.clarke n i) s (fun t => LanesWritten t e c (.v 31) i.dst 0
        (clamp32 (roundDiv (2 * u - v - w) 3)) (clamp32 (roundRoot3 0 (v - w) 3)))) ∧
      (i.mod.getLsbD 2 = true → Runs (.clarke n i) s (fun t => LanesWritten t e c (.v 31) i.dst 0
        p.x (clamp32 (roundRoot3 0 (u + 2 * v) 3)))) ∧
      (i.dst.toNat ≤ 30 → Runs (.iclarke n i) s (fun t =>
        (t.eng e).core.v[(⟨i.dst.toNat % 32, by omega⟩ : Fin 32)] = lanes p.x (clamp32 (roundRoot3 (-u) v 2)) ∧
        (t.eng e).core.v[(⟨(i.dst.toNat + 1) % 32, by omega⟩ : Fin 32)] = lanes (clamp32 (roundRoot3 (-u) (-v) 2)) 0)) ∧
      (30 < i.dst.toNat → Runs (.iclarke n i) s (fun t =>
        (t.eng e).core.v = c.v ∧ (t.eng e).core.k = c.k ∧ (t.eng e).core.f.getLsbD fEXC = true))

/-- roundRoot3 a b d is the integer nearest to (a + b sqrt 3)/d, ties toward positive, for every d above 0 and every b below 2^100 in magnitude; it is what CLARKE and ICLARKE round with. -/
def Obligations.RootRounding : Prop :=
  ∀ (a b : Int) (d : Nat),
    0 < d → b.natAbs < 2 ^ 100 →
      (roundRoot3 a b d : ℝ) - 1 / 2 ≤ ((a : ℝ) + (b : ℝ) * Real.sqrt 3) / (d : ℝ) ∧
      ((a : ℝ) + (b : ℝ) * Real.sqrt 3) / (d : ℝ) < (roundRoot3 a b d : ℝ) + 1 / 2

/-- ROT writes to each lane an integer at most 2 above and 1 below the floor of the exact turned lane (rotFloor), clamped; N negates the angle and I takes it from IMM. ATAN2 of (0, 0) writes 0, and any other vector writes an angle within 4096 units of atanFloor. Which value of the range is written is a free value (logs 10 and 11). -/
def Obligations.RotAndAngle : Prop :=
  ∀ (n : Ax) (e : Eng) (i : Fields) (s : State),
    s.ready n = some e →
      let c := (s.eng e).core
      let en := (s.ax n).env n
      let p := (readSrc c en (.v 31) i.a).1
      let th := if i.mod.getLsbD 5 then i.imm else (readSrc c en .vks i.b).1.x
      let f := rotFloor p.x.toInt p.y.toInt (if i.mod.getLsbD 3 then -th else th)
      Runs (.rot n i) s (fun t => ∃ j < 4, ∃ k < 4, LanesWritten t e c (.v 31) i.dst 0
        (clamp32 (f.1 - 1 + (j : Nat))) (clamp32 (f.2 - 1 + (k : Nat)))) ∧
      Runs (.atan2 n i) s (fun t =>
        if p.x = 0 ∧ p.y = 0 then LanesWritten t e c .vk i.dst 0 0 0
        else ∃ d < 8192, LanesWritten t e c .vk i.dst 0 (atanFloor p.x.toInt p.y.toInt - 4095 + BitVec.ofNat 32 d) 0)

/-- INTEG writes Vd - lambda Vd + k A in each lane and FILT Vd + c (A - Vd) in the lanes of its write mask, exact and rounded once. LIM clamps the lanes of its write mask to B.x..B.y (a free value where B.x is above B.y, log 105), or to plus and minus |IMM| with I, and its target flags take the high and low results (LIMH and LIML, U0 and U1, U2 and U3, or VLIM the high result). -/
def Obligations.FiltersAndClamp : Prop :=
  ∀ (n : Ax) (e : Eng) (i : Fields) (s : State),
    s.ready n = some e →
      let c := (s.eng e).core
      let en := (s.ax n).env n
      let a := (readSrc c en .vks i.a).1
      let g := (readB c en i false false false).1
      let fb := (readB c en i true true false).1
      let o := dstOld c i.dst
      let integ := fun (v x : W32) =>
        clamp32 (shrRound (v.toInt * 2 ^ 30 - g.2.toInt * v.toInt + g.1.toInt * x.toInt) 30)
      let filt := fun (v x k : W32) => clamp32 (shrRound (v.toInt * 2 ^ 30 + k.toInt * (x.toInt - v.toInt)) 30)
      let b := (readSrc c en .vks i.b).1
      let m : Int := (i.imm.toInt.natAbs : Int)
      let lo := if i.mod.getLsbD 5 then -m else b.x.toInt
      let hi := if i.mod.getLsbD 5 then m else b.y.toInt
      let lim := fun (v : W32) => if lo > hi then Config.limEmpty v b.x b.y else if v.toInt > hi then BitVec.ofInt 32 hi else if v.toInt < lo then BitVec.ofInt 32 lo else v
      let tgt := i.mod.toNat / 4 % 8
      let high := (wmX (wmOf i) && decide (a.x.toInt > hi)) || (wmY (wmOf i) && decide (a.y.toInt > hi))
      let low := (wmX (wmOf i) && decide (a.x.toInt < lo)) || (wmY (wmOf i) && decide (a.y.toInt < lo))
      Runs (.integ n i) s (fun t =>
        LanesWritten t e c (.v 31) i.dst 0 (integ (laneX o) a.x) (integ (laneY o) a.y)) ∧
      (wmOf i ≠ 3 → Runs (.filt n i) s (fun t =>
        LanesWritten t e c (.v 31) i.dst (wmOf i) (filt (laneX o) a.x fb.1) (filt (laneY o) a.y fb.2))) ∧
      (wmOf i ≠ 3 → tgt < 4 → Runs (.lim n i) s (fun t =>
        LanesWritten t e c .vk i.dst (wmOf i) (lim a.x) (lim a.y) ∧
        (tgt = 0 → (t.eng e).core.f.getLsbD fLIMH = high ∧ (t.eng e).core.f.getLsbD fLIML = low) ∧
        (tgt = 1 → (t.eng e).core.f.getLsbD 24 = high ∧ (t.eng e).core.f.getLsbD 25 = low) ∧
        (tgt = 2 → (t.eng e).core.f.getLsbD 26 = high ∧ (t.eng e).core.f.getLsbD 27 = low) ∧
        (tgt = 3 → (t.eng e).core.f.getLsbD fVLIM = high)))

/-- With WM = 0b11, each of VADD, VSUB, VMUL, CMUL, FILT and LIM (and LIM with a reserved target) writes no register and no flag but EXC, and raises MODE, beside one OPERAND for each operand code that is not allowed in its place (in the order sources, MODE, destination: the model's reading, log 104); it still takes its cycle and moves on. -/
def Obligations.ReservedModifiers : Prop :=
  ∀ (n : Ax) (e : Eng) (i : Fields) (s : State),
    s.ready n = some e →
      let c := (s.eng e).core
      let en := (s.ax n).env n
      let res := fun (q : Cls) (t : State) =>
        EngineFrame s t n e ∧ TickNext s t n e 1 [] ((readSrc c en .vks i.a).2 ++ (readB c en i false false false).2.2 ++
            [excMODE] ++ (if q.allows i.dst then [] else [excOPERAND])) ∧ PcNext s t n e ∧
          (t.eng e).core.v = c.v ∧ (t.eng e).core.k = c.k ∧ (t.eng e).core.f = c.f ||| 0x10000000
      (wmOf i = 3 → ∀ r ∈ ([(.vadd, .vk), (.vsub, .vk), (.vmul, .vk), (.cmul, .v 31), (.filt, .v 31), (.lim, .vk)] :
          List ((Ax → Fields → Instr) × Cls)), Runs (r.1 n i) s (res r.2)) ∧
      (4 ≤ i.mod.toNat / 4 % 8 → Runs (.lim n i) s (res .vk))

/-- In flux mode FLX becomes 1 at e >= h, 0 at e <= -h and otherwise keeps its value; lane y receives 1.0 or 0. In torque mode the reference is clamped to -TL.y..TL.x (TLIM set if that changed it), the output held in TRQI and TRQD moves as R92 says, and lane y receives 1.0, 0 or -1.0. Lane x receives e, saturating. TRQI and TRQD are never both 1 afterwards in torque mode. -/
def Obligations.HystComparators : Prop :=
  ∀ (n : Ax) (e : Eng) (i : Fields) (s : State),
    s.ready n = some e →
      let c := (s.eng e).core
      let en := (s.ax n).env n
      let a := (readSrc c en (.v 31) i.a).1
      let b := (readSrc c en .vks i.b).1
      let m := a.y.toInt
      let d1 := a.x.toInt - m
      let h1 := b.x.toInt
      let flx := if d1 ≥ h1 then true else if d1 ≤ -h1 then false else c.f.getLsbD fFLX
      let top := (laneX (s.ax n).run.snap.tl).toInt
      let bot := -(laneY (s.ax n).run.snap.tl).toInt
      let r := if a.x.toInt > top then top else if a.x.toInt < bot then bot else a.x.toInt
      let d2 := r - m
      let h2 := b.y.toInt
      let o : Int := if c.f.getLsbD fTRQI then 1 else if c.f.getLsbD fTRQD then -1 else 0
      let o2 : Int := if o = 1 then (if d2 ≤ 0 then 0 else 1) else if o = -1 then (if d2 ≥ 0 then 0 else -1)
        else if d2 ≥ h2 then 1 else if d2 ≤ -h2 then -1 else 0
      (i.mod.getLsbD 0 = false → Runs (.hyst n i) s (fun t =>
        LanesWritten t e c .vk i.dst 0 (clamp32 d1) (if flx then 0x40000000 else 0) ∧
          (t.eng e).core.f.getLsbD fFLX = flx ∧ (t.eng e).core.f.getLsbD fTRQI = c.f.getLsbD fTRQI ∧
          (t.eng e).core.f.getLsbD fTRQD = c.f.getLsbD fTRQD ∧
          (t.eng e).core.f.getLsbD fSAT = (c.f.getLsbD fSAT || over32 d1))) ∧
      (i.mod.getLsbD 0 = true → Runs (.hyst n i) s (fun t =>
        LanesWritten t e c .vk i.dst 0 (clamp32 d2) (if o2 = 1 then 0x40000000 else if o2 = -1 then 0xC0000000 else 0) ∧
          (t.eng e).core.f.getLsbD fTRQI = decide (o2 = 1) ∧ (t.eng e).core.f.getLsbD fTRQD = decide (o2 = -1) ∧
          (t.eng e).core.f.getLsbD fFLX = c.f.getLsbD fFLX ∧
          (t.eng e).core.f.getLsbD fTLIM = (c.f.getLsbD fTLIM || decide (r ≠ a.x.toInt))))

/-- SECT writes floor(((theta + 0x15555555) mod 2^32) * 6 / 2^32), or the twelve-sector form, to lane x and 0 to lane y. SWT clamps the sector to its range, reads D-bank word IMM[12:0] + 6 s + 3 FLX + t through the engine view, writes bits [2:0] of it to lane x and latches them as the DTC vector; at or beyond word 0x2000 it takes code 0 and raises ADDR, and a sector out of range raises INDEX. -/
def Obligations.SectorAndTable : Prop :=
  ∀ (n : Ax) (e : Eng) (i : Fields) (s : State),
    s.ready n = some e →
      let c := (s.eng e).core
      let a := (readSrc c ((s.ax n).env n) .vks i.a).1
      let sec := if i.mod.getLsbD 0 then (a.x + 0x0AAAAAAB).toNat * 12 / 2 ^ 32 else (a.x + 0x15555555).toNat * 6 / 2 ^ 32
      let top : Int := if i.mod.getLsbD 0 then 11 else 5
      let q : Int := max 0 (min top a.x.toInt)
      let tq := if c.f.getLsbD fTRQI then 0 else if c.f.getLsbD fTRQD then 2 else 1
      let w := i.imm.toNat % 8192 + 6 * q.toNat + (if c.f.getLsbD fFLX then 3 else 0) + tq
      let v : BitVec 3 := if w < 0x2000 then ((s.ax n).view w).setWidth 3 else 0
      Runs (.sect n i) s (fun t => LanesWritten t e c .vk i.dst 0 (BitVec.ofNat 32 sec) 0) ∧
      Runs (.swt n i) s (fun t =>
        LanesWritten t e c .vk i.dst 0 (v.setWidth 32) 0 ∧ (t.ax n).run.swt = v ∧ (t.ax n).run.swtNeg = decide (tq = 2) ∧
        (0x2000 ≤ w ∨ q ≠ a.x.toInt → (t.eng e).core.f.getLsbD fEXC = true))

/-- PI takes the error e = A.x, the gains Kp = B.x and Ki = B.y, the integral s = Vd.y (0 under RST) and the limit l = |K[MOD[3:0]]|, exact in units of 2^-60: s + Ki e, frozen under FRZ while VLIM is 1; integration is undone where Kp e + s exceeds the limit with the sign of the error; the integral and the output are clamped to -l..l, LIMH or LIML is set when the output was clamped; Vd receives the output and the integral, each rounded once. -/
def Obligations.PiController : Prop :=
  ∀ (n : Ax) (e : Eng) (i : Fields) (s : State),
    s.ready n = some e →
      let c := (s.eng e).core
      let en := (s.ax n).env n
      let a := (readSrc c en .vks i.a).1
      let b := (readSrc c en .vks i.b).1
      let er := a.x.toInt
      let l : Int := ((c.k[(⟨i.mod.toNat % 16, by omega⟩ : Fin 16)]).toInt.natAbs : Int) * 2 ^ 30
      let st := if i.mod.getLsbD 5 then 0 else (laneY (dstOld c i.dst)).toInt * 2 ^ 30
      let c1 := if i.mod.getLsbD 4 && c.f.getLsbD fVLIM then st else st + b.y.toInt * er
      let u1 := b.x.toInt * er + c1
      let c2 := if (u1 > l ∨ u1 < -l) ∧ Int.sign er = Int.sign u1 then st else c1
      let c3 := max (-l) (min l c2)
      let u2 := b.x.toInt * er + c3
      Runs (.pi n i) s (fun t =>
        LanesWritten t e c (.v 31) i.dst 0 (clamp32 (shrRound (max (-l) (min l u2)) 30)) (clamp32 (shrRound c3 30)) ∧
          (t.eng e).core.f.getLsbD fLIMH = (c.f.getLsbD fLIMH || decide (u2 > l)) ∧
          (t.eng e).core.f.getLsbD fLIML = (c.f.getLsbD fLIML || decide (u2 < -l)))

/-- For a V destination. LUT1: an input below X0 gives the first entry and sets LIML; an input more than N 2^S above X0 gives the last entry and sets LIMH; between them each lane is interpolated linearly, rounded once. LUT2 clamps each of its inputs to its range, setting LIML or LIMH where it does, and interpolates bilinearly between the four entries around the clamped point, rounded once. An N of 0 or a table past word 0x1FFF writes 0 and sets EXC. -/
def Obligations.TableLookup : Prop :=
  ∀ (n : Ax) (e : Eng) (i : Fields) (s : State),
    s.ready n = some e → i.dst.toNat < 32 →
      let c := (s.eng e).core
      let en := (s.ax n).env n
      let x := (readSrc c en .vks i.a).1.x.toInt
      let p := (readSrc c en (.v 31) i.a).1
      let b := i.imm.toNat % 8192
      let h := (s.ax n).view b
      let h2 := (s.ax n).view (b + 1)
      let d := x - lut0 h
      let dx := p.x.toInt - lut0 h
      let dy := p.y.toInt - lut0 h2
      let v := fun (t : State) => (t.eng e).core.v[(⟨i.dst.toNat % 32, by omega⟩ : Fin 32)]
      let lo := fun (t : State) => (t.eng e).core.f.getLsbD fLIML = true
      let hi := fun (t : State) => (t.eng e).core.f.getLsbD fLIMH = true
      let ex := fun (t : State) => (t.eng e).core.f.getLsbD fEXC = true
      (lutN h = 0 ∨ 0x1FFF < b + 1 + lutN h → Runs (.lut1 n i) s (fun t => v t = 0 ∧ ex t)) ∧
      (lutN h ≠ 0 → b + 1 + lutN h ≤ 0x1FFF →
        (d < 0 → Runs (.lut1 n i) s (fun t => v t = (s.ax n).view (b + 1) ∧ lo t)) ∧
        (d > lutN h * 2 ^ lutS h → Runs (.lut1 n i) s (fun t => v t = (s.ax n).view (b + 1 + lutN h) ∧ hi t)) ∧
        (0 ≤ d → d ≤ lutN h * 2 ^ lutS h → Runs (.lut1 n i) s (fun t =>
          let j := (d / 2 ^ lutS h).toNat
          let f := d % 2 ^ lutS h
          let e0 := (s.ax n).view (b + 1 + j)
          let e1 := if j < lutN h then (s.ax n).view (b + 2 + j) else e0
          let y := fun (l : W64 → W32) =>
            BitVec.ofInt 32 (roundDiv ((l e0).toInt * 2 ^ lutS h + ((l e1).toInt - (l e0).toInt) * f) (2 ^ lutS h))
          v t = lanes (y laneX) (y laneY)))) ∧
      (lutN h = 0 ∨ 0x1FFF < b + 1 ∨ lutN h2 = 0 ∨ 0x1FFF < b + 2 + lutN h2 * (lutN h + 1) + lutN h →
        Runs (.lut2 n i) s (fun t => v t = 0 ∧ ex t)) ∧
      (lutN h ≠ 0 → lutN h2 ≠ 0 → b + 2 + lutN h2 * (lutN h + 1) + lutN h ≤ 0x1FFF → Runs (.lut2 n i) s (fun t =>
        let w1 : Int := lutN h * 2 ^ lutS h
        let w2 : Int := lutN h2 * 2 ^ lutS h2
        let cx := max 0 (min w1 dx)
        let cy := max 0 (min w2 dy)
        let at_ := fun (j k : Nat) => (s.ax n).view (b + 2 + k * (lutN h + 1) + j)
        let j := (cx / 2 ^ lutS h).toNat
        let k := (cy / 2 ^ lutS h2).toNat
        let f := cx % 2 ^ lutS h
        let g := cy % 2 ^ lutS h2
        let y := fun (l : W64 → W32) =>
          BitVec.ofInt 32 (roundDiv (
            (l (at_ j k)).toInt * (2 ^ lutS h - f) * (2 ^ lutS h2 - g) + (l (at_ (j + 1) k)).toInt * f * (2 ^ lutS h2 - g) +
            (l (at_ j (k + 1))).toInt * (2 ^ lutS h - f) * g + (l (at_ (j + 1) (k + 1))).toInt * f * g)
            (2 ^ (lutS h + lutS h2)))
        v t = lanes (y laneX) (y laneY) ∧ (dx < 0 ∨ dy < 0 → lo t) ∧ (w1 < dx ∨ w2 < dy → hi t)))

/-- LD fills its destination with the engine view of the D bank as the tick's own buffered stores leave it, and 0 with ADDR at or beyond 0x2000; IOR with the device register (0 where its island does not run); SAMP writes the sample set of the tick to Vd..V(d+3) and its flags, and outside V0 to V28 only the flags, raising OPERAND; an SHR read returns the word of the shared page with the tick's own buffered SHR writes to that word applied in order; PRED writes i - k1 (Rs i + e) with the coefficients captured at the boundary and remembers the result. -/
def Obligations.EngineReads : Prop :=
  ∀ (n : Ax) (e : Eng) (i : Fields) (s : State),
    s.ready n = some e →
      let c := (s.eng e).core
      let en := (s.ax n).env n
      let a := (readSrc c en .vks i.a).1
      let ad := (a.x.setWidth 16 + i.imm.setWidth 16 : W16).toNat
      let fill := fun (t : State) (w : W64) =>
        (t.eng e).core.v = (fillDst c .vk i.dst (i.mod.getLsbD 0) w).1.v ∧
        (t.eng e).core.k = (fillDst c .vk i.dst (i.mod.getLsbD 0) w).1.k
      let sw := (a.x + (i.imm &&& 0x1FF)).toNat % 512
      let buf := (s.ax n).run.buf
      let shr := buf.foldl (fun v x => match x.eff with | .shr w h d => if w = sw then mergeHalf v h d else v | _ => v)
        (WMap.get zeroWord s.shared sw)
      let q := (s.ax n).run.snap
      let flags := fun (t : State) =>
        (∀ p : Phase, (t.eng e).core.f.getLsbD (fWIN + p.val) = q.win.getLsbD p.val ∧
          (t.eng e).core.f.getLsbD (fMIR + p.val) = q.mir.getLsbD p.val) ∧
        (t.eng e).core.f.getLsbD fMLIM = q.mlim ∧ (t.eng e).core.f.getLsbD fKCF = q.kcf
      let pa := (readSrc c en (.v 31) i.a).1
      let pe := (readSrc c en (.v 31) i.b).1
      let k1 : Int := AX_MIRCO_K1.get q.mirco
      let rs : Int := AX_MIRCO_RS.get q.mirco
      let pred := fun (x y : W32) =>
        clamp32 (shrRound (x.toInt * 2 ^ 40 - k1 * (rs * x.toInt + y.toInt * 2 ^ 20)) 40)
      Runs (.ld n i) s (fun t => fill t (if 0x2000 ≤ ad then 0 else (s.ax n).fwd ad) ∧
        (0x2000 ≤ ad → (t.eng e).core.f.getLsbD fEXC = true)) ∧
      Runs (.ior n i) s (fun t => fill t (s.ior n ad)) ∧
      (i.mod.getLsbD 1 = false →
        Runs (.shr n i) s (fun t => fill t shr ∧ (t.ax n).run.buf = buf ∧ EngineFrame s t n e)) ∧
      (i.dst.toNat ≤ 28 → Runs (.samp n i) s (fun t =>
        (t.eng e).core.v[(⟨i.dst.toNat % 32, by omega⟩ : Fin 32)] = lanes q.set[0] q.set[1] ∧
        (t.eng e).core.v[(⟨(i.dst.toNat + 1) % 32, by omega⟩ : Fin 32)] = lanes q.set[2] q.set[3] ∧
        (t.eng e).core.v[(⟨(i.dst.toNat + 2) % 32, by omega⟩ : Fin 32)] = lanes q.set[4] q.set[5] ∧
        (t.eng e).core.v[(⟨(i.dst.toNat + 3) % 32, by omega⟩ : Fin 32)] = lanes q.set[6] 0 ∧ flags t)) ∧
      (28 < i.dst.toNat → Runs (.samp n i) s (fun t => (t.eng e).core.v = c.v ∧ (t.eng e).core.k = c.k ∧ flags t ∧
        (t.eng e).core.f.getLsbD fEXC = true)) ∧
      Runs (.pred n i) s (fun t =>
        LanesWritten t e c (.v 31) i.dst 0 (pred pa.x pe.x) (pred pa.y pe.y) ∧
        (t.ax n).run.pred = some ((s.ax n).run.seq, c.pc, lanes (pred pa.x pe.x) (pred pa.y pe.y)))

/-- From every state in which the engine e of axis n can execute, SIG, ST, IOW, TRC, SHR with WR = 1 and APPLY each take one cycle, add exactly one entry to the commit buffer (with the position and PC of the instruction), set EXC when they raise an exception, move the PC on (the loop rules of R83 included), and change nothing else of the device: no V or K register, no other flag, no memory, no register. SIG's entry holds its code and lane x of A; ST's the address, the half a 32-bit source selects and the data, or discards the store where STDISC or ADDR is raised; IOW's and TRC's address or tag and the words; SHR's the word of the shared page; APPLY's the latched vector and the duties of its mode with the last PRED result. APPLY with mode 3 raises MODE and adds no entry. -/
def Obligations.CommitEntries : Prop :=
  ∀ (n : Ax) (e : Eng) (i : Fields) (s : State),
    s.ready n = some e →
      let c := (s.eng e).core
      let en := (s.ax n).env n
      let a := readSrc c en .vks i.a
      let b := readSrc c en .vks i.b
      let d : Src × List (BitVec 4) := if i.mod.getLsbD 5 then (⟨i.imm.setWidth 64, true⟩, []) else b
      let a1 : Src × List (BitVec 4) := if i.mod.setWidth 2 = (1 : BitVec 2) then a else (⟨0, false⟩, [])
      let ad : W16 := a.1.x.setWidth 16 + i.imm.setWidth 16
      let half : Option Bool := if b.1.narrow then some (i.mod.getLsbD 0) else none
      let x := if 0x2000 ≤ ad.toNat then [excADDR] else if storeKept ad.toNat then [] else [excSTDISC]
      let res := fun (es : List Effect) (xs : List (BitVec 4)) (t : State) =>
        Ran s t n e es xs ∧ Control s t n e (c.pc + 1) false
      Runs (.sig n i) s (res [.sig (i.imm.setWidth 16) a.1.x] a.2) ∧
      Runs (.st n i) s (res [if x = [] then .st ad half b.1.w else .discarded] (a.2 ++ b.2 ++ x)) ∧
      Runs (.iow n i) s (res [.iow ad b.1.w] (a.2 ++ b.2)) ∧
      Runs (.trc n i) s (res [.trc (i.imm.setWidth 16) a.1.w b.1.w] (a.2 ++ b.2)) ∧
      (i.mod.getLsbD 1 = true →
        Runs (.shr n i) s (res [.shr ((a.1.x + (i.imm &&& 0x1FF)).toNat % 512) half b.1.w] (a.2 ++ b.2))) ∧
      (i.mod.setWidth 2 = (3 : BitVec 2) → Runs (.apply n i) s (res [] [excMODE])) ∧
      (i.mod.setWidth 2 ≠ (3 : BitVec 2) → Runs (.apply n i) s
        (res [.apply (i.mod.setWidth 2) (s.ax n).run.swt (s.ax n).run.swtNeg a1.1.x a1.1.y d.1.x
          ((s.ax n).run.pred.map (fun p => p.2.2))] (a1.2 ++ d.2)))

/-- CALL loads LK with PC + 1 and PC with IMM[12:0]; RET loads PC with LK. The one exception is R83: where the word the PC would reach is the one after the active LOOP body, control comes from the last word of the body or by RET, and LC is above 1, the PC returns to the first word of the body and LC decrements (DEDUCED, log 52). Each takes one cycle, CALL leaves every other engine register and RET leaves LK as well, and no entry is added. -/
def Obligations.CallAndReturn : Prop :=
  ∀ (n : Ax) (e : Eng) (i : Fields) (s : State),
    s.ready n = some e →
      let c := (s.eng e).core
      let lp := (s.ax n).run.loop
      let lands := fun (u : BitVec 13) (ret : Bool) (c1 : Core) =>
        if (∃ l ∈ lp, u = l.2 + 1 ∧ (c.pc = l.2 ∨ ret = true)) ∧ 1 < c.lc then
          { c1 with pc := (lp.getD (0, 0)).1, lc := c.lc - 1 }
        else { c1 with pc := u }
      let one := fun (t : State) (c1 : Core) => EngineFrame s t n e ∧ (t.ax n).run.cyc = (s.ax n).run.cyc + 1 ∧
        (t.ax n).run.buf = (s.ax n).run.buf ∧ (t.eng e).core = { c1 with f := fSet c.f fEXC false }
      Runs (.call n i) s (fun t => one t (lands (i.imm.setWidth 13) false { c with lk := c.pc + 1 })) ∧
      Runs (.ret n i) s (fun t => one t (lands c.lk true c))

/-- From every state in which the engine e of axis n can execute: BR goes to IMM[12:0] when the F bit named by MOD[4:0] (F[31:29] read 0) differs from MOD[5], else to the next word; STEP with n of 1 to 1023 goes to the target of the word its clamped index names, raising INDEX when it clamped; LOOP goes to the next word, and loads LC with IMM[27:16] and opens the body that ends at IMM[12:0] unless that word is the LOOP itself; WAIT with a masked event already in F ends after one cycle, and without one keeps the PC and waits with its mask and T from the present base tick. Each takes one cycle, adds no entry and changes nothing else of the device; the loop rules of R83 apply where control goes on. A WAIT in progress is ended by WAIT_TIMEOUT once T base ticks have passed: CYC advances by T beyond the cycle already counted, the PC moves on under the same loop rules, and a halt requested meanwhile takes effect; before that WAIT_TIMEOUT changes nothing. -/
def Obligations.Branching : Prop :=
  ∀ (n : Ax) (e : Eng) (i : Fields) (s : State),
    let c := (s.eng e).core
    let r := (s.ax n).run
    let a := readSrc c ((s.ax n).env n) .vks i.a
    let tgt : BitVec 13 := i.imm.setWidth 13
    let k : Nat := i.imm.toNat % 1024
    let j : Int := max 0 (min ((k : Int) - 1) a.1.x.toInt)
    let bit := decide (i.mod.toNat % 32 < 29) && c.f.getLsbD (i.mod.toNat % 32)
    let mask : Byte := (i.imm >>> 16).setWidth 8
    let waits := fun (t : State) (l : Option (BitVec 13 × BitVec 13)) (w : Option (Byte × Nat × Nat)) =>
      (t.ax n).run = { r with cyc := r.cyc + 1, seq := r.seq + 1, loop := l, wait := w } ∧ EngineFrame s t n e
    (s.ready n = some e →
      Runs (.br n i) s (fun t => Ran s t n e [] [] ∧ Control s t n e (if bit = i.mod.getLsbD 5 then c.pc + 1 else tgt) false) ∧
      (1 ≤ k → Runs (.step n i) s (fun t => Ran s t n e [] (a.2 ++ if j = a.1.x.toInt then [] else [excINDEX]) ∧
        Control s t n e (((s.ax n).pword (c.pc + 1 + BitVec.ofNat 13 j.toNat).toNat).setWidth 13) false)) ∧
      Runs (.loop n i) s (fun t => Ran s t n e [] [] ∧ (t.eng e).core.pc = c.pc + 1 ∧
        (tgt ≠ c.pc → (t.eng e).core.lc = (i.imm >>> 16).setWidth 12 ∧ (t.ax n).run.loop = some (c.pc + 1, tgt))) ∧
      (fEvents c.f &&& mask ≠ 0 → Runs (.wait n i) s (fun t => Ran s t n e [] [] ∧ Control s t n e (c.pc + 1) false)) ∧
      (fEvents c.f &&& mask = 0 → Runs (.wait n i) s (fun t => (t.eng e).core = c ∧
        waits t r.loop (some (mask, i.imm.toNat % 4096, s.clk))))) ∧
    (∀ w ∈ r.wait, r.running = true → (s.ax n).engine = some e →
      (w.2.2 + w.2.1 ≤ s.clk → Runs (.waitTimeout n) s (fun t =>
        Control s t n e (c.pc + 1) false ∧ (t.ax n).run = { r with cyc := r.cyc + w.2.1, wait := none, loop := (t.ax n).run.loop } ∧
        (t.eng e).core = { c with pc := (t.eng e).core.pc, lc := (t.eng e).core.lc } ∧
        ((s.ax n).haltReq = true → (t.ax n).halted = true ∧ (t.eng e).pool = .halted ∧ (t.ax n).haltReq = false ∧
          (t.ax n).get AX_PTSTAT_FROZEN = 1) ∧
        ((s.ax n).haltReq = false → EngineFrame s t n e))) ∧
      (s.clk < w.2.2 + w.2.1 → Runs (.waitTimeout n) s (fun t => t = s)))

/-- V0 to V31 read 64 bits; K0 to K15, F, LC, CYC and AXN read 32 bits, zero-extended as words and broadcast to both lanes; TL reads the captured torque limits; Z reads 0. A code that is not allowed in its position reads 0 and raises OPERAND, and a destination that is not allowed takes nothing and raises OPERAND. Z as a destination discards the result without an exception. -/
def Obligations.OperandForms : Prop :=
  ∀ (c : Core) (e : Env) (x y : W32) (m : BitVec 2),
    (∀ j : Fin 32, readSrc c e .vks (BitVec.ofNat 6 j.val) = (⟨c.v[j], false⟩, [])) ∧
      (∀ j : Fin 16, readSrc c e .vks (BitVec.ofNat 6 (32 + j.val)) = (⟨(c.k[j]).setWidth 64, true⟩, [])) ∧
      readSrc c e .vks 48 = (⟨c.f.setWidth 64, true⟩, []) ∧ readSrc c e .vks 50 = (⟨c.lc.setWidth 64, true⟩, []) ∧
      readSrc c e .vks 52 = (⟨e.tl, false⟩, []) ∧ readSrc c e .vks 53 = (⟨e.cyc.setWidth 64, true⟩, []) ∧
      readSrc c e .vks 54 = (⟨e.axn.setWidth 64, true⟩, []) ∧ (readSrc c e .vks 63).1.w = 0 ∧ (readSrc c e .vks 63).2 = [] ∧
      (∀ k ∈ ([49, 51, 55, 56, 57, 58, 59, 60, 61, 62] : List (BitVec 6)),
        readSrc c e .vks k = (⟨0, false⟩, [excOPERAND]) ∧ writeLanes c .vk k m.toNat x y = (c, [excOPERAND])) ∧
      (∀ k ∈ ([48, 50, 52, 53, 54] : List (BitVec 6)), writeLanes c .vk k m.toNat x y = (c, [excOPERAND])) ∧
      writeLanes c .vk 63 m.toNat x y = (c, []) ∧
      (∀ s : W64, (Src.x ⟨s, true⟩) = laneX s ∧ (Src.y ⟨s, true⟩) = laneX s ∧ (Src.y ⟨s, false⟩) = laneY s) ∧
      (∀ j : Fin 32, (writeLanes c .vk (BitVec.ofNat 6 j.val) m.toNat x y).1.v[j] =
        lanes (if m = 2 then laneX c.v[j] else x) (if m = 1 then laneY c.v[j] else y)) ∧
      (∀ j : Fin 16, (writeLanes c .vk (BitVec.ofNat 6 (32 + j.val)) m.toNat x y).1.k[j] = if m = 2 then y else x)

/-- From every state in which the engine e of axis n can execute, END answers a next state in which no tick runs and the commit buffer is empty; LAST holds the cycles of the tick plus one drain cycle per entry (within its 16 bits), OSEQ has advanced by one modulo 2^16, and the written outbound page is published and copied into the other. The engine keeps its registers and halts exactly when a halt was requested; the state of the axis, every other axis and every other engine stay as they were. With one entry in the buffer, its effect has happened: a kept ST changes its word (or half) and no other word but the outbound pages; a SIG appends its notification to the owner's queue while that has room; a TRC with tag bit 11 of an enabled axis is staged while there is room, a Cistern and no load; a SHR write of the axis's own segment changes its word and advances SEQ twice, and one of another segment is discarded and records SHRW; an IOW of a running word of the own axis block changes the engine-writable bits of that word (of the words that END itself does not write), and one to another axis's block records IOWDISC; an APPLY is the committed request, without its prediction when a PRED followed it. -/
def Obligations.TickEnd : Prop :=
  ∀ (n : Ax) (e : Eng) (i : Fields) (k : Nat) (pc : BitVec 13) (ad : W16) (o : Fin 512) (m : Ax) (h : Option Bool) (v b : W64) (x y z : W32) (mode : BitVec 2) (vec : BitVec 3) (neg : Bool) (pr : Option W64) (s : State),
    s.ready n = some e →
      let a := s.ax n
      let r := a.run
      let one := fun (x : Effect) => r.buf = [{ seq := k, pc := pc, eff := x }]
      let exc := fun (t : State) => (ENGINE_EXC_COUNT n.val).get (t.dreg (ENGINE_EXC n.val))
      let ends := fun (t : State) =>
        (t.ax n).run.running = false ∧ (t.ax n).run.buf = [] ∧ (t.ax n).run.exc = [] ∧ (t.ax n).run.wait = none ∧
        (t.ax n).get AX_WCET_LAST = (r.cyc + 1 + r.buf.length) % 65536 ∧
        (t.ax n).get AX_MBCTL_OSEQ = (a.get AX_MBCTL_OSEQ + 1) % 65536 ∧
        (t.ax n).mb.outPage = !a.mb.outPage ∧
        (∀ j ∈ List.range 32, (t.ax n).dword (outWord (!(t.ax n).mb.outPage) j) = (t.ax n).dword (outWord (t.ax n).mb.outPage j)) ∧
        (t.eng e).core = (s.eng e).core ∧ (t.ax n).halted = a.haltReq ∧ (t.ax n).st = a.st ∧ OthersKept s t n ∧
        (∀ d : Eng, d ≠ e → t.eng d = s.eng d) ∧ t.clk = s.clk ∧ t.pending = s.pending
      Runs (.endTick n i) s ends ∧
      (one (.st ad h v) → storeKept ad.toNat = true → ∀ w ∈ engineRead a ad.toNat, Runs (.endTick n i) s (fun t => ends t ∧
        (t.ax n).dword w = mergeHalf (a.dword w) h v ∧
        ∀ j : Nat, j ≠ w → (j < 0x60 ∨ 0xA0 ≤ j) → (t.ax n).dword j = a.dword j)) ∧
      (one (.sig ad x) → ∀ p : Port, s.owner n = p.val → (s.port p).notes.length < 32 → Runs (.endTick n i) s (fun t => ends t ∧
        (t.port p).notes = (s.port p).notes ++
          [{ code := ad, value := x, axis := BitVec.ofNat 4 n.val, time := s.time, nseq := (s.port p).nseq, sent := false }])) ∧
      (one (.trc ad v b) → (s.dget CISTERN_TRCFG_EN).testBit n.val = true → ad.getLsbD 11 = true → s.cis ≠ cisNone →
        s.store.stage.length < 32768 → s.load = none → Runs (.endTick n i) s (fun t => ends t ∧
          t.store.stage = s.store.stage ++ [(r.time, n, ad, v, b)])) ∧
      (one (.shr o.val h v) → o.val / 64 = n.val → o.val % 64 ≠ 0 → Runs (.endTick n i) s (fun t => ends t ∧
        WMap.get zeroWord t.shared o.val = mergeHalf (WMap.get zeroWord s.shared o.val) h v ∧
        WMap.get zeroWord t.shared (64 * n.val) = WMap.get zeroWord s.shared (64 * n.val) + 2 ∧
        ∀ j : Nat, j ≠ o.val → j ≠ 64 * n.val → WMap.get zeroWord t.shared j = WMap.get zeroWord s.shared j)) ∧
      (one (.shr o.val h v) → (o.val / 64 ≠ n.val ∨ o.val % 64 = 0) → Runs (.endTick n i) s (fun t => ends t ∧ t.shared = s.shared ∧
        exc t = min (exc s + 1 + r.exc.length) 65535)) ∧
      (one (.iow ad v) → place (unalias n ad.toNat) = .axis n o.val → s.islOk n o.val = true →
        o.val ∉ [AX_WCET, AX_MBCTL, AX_TLSTAT, AX_SPD, AX_PTSTAT] → Runs (.endTick n i) s (fun t => ends t ∧
          (t.ax n).reg o.val = (a.reg o.val &&& ~~~(axEngineMask o.val)) ||| (v &&& axEngineMask o.val))) ∧
      (one (.iow ad v) → place (unalias n ad.toNat) = .axis m o.val → m ≠ n → Runs (.endTick n i) s (fun t => ends t ∧
        exc t = min (exc s + 1 + r.exc.length) 65535)) ∧
      (one (.apply mode vec neg x y z pr) → Runs (.endTick n i) s (fun t => ends t ∧
        (t.ax n).pt.committed = some { mode := mode, vec := vec, neg := neg, ax := x, ay := y, bx := z,
                                       pred := if r.pred.any (fun p => k < p.1) then none else pr }))

/-- At a boundary of an axis whose island runs and is not frozen, TICK_BOUNDARY makes the committed request the one in force (HOLDRUN and MISS 0), or without one counts HOLDRUN (up to 15) and sets MISS, from every state in which no command is in flight and nothing asks for a change of the axis state. Where the program has ticks, none is in progress and none is to be recomputed, it also starts a tick: CYC = 2, the PC at word 0, an empty commit buffer, V0 as the DTC latch, the pending events and the kept flags in F with the latches cleared (said for a boundary at which no other axis has a POST pending), V and K and LC and LK as they were, V and the PC written to the checkpoint words, the inbound pages swapped and ISEQ advanced when a POST was pending. The clock and the queue stay, and so does the state of the axis, unless a Kirchhoff check that two phases fail enters OASIS with cause 19. A boundary of a halted axis only counts MISSED, and one of an island frozen without a halt changes nothing (the model's choice, log 122). -/
def Obligations.TickStarts : Prop :=
  ∀ (n : Ax) (e : Eng) (adc : Adc) (s : State),
    let a := s.ax n
    let c := (s.eng e).core
    let pend := decide (a.get AX_MBCTL_PEND = 1)
    s.onBoundary n 0 = true → s.ptIsl n = islRun → s.alive = true →
    (a.halted = true → Runs (.tickBoundary n adc) s (fun t => OnlyAxes s t ∧ OthersKept s t n ∧
      t.ax n = { a with missed := min (a.missed + 1) 65535 })) ∧
    (a.halted = false → a.get AX_PTSTAT_FROZEN = 1 → Runs (.tickBoundary n adc) s (fun t => t = s)) ∧
    (a.halted = false → a.get AX_PTSTAT_FROZEN = 0 → NoCommands s →
      a.get AX_STATEREQ_REQ = 0 → a.uv2Req = false → a.stallReq = false → a.escExit = false →
      Runs (.tickBoundary n adc) s (fun t => ((t.ax n).st = a.st ∨ ((t.ax n).st = .oasis ∧ (t.ax n).get AX_STATE_CAUSE = 19)) ∧ t.clk = s.clk ∧ t.pending = s.pending ∧
        (t.ax n).pt.committed = none ∧ (t.ax n).pt.start = s.clk ∧
        (∀ r ∈ a.pt.committed, (t.ax n).pt.loaded = some r ∧ (t.ax n).get AX_PTSTAT_HOLDRUN = 0 ∧ (t.ax n).get AX_PTSTAT_MISS = 0) ∧
        (a.pt.committed = none → (t.ax n).get AX_PTSTAT_HOLDRUN = min 15 (a.get AX_PTSTAT_HOLDRUN + 1) ∧
          (t.ax n).get AX_PTSTAT_MISS = 1)) ∧
      (s.ticks n = true → a.engine = some e → a.run.running = false → s.recovering n = false →
        Runs (.tickBoundary n adc) s (fun t =>
          (t.ax n).run.running = true ∧ (t.ax n).run.cyc = 2 ∧ (t.ax n).run.seq = 0 ∧ (t.ax n).run.buf = [] ∧
          (t.ax n).run.wait = none ∧ (t.ax n).run.swt = 0 ∧ (t.ax n).run.time = s.time ∧ (t.ax n).ev = 0 ∧
          ((∀ m : Ax, m ≠ n → (s.ax m).get AX_MBCTL_PEND = 0) →
            (t.eng e).core = { c with pc := 0, f := fBoundary c.f (a.ev ||| (if pend then 1 else 0)) }) ∧
          (∀ j : Fin 32, (t.ax n).dword j.val = c.v[j]) ∧ (t.ax n).dword 0x29 = c.pc.setWidth 64 ∧
          (t.ax n).mb.inPage = (a.mb.inPage != pend) ∧
          (t.ax n).get AX_MBCTL_ISEQ = (a.get AX_MBCTL_ISEQ + (if pend then 1 else 0)) % 65536)))

/-- ARMING_COMPLETE, once the gate-drive steps are done, sends ARMING to CATCH when the greatest line-to-line voltage seen reached CATCHV (units of 25 mV) and to STARTING otherwise, completing every started ENABLE of the axis; before that it changes nothing. The offset measurement stores the three means and clears OFSBAD when each lies within 256 codes, and else sets OFSBAD and enters OASIS with cause 19. Bootstrap charging over 2 ms sends ARMING to OASIS with cause 5, a CATCH over TMO ms to OASIS with cause 14, a DECEL of STOPTMO ms to DISARM, and six gates low for 10 us (from the entry and from the last fall) send DISARM to OFF, or with a held ENABLE that nothing refuses, to ARMING. Every other axis stays as it was. -/
def Obligations.ArmingAndLeaving : Prop :=
  ∀ (n : Ax) (u v w : BitVec 14) (terms : List Terminals) (s : State),
    let a := s.ax n
    let good := fun (x : BitVec 14) => decide (-256 ≤ x.toInt ∧ x.toInt ≤ 256)
    let code := fun (x : BitVec 14) => (x.toInt % 65536).toNat
    let level := fun (x : Terminals) => max x.1 (max x.2.1 x.2.2) - min x.1 (min x.2.1 x.2.2)
    let high := 25 * a.get AX_SMCFG_CATCHV
    let next : AxSt := if high = 0 ∨ terms.any (fun x => decide (high ≤ level x)) = true then .catching else .starting
    let goes := fun (t : State) (st : AxSt) => (t.ax n).st = st ∧ (t.ax n).since = s.clk ∧ OthersKept s t n
    (a.st = .arming → a.gd.arm.step = 4 → Runs (.armingComplete n terms) s (fun t => goes t next ∧
      ∀ p : Port, ∀ c ∈ (t.port p).cmds, c.started = true → c.op ≠ .enable n)) ∧
    (a.st ≠ .arming ∨ a.gd.arm.step ≠ 4 → Runs (.armingComplete n terms) s (fun t => t = s)) ∧
    (let t := s.measureOffsets n (some (u.toInt, v.toInt, w.toInt))
     (t.ax n).get AX_OFS_OFSU = code u ∧ (t.ax n).get AX_OFS_OFSV = code v ∧ (t.ax n).get AX_OFS_OFSW = code w ∧ OthersKept s t n ∧
     (good u && good v && good w → (t.ax n).get AX_SNSSTAT_OFSBAD = 0 ∧ (t.ax n).st = a.st) ∧
     ((good u && good v && good w) = false → (t.ax n).get AX_SNSSTAT_OFSBAD = 1 ∧ (a.st ≠ .oasis → Faulted s t n 19))) ∧
    (a.st = .arming → a.gd.arm.step = 1 → a.gd.arm.at_ + 2 * msTicks < s.clk →
      Runs (.armingBootstrapTimeout n) s (fun t => Faulted s t n 5 ∧ CountedAx s t n AX_CNT1_BST_UV ∧ OthersKept s t n)) ∧
    (a.st = .disarm → a.since + 10 * usTicks ≤ s.clk → a.gd.fallAt + 10 * usTicks ≤ s.clk → a.gd.vgs = 0 →
      (a.held = false → Runs (.disarmComplete n) s (fun t => goes t .off)) ∧
      (a.held = true → s.enableRefusal n = none → Runs (.disarmComplete n) s (fun t => goes t .arming ∧ (t.ax n).held = false))) ∧
    (a.st = .decel → a.since + a.get AX_SMCFG_STOPTMO * msTicks ≤ s.clk → Runs (.stoptmo n) s (fun t => goes t .disarm)) ∧
    (a.st = .catching → a.since + a.get AX_CATCH_TMO * msTicks < s.clk →
      Runs (.catchTimeout n) s (fun t => Faulted s t n 14 ∧ CountedAx s t n AX_CNT1_ROTOR_LOST ∧ OthersKept s t n))

/-- At a boundary, with no other cause of a state change, the request in STATEREQ acts as R287 lists and reads 0 afterwards: 1 to RUN, 2 to STARTING, 3 to CATCH while the losses stay below LOSSMAX (a loss that reaches it enters OASIS with cause 14), 4 to DECEL, 5 to DISARM, 6 to OASIS with cause 0x3F; any request the state does not list counts BADREQ and changes no state. -/
def Obligations.StateRequests : Prop :=
  ∀ (n : Ax) (s : State),
    let a := s.ax n
    let q := a.get AX_STATEREQ_REQ
    let goes := fun (st : AxSt) => Runs (.stateRequest n) s (fun t =>
      (t.ax n).st = st ∧ (t.ax n).get AX_STATEREQ_REQ = 0 ∧ (t.ax n).get AX_STATE_BADREQ = a.get AX_STATE_BADREQ ∧
      (t.ax n).since = s.clk ∧ OthersKept s t n)
    let lost := (s.recentLosses n).length + 1
    s.onBoundary n 0 = true → s.ticks n = true → NoCommands s → a.uv2Req = false → a.stallReq = false → a.escExit = false →
    (q = 1 → (a.st = .starting ∨ a.st = .catching) → goes .running) ∧
    (q = 2 → a.st = .catching → goes .starting) ∧
    (q = 3 → (a.st = .starting ∨ a.st = .running) → min 7 lost < a.get AX_CATCH_LOSSMAX → goes .catching) ∧
    (q = 3 → (a.st = .starting ∨ a.st = .running) → a.get AX_CATCH_LOSSMAX ≤ min 7 lost →
      Runs (.stateRequest n) s (fun t => Faulted s t n 14)) ∧
    (q = 4 → (a.st = .starting ∨ a.st = .running ∨ a.st = .catching) → goes .decel) ∧
    (q = 5 → a.st = .decel → goes .disarm) ∧
    (q = 6 → a.st ≠ .oasis → Runs (.stateRequest n) s (fun t => Faulted s t n 0x3F ∧ (t.ax n).get AX_STATEREQ_REQ = 0)) ∧
    ((q = 7 ∨ (1 ≤ q ∧ q ≤ 5 ∧ (a.st = .off ∨ a.st = .arming ∨ a.st = .disarm ∨ a.st = .oasis))) →
      Runs (.stateRequest n) s (fun t => (t.ax n).st = a.st ∧ (t.ax n).get AX_STATEREQ_REQ = 0 ∧
        (t.ax n).get AX_STATE_BADREQ = min (a.get AX_STATE_BADREQ + 1) 255))

/-- In RUN with TICKS not 0 and STCNT at TICKS, STALL counts STALL and clears STCNT; with ACT 0 nothing else changes state, with ACT 1 the axis asks for DECEL at its next boundary (or enters DECEL at once when no ticks run), with ACT 2 it enters OASIS with cause 15 (at once: the model's reading). -/
def Obligations.StallActions : Prop :=
  ∀ (n : Ax) (s : State),
    let a := s.ax n
    let act := a.get AX_STALL_ACT
    a.st = .running → a.get AX_STALL_TICKS ≠ 0 → a.get AX_STALL_TICKS ≤ a.get AX_SPD_STCNT →
    Runs (.stall n) s (fun t =>
      CountedAx s t n AX_CNT1_STALL ∧ (t.ax n).get AX_SPD_STCNT = 0 ∧ OthersKept s t n ∧
      (act = 0 ∨ act = 3 → (t.ax n).st = .running) ∧
      (act = 1 → s.ticks n = true → (t.ax n).st = .running ∧ (t.ax n).stallReq = true) ∧
      (act = 1 → s.ticks n = false → (t.ax n).st = .decel) ∧
      (act = 2 → Faulted s t n 15 ∧ LastFault t 15 n.val))

/-- HALL_CODE shows a code on the pins. With MODE 0, or before it has stood for HFILT x 100 ns, it is only remembered with the instant since which it stands. Accepted, a first valid code of sector q sets the sector and delivers q to the pulse island; the neighbour above or below moves the sector, puts the edge angle half a sector below or above the centre, and unless the encoder is the sensed source counts one step in its direction; the same sector counts no step, and a jump of more than one sector counts HALL_INVALID and no step; an invalid code opens an episode counted once and leaves the sector (in CMD3 it delivers the all-off entry, as does the code 0, which is no error there). An episode longer than INVTMO ms is detected once and enters OASIS with cause 18. No edge for PTMO ms under the period method reads as speed 0. While no tick runs and none is to be recomputed, POSITION_REFRESH captures the position and speed words 10 us after the last capture. Every other axis stays as it was. -/
def Obligations.HallEvents : Prop :=
  ∀ (n : Ax) (c : BitVec 3) (q o : Fin 6) (s : State),
    let a := s.ax n
    let mode := a.get AX_PCFG_MODE
    let since := match a.pos.pend with | some x => if x.1 = c then x.2 else s.clk | none => s.clk
    let stable := since + 40 * a.get AX_PCFG_HFILT ≤ s.clk
    let src := a.get AX_PCFG_SSRC
    let half : W32 := 0x15555555
    let centre := BitVec.ofNat 32 (a.get AX_HALLMAP_HOFS + q.val * 0x2AAAAAAB)
    let accepted := fun (P : State → Prop) => Runs (.hallCode n c) s (fun t => (t.ax n).pos.code = c ∧ (t.ax n).pos.pend = none ∧
      OthersKept s t n ∧ P t)
    let sector := fun (t : State) => (t.ax n).pos.sector = some q ∧ (t.ax n).pos.comm.toNat = q.val ∧ (t.ax n).pos.commValid = true ∧
      (t.ax n).pos.hinv = false
    let moved := fun (rev : Bool) (t : State) => sector t ∧ (t.ax n).pos.hallAt = s.clk ∧ (t.ax n).pos.hallDir = rev ∧
      (t.ax n).pos.edgeAngle = (if rev then centre + half else centre - half) ∧
      (src ≠ 2 → (t.ax n).pos.steps = a.pos.steps + 1 ∧ (t.ax n).pos.dir = rev ∧ (t.ax n).pos.edgeAt = s.clk ∧ (t.ax n).pos.stopped = false) ∧
      (src = 2 → (t.ax n).pos.steps = a.pos.steps ∧ (t.ax n).pos.dir = a.pos.dir ∧ (t.ax n).pos.edgeAt = a.pos.edgeAt)
    let s1 := s.modAx n (fun a => { a with pos := { a.pos with method := a.pos.method || s.ssiSource n } })
    let spd := s1.speedNow n
    (mode = 0 ∨ ¬stable → Runs (.hallCode n c) s (fun t => OnlyAxes s t ∧ OthersKept s t n ∧
      t.ax n = { a with pos := { a.pos with pend := some (c, since) } })) ∧
    (mode ≠ 0 → stable → a.hallSector c = some q → a.pos.sector = none →
      accepted (fun t => sector t ∧ (t.ax n).pos.steps = a.pos.steps)) ∧
    (mode ≠ 0 → stable → a.hallSector c = some q → a.pos.sector = some o →
      (q = o + 1 → accepted (moved false)) ∧ (o = q + 1 → accepted (moved true)) ∧
      (q = o → accepted (fun t => sector t ∧ (t.ax n).pos.steps = a.pos.steps)) ∧
      (q ≠ o → q ≠ o + 1 → o ≠ q + 1 → accepted (fun t => sector t ∧ (t.ax n).pos.steps = a.pos.steps ∧
        CountedAx s t n AX_CNT2_HALL_INVALID))) ∧
    (mode ≠ 0 → stable → a.hallSector c = none → ¬(mode = 2 ∧ c = 0) → accepted (fun t => (t.ax n).pos.hinv = true ∧
      (t.ax n).pos.sector = a.pos.sector ∧ (mode = 2 → (t.ax n).pos.comm = 6) ∧
      (a.pos.hinv = false → (t.ax n).pos.hinvAt = s.clk ∧ (t.ax n).pos.svalid = false ∧ CountedAx s t n AX_CNT2_HALL_INVALID) ∧
      (a.pos.hinv = true → (t.ax n).pos.hinvAt = a.pos.hinvAt ∧ (t.ax n).get AX_CNT2_HALL_INVALID = a.get AX_CNT2_HALL_INVALID))) ∧
    (mode = 2 → stable → c = 0 → accepted (fun t => (t.ax n).pos.comm = 6 ∧ (t.ax n).pos.hinv = a.pos.hinv ∧
      (t.ax n).pos.sector = a.pos.sector)) ∧
    (a.pos.hinv = true → a.pos.hinvHit = false → a.get AX_PCFG_INVTMO ≠ 0 → mode ≠ 0 →
      a.pos.hinvAt + a.get AX_PCFG_INVTMO * msTicks < s.clk →
      Runs (.hallInvtmo n) s (fun t => LastFault t 18 n.val ∧ (t.ax n).pos.hinvHit = true ∧ OthersKept s t n ∧
        (a.st ≠ .oasis → Faulted s t n 18) ∧ (a.st = .oasis → (t.ax n).st = .oasis))) ∧
    (a.pos.stopped = false → a.pos.method = false → a.pos.edgeAt + a.get AX_SPDCFG_PTMO * msTicks ≤ s.clk →
      Runs (.speedStopped n) s (fun t => OnlyAxes s t ∧ OthersKept s t n ∧
        t.ax n = { a with pos := { a.pos with speed := 0, stopped := true } })) ∧
    (s.ticks n = false → s.recovering n = false → a.pos.refAt + 10 * usTicks ≤ s.clk →
      Runs (.positionRefresh n) s (fun t => OnlyAxes s t ∧ OthersKept s t n ∧ (t.ax n).pos.refAt = s.clk ∧
        (t.ax n).get AX_PANG_CODE = a.pos.code.toNat ∧ (t.ax n).get AX_PANG_HINV = (if a.pos.hinv then 1 else 0) ∧
        (t.ax n).get AX_PSPD_STEPS = a.pos.steps.toNat ∧ (t.ax n).get AX_PSPD_DIR = (if a.pos.dir then 1 else 0) ∧
        (t.ax n).get AX_PSPD_SPEED = (spd % 2 ^ 32).toNat ∧
        (t.ax n).get AX_PSPD_METHOD = (if s.ssiSource n = true ∨ (a.pos.method = true ∧ a.get AX_SPDCFG_SWDN * 2 ^ 16 ≤ spd.natAbs) ∨
          (a.pos.method = false ∧ a.get AX_SPDCFG_SWUP * 2 ^ 16 < spd.natAbs) then 1 else 0) ∧
        (t.ax n).get AX_PANG_SVALID = (if (s1.sensed n).isSome = true then 1 else 0) ∧
        (t.ax n).get AX_PANG_ANGLE = (match s1.sensed n with | some x => x.toNat | none => a.get AX_PANG_ANGLE))) ∧
    (s.ticks n = true ∨ s.recovering n = true ∨ s.clk < a.pos.refAt + 10 * usTicks → Runs (.positionRefresh n) s (fun t => t = s))

/-- ENC_QUADRATURE_STEP shows the levels of A and B. Off incremental mode, or before they have stood for FILT further samples, they are only remembered with the instant since which they stand. Accepted, the first state and a repeated one move nothing; a transition in the forward order adds one to POS modulo 2^32 and the reverse one subtracts one (forward is A before B: the model's choice, log 13), and the axis that senses the channel counts a step in that direction; a change of both levels is illegal: LASTERR 4, POS stays. A rising Z on an incremental channel while A and B are high latches POS, sets ZSEEN, clears POS under ZRST and shows EV_ENC to the axis that the channel serves first. A trigger TOFF after a boundary of the served axis starts one SSI transaction; while one runs it counts OVERRUN, and after a timeout none is served until B has read high. A transaction ends within TMO us of its request: a word without an error advances SEQ, sets WORD and POS and clears BADRUN; a wrong check sets LASTERR 1 and the error bit LASTERR 2; one over TMO is abandoned with LASTERR 3. Each failure counts for the axis that the channel serves, or the device, and at ERRLIM that axis enters fallback or OASIS. Other channels stay as they were. -/
def Obligations.EncoderEvents : Prop :=
  ∀ (k : Chan) (n : Ax) (ab : BitVec 2) (word : BitVec 40) (crc : Byte) (t0 : Nat) (s : State),
    let a := s.ax n
    let q := s.enc[k]
    let pos := s.dget (ENC_POS_POS k.val)
    let mode := s.dget (ENC_CFG_MODE k.val)
    let since := match q.pend with | some x => if x.1 = ab then x.2 else s.clk | none => s.clk
    let passed := mode = 1 ∧ since + s.dget (ENC_CFG_FILT k.val) ≤ s.clk
    let d := (quadIndex ab + 4 - quadIndex q.ab) % 4
    let shown : EncSt := { q with b := ab.getLsbD 1, hold := q.hold && !ab.getLsbD 1 }
    let enc := fun (x : EncSt) => s.enc.set k.val x k.isLt
    let only := fun (t : State) (r : Nat) => t = { s with enc := t.enc, dev := t.dev } ∧ ∀ b : Nat, b ≠ r → t.dreg b = s.dreg b
    let len := s.dget (ENC_SSI_WLEN k.val)
    let v := word.toNat % 2 ^ len
    let cw := s.dget (ENC_CRC_CRCW k.val)
    let crcv := ssiCrc cw (s.dget (ENC_CRC_POLY k.val)) (bitsMsb v len) (s.dget (ENC_CRC_INIT k.val) % 2 ^ cw)
    let crcv := if s.dget (ENC_CRC_INV k.val) = 1 then 2 ^ cw - 1 - crcv else crcv
    let bad := cw ≠ 0 ∧ crcv ≠ crc.toNat % 2 ^ cw
    let flag := s.dget (ENC_SSI_ERREN k.val) = 1 ∧ v.testBit (s.dget (ENC_SSI_ERRPOS k.val)) = decide (s.dget (ENC_SSI_ERRPOL k.val) = 1)
    let tmo := s.dget (ENC_SSI_TMO k.val) * usTicks
    let due := s.dget (ENC_SSI_TRIG k.val) = 1 ∧ s.encAxis k = some n ∧ s.onBoundary n (s.dget (ENC_CRC_TOFF k.val)) = true ∧ mode = 2
    (¬passed → Runs (.encQuadratureStep k ab) s (fun t => t = { s with enc := enc { shown with pend := some (ab, since) } })) ∧
    (passed → q.seen = false ∨ d = 0 →
      Runs (.encQuadratureStep k ab) s (fun t => t = { s with enc := enc { shown with ab := ab, seen := true, pend := none } })) ∧
    (passed → q.seen = true → d = 1 ∨ d = 3 → Runs (.encQuadratureStep k ab) s (fun t =>
      t.enc = enc { shown with ab := ab, pend := none } ∧
      t.dget (ENC_POS_POS k.val) = (if d = 1 then pos + 1 else pos + 2 ^ 32 - 1) % 2 ^ 32 ∧
      (s.encFirst k = some n → a.get AX_PCFG_SSRC = 2 → OthersKept s t n ∧ (t.ax n).pos.steps = a.pos.steps + 1 ∧
        (t.ax n).pos.dir = decide (d = 3) ∧ (t.ax n).pos.edgeAt = s.clk ∧ (t.ax n).pos.stopped = false) ∧
      (s.encFirst k = none ∨ (s.encFirst k = some n ∧ a.get AX_PCFG_SSRC ≠ 2) → only t (ENC_POS k.val)))) ∧
    (passed → q.seen = true → d = 2 → Runs (.encQuadratureStep k ab) s (fun t =>
      t.enc = enc { shown with ab := ab, pend := none, illegal := true } ∧
      ChanFailed s t k n 16 AX_CNT2_ENC_CRC FAULT_DCNT4_ENC_CRC 4)) ∧
    (mode = 1 → q.ab = 3 → Runs (.encZ k) s (fun t => t.enc = s.enc ∧
      t.dget (ENC_POS_ZLAT k.val) = pos ∧ t.dget (ENC_CFG_ZSEEN k.val) = 1 ∧
      t.dget (ENC_POS_POS k.val) = (if s.dget (ENC_CFG_ZRST k.val) = 1 then 0 else pos) ∧
      (s.encAxis k = none → t.axes = s.axes) ∧
      (s.encAxis k = some n → OthersKept s t n ∧ (t.ax n).pos.fbWait = (a.pos.fallback && a.pos.fbWait)) ∧
      (s.encFirst k = some n → EventSeen s t n evEnc))) ∧
    (mode ≠ 1 ∨ q.ab ≠ 3 → Runs (.encZ k) s (fun t => t = s)) ∧
    (due → q.reqAt = none → q.hold = false → Runs (.ssiRequest k) s (fun t => t.enc = enc { q with reqAt := some s.clk } ∧
      t.dget (ENC_STAT_BUSY k.val) = 1 ∧ only t (ENC_STAT k.val))) ∧
    (due → q.reqAt ≠ none → Runs (.ssiRequest k) s (fun t => t.enc = s.enc ∧ only t (ENC_STAT k.val) ∧
      CountedDev s t (ENC_STAT_OVERRUN k.val))) ∧
    ((due ∧ q.reqAt = none ∧ q.hold = true) ∨ s.dget (ENC_SSI_TRIG k.val) ≠ 1 ∨ s.encAxis k = none ∨ mode ≠ 2 ∨
        (s.encAxis k = some n ∧ s.onBoundary n (s.dget (ENC_CRC_TOFF k.val)) = false) →
      Runs (.ssiRequest k) s (fun t => t = s)) ∧
    (q.reqAt = none → Runs (.encTimeout k) s (fun t => t = s) ∧ Runs (.ssiTransactionEnd k word crc) s (fun t => t = s)) ∧
    (q.reqAt = some t0 →
      (t0 + tmo < s.clk → Runs (.encTimeout k) s (fun t => t.enc = enc { q with reqAt := none, hold := true } ∧
        t.dget (ENC_STAT_BUSY k.val) = 0 ∧ ChanFailed s t k n 17 AX_CNT2_ENC_TIMEOUT FAULT_DCNT4_ENC_TIMEOUT 3)) ∧
      (s.clk ≤ t0 + tmo → Runs (.encTimeout k) s (fun t => t = s)) ∧
      (t0 + tmo < s.clk ∨ s.clk < t0 + s.ssiLeast k → Runs (.ssiTransactionEnd k word crc) s (fun t => t = s)) ∧
      (s.clk ≤ t0 + tmo → t0 + s.ssiLeast k ≤ s.clk → bad ∨ flag → Runs (.ssiTransactionEnd k word crc) s (fun t =>
        t.enc = enc { q with reqAt := none } ∧ t.dget (ENC_STAT_BUSY k.val) = 0 ∧
        (cw ≠ 0 → t.dget (ENC_RAW_CRCRX k.val) = crc.toNat % 2 ^ cw % 2 ^ 8) ∧
        ChanFailed s t k n 16 AX_CNT2_ENC_CRC FAULT_DCNT4_ENC_CRC (if bad then 1 else 2))) ∧
      (s.clk ≤ t0 + tmo → t0 + s.ssiLeast k ≤ s.clk → ¬bad → ¬flag → Runs (.ssiTransactionEnd k word crc) s (fun t =>
        t.enc = enc { q with reqAt := none, good := true } ∧ t.dget (ENC_STAT_BUSY k.val) = 0 ∧
        (cw ≠ 0 → t.dget (ENC_RAW_CRCRX k.val) = crc.toNat % 2 ^ cw % 2 ^ 8) ∧ t.dget (ENC_RAW_WORD k.val) = v % 2 ^ 40 ∧
        t.dget (ENC_STAT_SEQ k.val) = (s.dget (ENC_STAT_SEQ k.val) + 1) % 2 ^ 16 ∧ t.dget (ENC_STAT_BADRUN k.val) = 0 ∧
        t.dget (ENC_POS_POS k.val) = (v >>> s.dget (ENC_SSI_POSLSB k.val)) % 2 ^ s.dget (ENC_SSI_POSW k.val) % 2 ^ 32 ∧
        (s.encAxis k = none → t.axes = s.axes) ∧ (s.encAxis k = some n → OthersKept s t n) ∧
        (s.encFirst k = some n → EventSeen s t n evEnc))))

/-- PROBE_LATCH reports the level that a probe pin takes. The accepted level again, or a new level that its filter has not yet passed, latches nothing; the opposite of an edge that still waits in the filter takes that edge back. An edge that has been stable for FILT further base ticks is accepted: where EDGE selects its direction it latches the value and the TIME of the base tick in which it was first sampled, its polarity and the next SEQ, and shows EV_PRB to the axis it serves with AXEN = 1; elsewhere it latches nothing. EMU_COUNT_EMIT, when a count is due and the source axis has ticks, moves COUNT by one toward the counts still due, modulo 2^32, takes one off BACKLOG, and the next count follows after the spacing of the tick and not under 200 ns; otherwise it changes nothing. A and B of an enabled output show COUNT mod 4 as 00, 10, 11, 01, exchanged under INV, and Z is high while COUNT mod 4 LINES is 0 and ZEN is 1. -/
def Obligations.ProbesAndEmulation : Prop :=
  ∀ (j : Chan) (m : Emu) (n : Ax) (rising : Bool) (t0 value : Nat) (time : W64) (s : State),
    let filt := s.dget (PRB_CFG_FILT j.val)
    let ed := s.dget (PRB_CFG_EDGE j.val)
    let p := s.prb[j]
    let now := s.probeValue (s.dget (PRB_CFG_SRC j.val))
    let only := fun (t : State) => t = { s with prb := t.prb, dev := t.dev } ∧
      ∀ b : Nat, b ≠ PRB_LAT j.val → b ≠ PRB_TIME j.val → t.dreg b = s.dreg b
    let latched := fun (v : Nat) (x : W64) (t : State) =>
      t.prb = s.prb.set j.val { level := some rising, pend := none } j.isLt ∧
      ((if rising then ed % 2 = 1 else ed / 2 = 1) →
        t.dget (PRB_LAT_SEQ j.val) = (s.dget (PRB_LAT_SEQ j.val) + 1) % 2 ^ 16 ∧ t.dget (PRB_LAT_VALUE j.val) = v % 2 ^ 32 ∧
        t.dget (PRB_LAT_POL j.val) = (if rising then 1 else 0) ∧ t.dreg (PRB_TIME j.val) = x ∧
        (s.dget (PRB_CFG_AXEN j.val) = 0 → only t) ∧
        (s.dget (PRB_CFG_AXEN j.val) = 1 → s.dget (PRB_CFG_AXIS j.val) = n.val → EventSeen s t n evPrb ∧ OthersKept s t n)) ∧
      ((if rising then ed % 2 = 0 else ed / 2 = 0) → t = { s with prb := t.prb })
    let q := s.emu[m]
    let src : Ax := ⟨(EMU_CFG_AXIS m.val).get q.cfg % 8, by omega⟩
    let c := s.dget (EMU_STAT_COUNT m.val)
    let due := (EMU_CFG_EN m.val).get q.cfg = 1 ∧ q.todo ≠ 0 ∧ q.next ≤ s.clk ∧ s.ticks src = true
    let lines := (EMU_CFG_LINES m.val).get q.cfg
    let ab : Bool × Bool := if c % 4 = 0 then (false, false) else if c % 4 = 1 then (true, false) else if c % 4 = 2 then (true, true) else (false, true)
    (p.pend = none → p.level = some rising → Runs (.probeLatch j rising) s (fun t => t = s)) ∧
    (p.pend = some (!rising, t0, value, time) → Runs (.probeLatch j rising) s (fun t =>
      t = { s with prb := s.prb.set j.val { level := p.level, pend := none } j.isLt })) ∧
    (p.pend = none → p.level ≠ some rising → filt ≠ 0 → Runs (.probeLatch j rising) s (fun t =>
      t = { s with prb := s.prb.set j.val { level := p.level, pend := some (rising, s.clk, now, s.time) } j.isLt })) ∧
    (p.pend = some (rising, t0, value, time) → s.clk < t0 + filt → Runs (.probeLatch j rising) s (fun t => t = s)) ∧
    (p.pend = none → p.level ≠ some rising → filt = 0 → Runs (.probeLatch j rising) s (latched now s.time)) ∧
    (p.pend = some (rising, t0, value, time) → t0 + filt ≤ s.clk → Runs (.probeLatch j rising) s (latched value time)) ∧
    (due → Runs (.emuCountEmit m) s (fun t => t = { s with emu := t.emu, dev := t.dev } ∧
      t.dget (EMU_STAT_COUNT m.val) = (if 0 < q.todo then (c + 1) % 2 ^ 32 else (c + 2 ^ 32 - 1) % 2 ^ 32) ∧
      t.dget (EMU_STAT_BACKLOG m.val) = s.dget (EMU_STAT_BACKLOG m.val) - 1 ∧
      t.dget (EMU_STAT_OVR m.val) = s.dget (EMU_STAT_OVR m.val) ∧ (∀ b : Nat, b ≠ EMU_STAT m.val → t.dreg b = s.dreg b) ∧
      t.emu = s.emu.set m.val { q with todo := if 0 < q.todo then q.todo - 1 else q.todo + 1,
                                       next := max (q.next + q.gap) (s.clk + 80), last := s.clk } m.isLt)) ∧
    (¬due → Runs (.emuCountEmit m) s (fun t => t = s)) ∧
    ((EMU_CFG_EN m.val).get q.cfg = 1 → lines ≠ 0 →
      s.emuPins m = ((if (EMU_CFG_INV m.val).get q.cfg = 1 then ab.2 else ab.1), (if (EMU_CFG_INV m.val).get q.cfg = 1 then ab.1 else ab.2),
        (EMU_CFG_ZEN m.val).get q.cfg = 1 && c % (4 * lines) == 0))

/-- A boundary sets the bound to ILIMP KMIN, and to ILIMN KMIN or 0 under NEGINH for the DTC vectors latched with t = 2. CURRENT_BOUND acts when the island runs unfrozen, TSET base ticks have passed since the last edge of the axis and the amplifier output is above that level (at most full scale): it sets CURB for the tick, and in the active segment of a DTC tick the plan becomes the fill vector from that instant (to the forced window, where there is one); in a DUTY or SIX tick a hold to the end of the carrier period puts every PWM phase at L (where no OV2 hold stands); the state of the axis and every other axis stay. Otherwise, and in the fill segment, it changes nothing. At a boundary of an unfrozen island a STEP write moves the mask index with SRC = 2 by one, back under REV, modulo 6, and leaves it with SRC 0 or 3. A compare at its offset drives its TRGO pin for WIDTH base ticks with TGT 1 or 3, and with TGT 2 or 3 writes the snapshot: the offset-corrected codes of the logical phases, its number, the VALID bits of that instant (none in the last 320 ns of the tick) and SHARED; with TGT 0, frozen, stopped or off its instant it changes nothing. Once a millisecond the switching-rate window closes with RATIO as the mean of the three phases over the target, limited to its field, or 1.0 for a target of 0. -/
def Obligations.PulseEvents : Prop :=
  ∀ (n : Ax) (p : Phase) (k : Chan) (uv : Int) (codes : BitVec 14 × BitVec 14 × BitVec 14) (s : State),
    let a := s.ax n
    let r := a.pt.loaded.getD Req.none
    let t0 := 32 * s.clk
    let stop := 32 * (a.pt.start + max 1 (a.get AX_TICK_PERIOD))
    let m := a.reg AX_PTMCTL
    let w := a.pt.cmp[k]
    let tgt := (AX_PTCMP_TGT k.val).get w
    let pin : Fin 4 := ⟨(AX_PTCMP_PIN k.val).get w % 4, by omega⟩
    let live := a.get AX_PTSTAT_FROZEN = 0 ∧ s.ptIsl n = islRun
    let acts := live ∧ a.lastEdge + 32 * a.get AX_SNSCFG_TSET ≤ t0 ∧ a.ampAbove a.boundLevel 29 uv = true
    let bounded := fun (t : State) => (t.ax n).pt.curb = true ∧ (a.pt.drained = true → (t.ax n).get AX_TLSTAT_CURB = 1) ∧
      OthersKept s t n ∧ (t.ax n).st = a.st
    let due := live ∧ s.onBoundary n ((AX_PTCMP_OFS k.val).get w) = true
    let driven := fun (t : State) => OnlyAxes s t ∧ OthersKept s t n ∧
      (t.ax n).pt.trgo = (if tgt % 2 = 1 then a.pt.trgo.set pin.val (max a.pt.trgo[pin] (s.clk + (AX_PTCMP_WIDTH k.val).get w)) pin.isLt else a.pt.trgo)
    let q := fun (x : Phase) => phmap (a.get AX_PTMAP_PHMAP) x
    let code := fun (x : Phase) => ((adcOf codes (q x) - a.ofs (q x)) % 65536).toNat
    let pins := s.toPins n
    let ok := validAt (a.get AX_SNSCFG_MODE == 1) (a.get AX_SNSCFG_TSET) pins.1 pins.2 a.pt.emitted s.clk
    let ratio := AX_PTSW_TARGET.get a.pt.ptsw
    (let t := s.captureTl n
     let kmin := min (a.get AX_TLSTAT_KTH) (s.dget (BUS_STAT_KBUS (s.busOf n).val))
     OnlyAxes s t ∧ OthersKept s t n ∧ (t.ax n).get AX_TLSTAT_KMIN = kmin ∧
     (t.ax n).get AX_TLSTAT_NEGINH = (if s.ov2Behaviour (s.busOf n) = true then 1 else 0) ∧
     (t.ax n).pt.bound = (a.get AX_TQLIM_ILIMP * kmin, if s.ov2Behaviour (s.busOf n) = true then 0 else a.get AX_TQLIM_ILIMN * kmin)) ∧
    (a.boundLevel = (if r.mode = 0 ∧ r.neg = true then a.pt.bound.2 else a.pt.bound.1)) ∧
    (acts → r.mode = 0 → t0 < a.pt.activeEnd → Runs (.currentBound n p uv) s (fun t => bounded t ∧
      (t.ax n).pt.activeEnd = t0 ∧ (t.ax n).pt.hold = none ∧
      ∀ x : Phase, (t.ax n).pt.plan[x] = if a.forcedFrom a.pt.start ≤ t0 then a.pt.plan[x]
        else spanTo a.pt.plan[x] t0 (a.forcedFrom a.pt.start) stop (vecPh a.pt.fill.toNat x))) ∧
    (acts → r.mode ≠ 0 → Runs (.currentBound n p uv) s (fun t => bounded t ∧
      (t.ax n).pt.hold.map (fun h => (h.bound, h.stop)) = some (true, a.carrierEnd t0) ∧
      (a.pt.hold = none → t0 < min (a.carrierEnd t0) (a.forcedFrom a.pt.start) → ∀ x : Phase, (t.ax n).pt.plan[x] =
        (if r.mode = 1 ∨ a.role x = 1 then spanTo a.pt.plan[x] t0 (min (a.carrierEnd t0) (a.forcedFrom a.pt.start)) stop .l
        else a.pt.plan[x])))) ∧
    (¬acts ∨ (r.mode = 0 ∧ a.pt.activeEnd ≤ t0) → Runs (.currentBound n p uv) s (fun t => t = s)) ∧
    (s.onBoundary n 0 = true → a.pt.stepReq = true → a.get AX_PTSTAT_FROZEN = 0 → AX_PTMCTL_SRC.get m ≠ 1 →
      Runs (.ptmctlStep n) s (fun t => (t.ax n).pt.stepReq = false ∧ (t.ax n).pt.mctl = m ∧ (t.ax n).st = a.st ∧ OthersKept s t n ∧
        (t.ax n).get AX_PTMCTL_INDEX = if AX_PTMCTL_SRC.get m ≠ 2 then a.get AX_PTMCTL_INDEX
          else if AX_PTMCTL_REV.get m = 1 then (a.get AX_PTMCTL_INDEX + 5) % 6 else (a.get AX_PTMCTL_INDEX + 1) % 6)) ∧
    (s.onBoundary n 0 = false ∨ a.pt.stepReq = false ∨ a.get AX_PTSTAT_FROZEN ≠ 0 → Runs (.ptmctlStep n) s (fun t => t = s)) ∧
    (due → tgt = 1 → Runs (.compare n k codes) s (fun t => driven t ∧ (t.ax n).regs = a.regs)) ∧
    (due → 2 ≤ tgt → Runs (.compare n k codes) s (fun t => driven t ∧ (∀ b : Nat, b ≠ AX_PTSNAP → (t.ax n).reg b = a.reg b) ∧
      (t.ax n).get AX_PTSNAP_CMP = k.val ∧ (t.ax n).get AX_PTSNAP_IU = code 0 ∧ (t.ax n).get AX_PTSNAP_IV = code 1 ∧
      (t.ax n).get AX_PTSNAP_IW = code 2 ∧
      (∀ x : Phase, ((t.ax n).get AX_PTSNAP_VALID).testBit x.val =
        (decide (s.clk + 128 ≤ a.pt.start + max 1 (a.get AX_TICK_PERIOD)) && ok.getLsbD (q x).val)) ∧
      (t.ax n).get AX_PTSNAP_SHARED = (if (List.range a.pt.apertures.length).any (fun i =>
        decide (s.clk ≤ a.pt.t1 - 100 * i + 100 ∧ a.pt.t1 - 100 * i ≤ s.clk + 100)) = true then 1 else 0))) ∧
    (¬due ∨ tgt = 0 → Runs (.compare n k codes) s (fun t => t = s)) ∧
    (s.clk % 400000 = 0 → a.pt.window ≠ s.clk / 400000 → Runs (.switchingRateWindow n) s (fun t =>
      OnlyAxes s t ∧ OthersKept s t n ∧ (t.ax n).pt.highOns = 0 ∧ (t.ax n).pt.window = s.clk / 400000 ∧
      (t.ax n).get AX_PTSW_RATIO = (if ratio = 0 then 2 ^ 30
        else min (2 ^ 31 - 1) (roundDiv (a.pt.highOns * 1000 * 2 ^ 30 : Nat) (3 * ratio)).toNat))) ∧
    (s.clk % 400000 ≠ 0 ∨ a.pt.window = s.clk / 400000 → Runs (.switchingRateWindow n) s (fun t => t = s))

/-- WINDBREAK_TURN_ON confirms that the opposite gate is off: where that gate is on, or its VGS was found high, nothing happens; otherwise its fall is recorded, and a pending turn-on of the gate is issued (where the opposite one is not), WBMAX keeping the greatest wait in 10 ns up to 255, and the gate goes on where the mask and the overlap pass it. GATE_STUCK_ON with VGS still high, when WBTMO has passed since the turn-off of a gate that has not been confirmed low, latches STUCK once, counts, shows EV_TRIP and enters OASIS with cause 3 with the hold started and every gate off (in OASIS the state stays); VGS low records the fall, and a wanted turn-on of the opposite gate that waits for it is issued. GATE_STUCK_OFF on a gate that is on fails when VGS is not above the level at the end of WBTMO, or is below it for more than 100 ns later: a low side, or a high side at turn-on whose bootstrap is not low, latches STKOFF with the same effects; every other high side is a bootstrap low event. An overlap counts HB_CONFLICT and holds both gates of its half-bridge off while it lasts; one longer than 1 us enters OASIS with cause 4. A gate that is on is driven with the source current of its code: that of its last edge without a profile, and with one PRE, SLP and HLD in turn. -/
def Obligations.GateOutputs : Prop :=
  ∀ (n : Ax) (g : Gate) (p : Phase) (v : Nat) (s : State),
    let a := s.ax n
    let y := gatePartner g
    let fall := fun (x : Gate) (a : Axis) => { a with gd := { a.gd with
      vgs := a.gd.vgs &&& ~~~(gateBit x), low := a.gd.low ||| gateBit x, fallAt := if a.gd.low.getLsbD x.val then a.gd.fallAt else s.clk } }
    let blocked := a.gd.on.getLsbD y.val = true ∨ a.gd.vgs.getLsbD y.val = true
    let issues := a.gd.pend.getLsbD g.val = true ∧ a.gd.iss.getLsbD y.val = false
    let off := a.gd.on.getLsbD g.val = false
    let late := a.gd.edgeAt[g] + a.wbtmo g ≤ 32 * s.clk
    let stuck := fun (f : Fld) (t : State) => (t.ax n).get f = a.get f ||| 2 ^ g.val ∧ CountedAx s t n AX_CNT0_GATE_STUCK ∧
      LastFault t 3 n.val ∧ EventSeen s t n evTrip ∧ OthersKept s t n ∧
      (a.st ≠ .oasis → Faulted s t n 3 ∧ (t.ax n).gd.hold = some s.clk ∧ (t.ax n).gd.on = 0) ∧ (a.st = .oasis → (t.ax n).st = .oasis)
    let level := 1000 * (6 + a.get AX_GDCFG_VGSON)
    let fails1 := ¬off ∧ late ∧ v ≤ level
    let fails2 := ¬off ∧ a.gd.edgeAt[g] + 1280 < 32 * s.clk ∧ v < level
    let bst := g.val % 2 = 0 ∧ (a.get AX_GDSTAT_BSTLOW).testBit (gatePhase g).val = true
    let known := (a.get AX_GDSTAT_STKOFF).testBit g.val
    let lapped := a.gd.overlap.getLsbD p.val
    let pre := s.profTicks (a.get AX_GDCFG_PRET)
    let u := s.clk - a.gd.edgeAt[g] / 32
    (blocked → Runs (.windbreakTurnOn n g) s (fun t => t = s)) ∧
    (¬blocked → ¬issues → Runs (.windbreakTurnOn n g) s (fun t => OnlyAxes s t ∧ OthersKept s t n ∧ t.ax n = fall y a)) ∧
    (¬blocked → issues → Runs (.windbreakTurnOn n g) s (fun t => OnlyAxes s t ∧ OthersKept s t n ∧ (t.ax n).st = a.st ∧
      (t.ax n).gd.iss = a.gd.iss ||| gateBit g ∧ (t.ax n).gd.pend = a.gd.pend &&& ~~~(gateBit g) ∧
      (t.ax n).gd.on = (a.gd.iss ||| gateBit g) &&& s.passed n ∧ (t.ax n).gd.vgs = a.gd.vgs &&& ~~~(gateBit y) ∧
      (t.ax n).gd.low.getLsbD y.val = true ∧
      (t.ax n).get AX_GDSTAT_WBMAX = max (a.get AX_GDSTAT_WBMAX) (min 255 ((32 * s.clk - a.gd.pendAt[g]) / 128)))) ∧
    (¬off ∨ ¬late ∨ a.gd.low.getLsbD g.val = true → Runs (.gateStuckOn n g true) s (fun t => t = s)) ∧
    (¬off → Runs (.gateStuckOn n g false) s (fun t => t = s)) ∧
    (off → late → a.gd.low.getLsbD g.val = false → a.gd.stkOn.getLsbD g.val = true →
      Runs (.gateStuckOn n g true) s (fun t => OnlyAxes s t ∧ OthersKept s t n ∧
        t.ax n = { a with gd := { a.gd with vgs := a.gd.vgs ||| gateBit g } })) ∧
    (off → late → a.gd.low.getLsbD g.val = false → a.gd.stkOn.getLsbD g.val = false →
      Runs (.gateStuckOn n g true) s (fun t => stuck AX_GDSTAT_STUCK t ∧ (t.ax n).gd.vgs.getLsbD g.val = true ∧
        (t.ax n).gd.stkOn.getLsbD g.val = true)) ∧
    (off → Runs (.gateStuckOn n g false) s (fun t => OnlyAxes s t ∧ OthersKept s t n ∧ (t.ax n).st = a.st ∧
      (t.ax n).gd.vgs = a.gd.vgs &&& ~~~(gateBit g) ∧ (t.ax n).gd.fallAt = (fall g a).gd.fallAt ∧
      (a.gd.pend.getLsbD y.val = true → (s.wanted n).getLsbD y.val = true → (s.wanted n).getLsbD g.val = false →
        (t.ax n).gd.iss.getLsbD y.val = true ∧ (t.ax n).gd.pend.getLsbD y.val = false))) ∧
    (fails1 → bst → Runs (.gateStuckOff n g .first v) s (fun t => BstEvent s t n (gatePhase g))) ∧
    (fails1 → ¬bst → known = false → Runs (.gateStuckOff n g .first v) s (stuck AX_GDSTAT_STKOFF)) ∧
    (fails2 → g.val % 2 = 0 → Runs (.gateStuckOff n g .second v) s (fun t => BstEvent s t n (gatePhase g))) ∧
    (fails2 → g.val % 2 = 1 → known = false → Runs (.gateStuckOff n g .second v) s (stuck AX_GDSTAT_STKOFF)) ∧
    (¬fails1 ∨ (¬bst ∧ known = true) → Runs (.gateStuckOff n g .first v) s (fun t => t = s)) ∧
    (¬fails2 ∨ (g.val % 2 = 1 ∧ known = true) → Runs (.gateStuckOff n g .second v) s (fun t => t = s)) ∧
    (lapped = false → Runs (.hbConflict n p true) s (fun t =>
      (t.ax n).gd.overlap = a.gd.overlap ||| phaseBit p ∧ (t.ax n).gd.overlapAt = a.gd.overlapAt.set p.val s.clk p.isLt ∧
      CountedAx s t n AX_CNT0_HB_CONFLICT ∧ (t.ax n).gd.on.getLsbD (highGate p).val = false ∧
      (t.ax n).gd.on.getLsbD (lowGate p).val = false ∧ (t.ax n).st = a.st ∧ OthersKept s t n)) ∧
    (lapped = true → Runs (.hbConflict n p true) s (fun t => t = s)) ∧
    (Runs (.hbConflict n p false) s (fun t => OnlyAxes s t ∧ OthersKept s t n ∧ (t.ax n).st = a.st ∧
      (t.ax n).gd.overlap = a.gd.overlap &&& ~~~(phaseBit p))) ∧
    (lapped = true → a.gd.overlapAt[p] + usTicks < s.clk → Runs (.hbConflictTimeout n p) s (fun t => LastFault t 4 n.val ∧ OthersKept s t n ∧
      (a.st ≠ .oasis → Faulted s t n 4) ∧ (a.st = .oasis → t.ax n = a))) ∧
    (lapped = false ∨ s.clk ≤ a.gd.overlapAt[p] + usTicks → Runs (.hbConflictTimeout n p) s (fun t => t = s)) ∧
    (¬off → s.gateDrive n g = (true, sourceMa (
      if a.get AX_GDCFG_PROF = 0 then (if g.val % 2 = 0 then (AX_GDBAND_HSRC 0).get a.gd.drv[g] else (AX_GDBAND_LSRC 0).get a.gd.drv[g])
      else if u < pre then (AX_GDBAND_PRE 0).get a.gd.drv[g]
      else if u < pre + s.profTicks (a.get AX_GDCFG_SLPT) then (AX_GDBAND_SLP 0).get a.gd.drv[g]
      else (AX_GDBAND_HLD 0).get a.gd.drv[g])))

/-- DESAT of a FET that is on, past its blanking and filter and above its VDS threshold, OC_TRIP of a phase whose channel sees the current (the block level outside the blanking, the hard level at once), and a TRIP pin that the axis enables, past its filter and blanking, each set their latch once, count, show EV_TRIP and enter OASIS with cause 2, 1 and 1, the hold started and every gate off; in OASIS every gate goes off for good. Short of these conditions DESAT changes nothing, OC_TRIP only keeps whether the current is above the level, and TRIP_PIN only the level of the pin and its instant. SAFE_N low enters OASIS with cause 0x3E on every axis; high again takes none out. A gate-supply undervoltage counts once and enters OASIS with cause 6 on every axis, all gates off, until its release, which changes no state. A bootstrap reading below 5 V + 250 mV BSTUV sets BSTLOW, and is a low event while the high side is commanded on; one above that by more than 300 mV clears it. The hold ends OASHOLD us after its start. In OASIS under ASC_AUTO, with no hold, after AUTOWIN ms and with every terminal voltage seen below 25 mV SCEMF line to line, the short applies. -/
def Obligations.TripsAndSafe : Prop :=
  ∀ (n : Ax) (g : Gate) (p : Phase) (k : Chan) (v : Nat) (uv : Int) (hard : Bool) (terms : List Terminals) (s : State),
    let a := s.ax n
    let tripped := fun (cause : Nat) (cnt f : Fld) (bit : Nat) (t : State) => (t.ax n).get f = a.get f ||| 2 ^ bit ∧ CountedAx s t n cnt ∧
      LastFault t cause n.val ∧ EventSeen s t n evTrip ∧ (t.ax n).gd.on = 0 ∧
      (a.st ≠ .oasis → Faulted s t n cause ∧ (t.ax n).gd.hold = some s.clk) ∧
      (a.st = .oasis → (t.ax n).st = .oasis ∧ (t.ax n).gd.tripInOasis = true)
    let vds := 100 + 100 * (if g.val % 2 = 0 then a.get AX_GDVDS_VDSTHH else a.get AX_GDVDS_VDSTHL)
    let desat := a.get AX_GDVDS_VDSEN = 1 ∧ a.gd.on.getLsbD g.val = true ∧ (a.get AX_GDSTAT_DESATG).testBit g.val = false ∧
      a.gd.edgeAt[g] + 128 * (a.get AX_GDVDS_VDSBLK + a.get AX_GDVDS_VDSFLT) ≤ 32 * s.clk ∧ vds < v
    let clear := a.lastEdge + 128 * a.get AX_GDTRIP_TRBLK ≤ 32 * s.clk
    let sees := a.get AX_SNSCFG_MODE = 1 ∨ a.gd.on.getLsbD (lowGate p).val = true
    let oc := if hard then AX_GDSTAT_OCH else AX_GDSTAT_OCB
    let over1 := sees ∧ a.ampAbove (a.get AX_GDTRIP_OCLVL) 14 uv = true
    let ocNow := if over1 then a.gd.ocNow ||| phaseBit p else a.gd.ocNow &&& ~~~(phaseBit p)
    let acts := (a.get oc).testBit p.val = false ∧
      (if hard then sees ∧ a.ampAbove (a.get AX_GDTRIP_OCHARD) 14 uv = true else over1 ∧ clear)
    let enabled := (a.get AX_GDTRIP_TPEN).testBit k.val = true ∧ (a.get AX_GDSTAT_TPIN).testBit k.val = false ∧
      ((a.get AX_GDTRIP_TPBLK).testBit k.val = false ∨ clear)
    let was := s.pins.trip.getLsbD k.val
    let bit : BitVec 4 := (1 : BitVec 4) <<< k.val
    let pins := fun (x : BitVec 4) => { s.pins with trip := x, tripAt := s.pins.tripAt.set k.val s.clk k.isLt }
    let th := 5000 + 250 * a.get AX_GDCFG_BSTUV
    let low := a.get AX_GDSTAT_BSTLOW
    let sub := fun (t : State) => (t.ax n).gd.bstSub.getLsbD p.val = decide (v ≤ th + 300)
    let held := match a.gd.hold with | some x => decide (s.clk < x + a.get AX_OASIS_OASHOLD * usTicks) | none => true
    let short := a.st = .oasis ∧ s.oasisOpt n = 3 ∧ a.gd.hold = none ∧ a.since + a.get AX_OASIS_AUTOWIN * msTicks ≤ s.clk ∧
      terms ≠ [] ∧ keptMax terms < 25 * a.get AX_OASIS_SCEMF
    (desat → Runs (.desat n g v) s (fun t => tripped 2 AX_CNT0_DESAT AX_GDSTAT_DESATG g.val t ∧ OthersKept s t n)) ∧
    (¬desat → Runs (.desat n g v) s (fun t => t = s)) ∧
    (acts → Runs (.ocTrip n p hard uv) s (fun t => tripped 1 AX_CNT0_OC_TRIP oc p.val t ∧ OthersKept s t n ∧ (t.ax n).gd.ocNow = ocNow)) ∧
    (¬acts → Runs (.ocTrip n p hard uv) s (fun t => OnlyAxes s t ∧ OthersKept s t n ∧ t.ax n = { a with gd := { a.gd with ocNow := ocNow } })) ∧
    (∀ b : Bool, was = b → Runs (.tripPin k b) s (fun t => t = s)) ∧
    (was = false → enabled → a.get AX_GDTRIP_TPFLT = 0 → Runs (.tripPin k true) s (fun t => t.pins = pins (s.pins.trip ||| bit) ∧
      ((t.ax n).get AX_GDSTAT_TPIN).testBit k.val = true ∧ (t.ax n).st = .oasis ∧ (t.ax n).gd.on = 0)) ∧
    (was = false → s.pins.trip = 0 → a.get AX_GDTRIP_TPFLT ≠ 0 ∨ ¬enabled → Runs (.tripPin k true) s (fun t =>
      t.pins = pins bit ∧ t.ax n = a)) ∧
    (was = true → s.pins.trip = bit → Runs (.tripPin k false) s (fun t => t = { s with pins := pins 0 })) ∧
    (was = true → Runs (.tripPin k false) s (fun t => t.pins = pins (s.pins.trip &&& ~~~bit))) ∧
    (was = true → enabled → s.pins.tripAt[k] + 40 * a.get AX_GDTRIP_TPFLT ≤ s.clk →
      tripped 1 AX_CNT0_OC_TRIP AX_GDSTAT_TPIN k.val (s.tripByPin n k) ∧ OthersKept s (s.tripByPin n k) n) ∧
    (Runs (.safeN true) s (fun t => t.pins = { s.pins with safeLow := true } ∧
      (a.st ≠ .oasis → Faulted s t n 0x3E) ∧ (a.st = .oasis → t.ax n = a))) ∧
    (Runs (.safeN false) s (fun t => t = { s with pins := { s.pins with safeLow := false } })) ∧
    (s.pins.vgdUv = false → Runs (.vgdUv) s (fun t => t.pins = { s.pins with vgdUv := true, vgdLow := true } ∧
      CountedDev s t FAULT_DCNT0_VGD_UV ∧ LastFault t 6 unitDev ∧ (t.ax n).st = .oasis ∧ (t.ax n).gd.on = 0 ∧
      (a.st ≠ .oasis → Faulted s t n 6))) ∧
    (s.pins.vgdUv = true → Runs (.vgdUv) s (fun t => t = s)) ∧
    (Runs (.vgdUvRelease) s (fun t => t = { s with pins := { s.pins with vgdUv := false, vgdHeld := false, vgdLow := false }, axes := t.axes } ∧
      StatesKept s t ∧ (t.ax n).regs = a.regs)) ∧
    (v < th → a.highWanted p = true → Runs (.bstUv n p v) s (fun t => BstEvent s t n p ∧ (t.ax n).get AX_GDSTAT_BSTLOW = low ||| 2 ^ p.val ∧ sub t)) ∧
    (th ≤ v ∨ a.highWanted p = false → Runs (.bstUv n p v) s (fun t => OnlyAxes s t ∧ OthersKept s t n ∧ (t.ax n).st = a.st ∧
      (t.ax n).gd.on = a.gd.on ∧ sub t ∧
      (t.ax n).get AX_GDSTAT_BSTLOW = (if v < th then low ||| 2 ^ p.val else if th + 300 < v then low - (low &&& 2 ^ p.val) else low))) ∧
    (held = false → Runs (.oasholdExpiry n) s (fun t => OnlyAxes s t ∧ OthersKept s t n ∧ (t.ax n).gd.hold = none ∧ (t.ax n).st = a.st ∧
      (t.ax n).regs = a.regs)) ∧
    (held = true → Runs (.oasholdExpiry n) s (fun t => t = s)) ∧
    (short → Runs (.ascAutoShort n terms) s (fun t => OnlyAxes s t ∧ OthersKept s t n ∧ (t.ax n).gd.autoShort = true ∧ (t.ax n).st = .oasis ∧
      (s.heldOff n = false → t.wanted n = shortGates (a.shortSide false)))) ∧
    (¬short → Runs (.ascAutoShort n terms) s (fun t => t = s))

/-- For the engine e that serves axis n and is ACTIVE with a tick running: ENG_MISMATCH, ENGINE_OVERRUN at WCET + 16 cycles (the passed cycles of a WAIT counted), and the fetch of an unlisted opcode retire e, discard the tick and its commit buffer, count ENG_MISMATCH and raise a need for a spare with the cause (1, 2, 4), or detect the fault and enter OASIS with cause 25 when the pool has none; a disagreement in the checkpoint copy before the first instruction (cause 3) always enters OASIS with cause 25. Without such an engine and tick, before the overrun, after the first instruction, or on a listed opcode, each of them changes nothing. -/
def Obligations.EngineStops : Prop :=
  ∀ (n : Ax) (e : Eng) (s : State),
    let r := (s.ax n).run
    let c := r.cyc + (match r.wait with | some (_, w, t0) => min w (s.clk - t0) | none => 0)
    let lim := s.aget n AX_WCET_WCET + 16
    let runs := (s.ax n).engine = some e ∧ (s.eng e).pool = .active ∧ r.running = true
    let stands := (s.ax n).engine = none ∨ ((s.ax n).engine = some e ∧ ((s.eng e).pool ≠ .active ∨ r.running = false))
    let listed := listedOpcode (opcOf ((s.ax n).pword (s.eng e).core.pc.toNat))
    (runs → Runs (.engMismatch n) s (fun t => EngineLost s t n e 1)) ∧
    (runs → lim ≤ c → Runs (.engineOverrun n) s (fun t => EngineLost s t n e 2)) ∧
    (runs → r.seq = 0 → Runs (.checkpointCopyMismatch n) s (fun t => EngineLost s t n e 3)) ∧
    (s.ready n = some e → listed = false → Runs (.illegalOpcodeFetch n) s (fun t => EngineLost s t n e 4)) ∧
    (stands → Runs (.engMismatch n) s (fun t => t = s)) ∧
    (stands ∨ c < lim → Runs (.engineOverrun n) s (fun t => t = s)) ∧
    (stands ∨ r.seq ≠ 0 → Runs (.checkpointCopyMismatch n) s (fun t => t = s)) ∧
    (s.ready n = none ∨ (s.ready n = some e ∧ listed = true) → Runs (.illegalOpcodeFetch n) s (fun t => t = s))

/-- A spare that no axis has chosen takes the self-test when PERIOD ms have passed and it is its turn; a pass returns it to SPARE, a failure retires it, counts ENG_MISMATCH with the unit 16 + e and takes it from the axes that had chosen it; no other engine, no axis and no register changes on the way. An uncorrectable word of a bank of a program not yet withdrawn withdraws it (WCET 0), counts, and enters OASIS with cause 28, and the engine's own read ends its tick; one of the shared page zeroes the segment and does the same to its axis, one of the staging memory loses its record, and one of the system controller's memory is its restart; a withdrawn program changes nothing. The scrubber takes the next word of a memory only when it is due, and passes over a withdrawn program; a single-bit error counts MEM_CORRECTED for the axis or the device, an uncorrectable one is handled as such, and every other read does the same at any instant without moving the scrubber. SYSTEM_CONTROLLER_RESTART sets the device latch, detects the fault, puts the axes in migration in OASIS without an engine and stops command starts; its end completes every command in flight FAILED_DEVICE_FAULT. -/
def Obligations.PoolAndMemories : Prop :=
  ∀ (e : Eng) (n : Ax) (m : MemId) (w : W16) (b : Bool) (x : Ecc) (s : State),
    let a := s.ax n
    let other := allEng.any (fun g => g != e && s.freeSpare .spare g)
    let due := s.freeSpare .spare e = true ∧ s.pool.testAt + s.dget ENGINE_STCTL_PERIOD * msTicks ≤ s.clk ∧
      ¬(s.pool.lastTest = some e ∧ other = true)
    let engines := fun (t : State) => ∀ d : Eng, d ≠ e → t.eng d = s.eng d
    let seg : Ax := ⟨w.toNat / 64 % 8, by omega⟩
    let bank := m = .p n ∨ m = .d n
    let badBank := fun (own : Bool) (detail : Nat) (t : State) => (t.ax n).withdrawn = true ∧ (t.ax n).get AX_WCET_WCET = 0 ∧
      CountedAx s t n AX_CNT3_MEM_UNCORRECTABLE ∧ LastFault t 28 n.val ∧ t.dget FAULT_LAST_DETAIL = detail % 2 ^ 16 ∧ OthersKept s t n ∧
      (a.st ≠ .oasis → Faulted s t n 28) ∧ (a.st = .oasis → (t.ax n).st = .oasis) ∧
      (own = true → (t.ax n).run.running = false) ∧ (own = false → (t.ax n).run = a.run)
    let corrected := fun (t : State) => (bank → CountedAx s t n AX_CNT4_MEM_CORRECTED ∧ OthersKept s t n) ∧
      (m = .shared ∨ m = .staging ∨ m = .sysctl → CountedDev s t FAULT_DCNT2_MEM_CORRECTED ∧ t.axes = s.axes)
    let moved := fun (t : State) => t.pool.scrub = s.pool.scrub.set (memPlace m).1.val (s.scrubCount m + 1) (memPlace m).1.isLt
    let word := s.scrubCount m % (memPlace m).2
    let detail := fun (x : Nat) => if m = .p n then x + 2 ^ 13 else x
    let restarted := fun (memory : Bool) (t : State) => t.pool.restart = true ∧ t.dget FAULT_FNCTL_DEVLATCH = 1 ∧ t.pool.needs = [] ∧
      LastFault t 25 unitSys ∧ CountedDev s t FAULT_DCNT2_ENG_MISMATCH ∧ (memory = true → CountedDev s t FAULT_DCNT2_MEM_UNCORRECTABLE) ∧
      ((s.pool.needs.any (fun x => x.axis == n)) = true → (t.ax n).st = .oasis ∧ (t.ax n).engine = none) ∧
      ((s.pool.needs.any (fun x => x.axis == n)) = false → t.ax n = a)
    (due → Runs (.selftest e) s (fun t => t = { s with engines := t.engines, pool := t.pool } ∧ engines t ∧
      t.eng e = { s.eng e with pool := .selftest } ∧ t.pool = { s.pool with lastTest := some e, testAt := s.clk })) ∧
    (¬due → Runs (.selftest e) s (fun t => t = s)) ∧
    ((s.eng e).pool = .selftest → Runs (.selftestEnd e true) s (fun t => t = { s with engines := t.engines } ∧ engines t ∧
      t.eng e = { s.eng e with pool := .spare })) ∧
    ((s.eng e).pool = .selftest → Runs (.selftestEnd e false) s (fun t => engines t ∧ t.axes = s.axes ∧
      t.eng e = { s.eng e with pool := .retired } ∧ LastFault t 25 (16 + e.val) ∧ CountedDev s t FAULT_DCNT2_ENG_MISMATCH ∧
      t.pool = { s.pool with needs := s.pool.needs.map (fun x => if x.chosen = some e then { x with chosen := none } else x) })) ∧
    ((s.eng e).pool ≠ .selftest → Runs (.selftestEnd e b) s (fun t => t = s)) ∧
    (bank → a.withdrawn = false → Runs (.memUncorrectable m w b) s (badBank (b && a.run.running) (detail w.toNat))) ∧
    (bank → a.withdrawn = true → Runs (.memUncorrectable m w b) s (fun t => t = s)) ∧
    (Runs (.memUncorrectable .shared w b) s (fun t => t.shared = s.shared.filter (fun x => x.1 / 64 != seg.val) ∧
      CountedAx s t seg AX_CNT3_MEM_UNCORRECTABLE ∧ LastFault t 28 seg.val ∧ OthersKept s t seg ∧
      ((s.ax seg).st ≠ .oasis → Faulted s t seg 28) ∧ ((s.ax seg).st = .oasis → (t.ax seg).st = .oasis))) ∧
    (w.toNat / 4 < s.store.stage.length → Runs (.memUncorrectable .staging w b) s (fun t =>
      t.store.stage = s.store.stage.eraseIdx (w.toNat / 4) ∧ CountedDev s t FAULT_DCNT2_MEM_UNCORRECTABLE ∧ LastFault t 28 unitDev ∧
      t.axes = s.axes)) ∧
    (s.store.stage.length ≤ w.toNat / 4 → Runs (.memUncorrectable .staging w b) s (fun t => t = s)) ∧
    (Runs (.memUncorrectable .sysctl w b) s (restarted true)) ∧
    (s.scrubDue m = false → Runs (.scrubRead m none x) s (fun t => t = s)) ∧
    (s.scrubDue m = true → Runs (.scrubRead m none .clean) s (fun t => t = { s with pool := t.pool } ∧ moved t)) ∧
    (s.scrubDue m = true → s.scrubbed m = false → Runs (.scrubRead m none x) s (fun t => t = { s with pool := t.pool } ∧ moved t)) ∧
    (s.scrubDue m = true → s.scrubbed m = true → Runs (.scrubRead m none .single) s (fun t => corrected t ∧ moved t)) ∧
    (s.scrubDue m = true → bank → a.withdrawn = false → Runs (.scrubRead m none .uncorrectable) s (fun t => badBank false (detail word) t ∧ moved t)) ∧
    (Runs (.scrubRead m (some w) .clean) s (fun t => t = s)) ∧
    (Runs (.scrubRead m (some w) .single) s (fun t => corrected t ∧ t.pool = s.pool)) ∧
    (Runs (.scrubRead m (some w) .uncorrectable) s (fun t => Runs (.memUncorrectable m w false) s (fun u => u = t))) ∧
    (s.scrubDue m = true → s.scrubbed m = true → word < 2 ^ 16 → Runs (.scrubRead m none .uncorrectable) s (fun t =>
      Runs (.memUncorrectable m (BitVec.ofNat 16 word) false) (s.scrubOn m) (fun u => u = t))) ∧
    (Runs (.systemControllerRestart b) s (restarted b)) ∧
    (s.pool.restart = true → Runs .systemControllerRestartEnd s (fun t => t.pool.restart = false ∧
      (∀ p : Port, (t.port p).cmds = []) ∧
      (s.load = none → s.stream = none → ∀ p : Port, (t.port p).ring.map (fun x => (x.tag, x.status)) =
        (s.port p).ring.map (fun x => (x.tag, x.status)) ++ (s.port p).cmds.map (fun c => (c.tag, stDeviceFault))))) ∧
    (s.pool.restart = false → Runs .systemControllerRestartEnd s (fun t => t = s))

/-- A bus comparator whose level the voltage passes (above OV1, OV2, OV3, below UV1, UV2) sets its bit, counts, reports the voltage with the derate KBUS of R246 and shows EV_BUS to every axis of the bus; one already set, or a voltage short of the level, changes nothing. OV1 starts a chopper period, and OV1 without a healthy chopper, or OV2, sets NEGINH and makes every regenerating axis of a running unfrozen island take a zero vector for the rest of its DTC segment or carrier period. OV3 enters OASIS with cause 10 on every axis of the bus. UV2 stops every live axis of the bus: at its next boundary where ticks run, at once where none does. A release beyond the hysteresis clears the bit, and that of OV1 ends the escalation outputs, RUN and STARTING going to CATCH at their next boundary, or at once without ticks. ESCALATION, once OV1 has stood for ESCDLY over a regenerating axis outside OASIS with a faulty chopper, turns the gates off, or shorts once the terminal voltages seen lie below SCEMF; otherwise it changes nothing. No axis of the other bus changes. -/
def Obligations.BusComparators : Prop :=
  ∀ (x : Bus) (v : BitVec 10) (n : Ax) (thr : BusThr) (terms : List Terminals) (s : State),
    let a := s.ax n
    let r := a.pt.loaded.getD Req.none
    let here := OnBus s x n
    let set := fun (i : Instr) (f c : Fld) (passed : Prop) (P : State → Prop) =>
      (s.dget f = 0 → passed → Runs i s (fun t => ThresholdSet s t x f c v ∧ (here → EventSeen s t n evBus) ∧ (¬here → t.ax n = a) ∧
        t.clk = s.clk ∧ t.pending = s.pending ∧ P t)) ∧
      (s.dget f = 1 ∨ ¬passed → Runs i s (fun t => t = s))
    let zero := here ∧ s.ov2Behaviour x = false ∧ s.regenerating n = true ∧ a.get AX_PTSTAT_FROZEN = 0 ∧ s.ptIsl n = islRun
    let zeroed := fun (t : State) => t.dget (BUS_STAT_NEGINH x.val) = 1 ∧ (t.ax n).st = a.st ∧
      (zero → r.mode = 0 → 32 * s.clk < a.pt.activeEnd → (t.ax n).pt.activeEnd = 32 * s.clk) ∧
      (zero → r.mode ≠ 0 → (a.pt.hold.any (fun h => h.ov.isSome && decide (32 * s.clk < h.stop))) = false →
        (t.ax n).pt.hold.map (fun h => (h.ov, h.stop)) =
          some (some (BitVec.ofNat 3 (zeroVec (a.get AX_PTCFG_ZFILL))), a.carrierEnd (32 * s.clk)))
    let ticks := s.ticks n
    let live := a.st = .starting ∨ a.st = .running
    let oh := s.dget (BUS_OV_OVHYS x.val)
    let uh := s.dget (BUS_UV_UVHYS x.val)
    let gone := match thr with
      | .ov1 => decide (v.toNat + oh < s.dget (BUS_OV_OV1 x.val)) | .ov2 => decide (v.toNat + oh < s.dget (BUS_OV_OV2 x.val))
      | .ov3 => decide (v.toNat + oh < s.dget (BUS_OV_OV3 x.val)) | .uv1 => decide (s.dget (BUS_UV_UV1 x.val) + uh < v.toNat)
      | .uv2 => decide (s.dget (BUS_UV_UV2 x.val) + uh < v.toNat)
    let ends := thr = .ov1 ∧ here ∧ a.gd.esc = true
    let y := s.busOf n
    let stood := match a.sense.regAt with | some t0 => decide (t0 + s.dget (BUS_ESC_ESCDLY y.val) * usTicks ≤ s.clk) | none => false
    let due := s.dget (BUS_STAT_OV1 y.val) = 1 ∧ a.st ≠ .oasis ∧ (a.gd.esc = true ∨ (s.chopperBad y = true ∧ stood = true))
    let short := a.gd.escShort = true ∨ (terms ≠ [] ∧ keptMax terms < 25 * a.get AX_OASIS_SCEMF)
    (set (.busOv1 x v) (BUS_STAT_OV1 x.val) (FAULT_BUS0_BUS_OV1 x.val) (s.dget (BUS_OV_OV1 x.val) < v.toNat) (fun t =>
      (t.ax n).st = a.st ∧ (t.bus x).perAt = s.clk ∧ t.dget (BUS_STAT_BRKON x.val) = (if t.chopperOn x ∨ t.testing x then 1 else 0) ∧
      (s.chopperBad x = true → zeroed t) ∧
      (s.chopperBad x = false → t.dget (BUS_STAT_NEGINH x.val) = s.dget (BUS_STAT_OV2 x.val)))) ∧
    (set (.busOv2 x v) (BUS_STAT_OV2 x.val) (FAULT_BUS0_BUS_OV2 x.val) (s.dget (BUS_OV_OV2 x.val) < v.toNat) zeroed) ∧
    (set (.busOv3 x v) (BUS_STAT_OV3 x.val) (FAULT_BUS0_BUS_OV3 x.val) (s.dget (BUS_OV_OV3 x.val) < v.toNat) (fun t =>
      LastFault t 10 (8 + x.val) ∧ (here → a.st ≠ .oasis → Faulted s t n 10) ∧ (a.st = .oasis → (t.ax n).st = .oasis))) ∧
    (set (.busUv1 x v) (BUS_STAT_UV1 x.val) (FAULT_BUS0_BUS_UV1 x.val) (v.toNat < s.dget (BUS_UV_UV1 x.val)) (fun t => (t.ax n).st = a.st)) ∧
    (set (.busUv2 x v) (BUS_STAT_UV2 x.val) (FAULT_BUS1_BUS_UV2 x.val) (v.toNat < s.dget (BUS_UV_UV2 x.val)) (fun t =>
      (here → ticks = true → (t.ax n).uv2Req = true ∧ (t.ax n).st = a.st) ∧
      (here → ticks = false → (t.ax n).st = (if a.st = .arming then .disarm else if live ∨ a.st = .catching then .decel else a.st)))) ∧
    (s.dget (thrFld x thr) = 1 → gone = true → Runs (.busThresholdRelease x thr v) s (fun t => t.dget (thrFld x thr) = 0 ∧
      t.dget (BUS_STAT_VBUS x.val) = 4 * v.toNat ∧ t.dget (BUS_STAT_KBUS x.val) = s.kbus x (4 * v.toNat) ∧
      (here → EventSeen s t n evBus) ∧ (¬here → t.ax n = a) ∧ t.clk = s.clk ∧ t.pending = s.pending ∧
      (ends → (t.ax n).gd.esc = false ∧ (live → ticks = true → (t.ax n).escExit = true ∧ (t.ax n).st = a.st) ∧
        (live → ticks = false → (t.ax n).st = .catching) ∧ (¬live → (t.ax n).st = a.st)) ∧
      (¬ends → (t.ax n).st = a.st ∧ (t.ax n).gd.esc = a.gd.esc))) ∧
    (s.dget (thrFld x thr) = 0 ∨ gone = false → Runs (.busThresholdRelease x thr v) s (fun t => t = s)) ∧
    (due → Runs (.escalation n terms) s (fun t => OnlyAxes s t ∧ OthersKept s t n ∧ (t.ax n).gd.esc = true ∧ (t.ax n).st = a.st ∧
      (t.ax n).gd.escShort = decide short ∧ (¬short → (t.ax n).gd.on = 0) ∧
      (short → s.heldOff n = false → t.wanted n = shortGates (a.shortSide false)))) ∧
    (¬due → Runs (.escalation n terms) s (fun t => t = s))

/-- BRAKE_CHOPPER_PERIOD evaluates a chopper period that is over, once: on beyond BLK with the current below ITH counts as open, off beyond BLK with the current above ITH as shorted, and anything else restarts that count; two in a row latch BRK_FAULT, open before shorted. BRAKE_TEST evaluates a test pulse that has ended, once, as one such period, and two failing tests in a row latch the fault. A fault latches once: BRKFLT, BRK_FAULT counted, the fault detected, EV_BUS on the axes of the bus, and NEGINH with OV1 or OV2 set. Without a period or pulse to evaluate nothing changes. No axis changes state and none of the other bus changes. -/
def Obligations.BrakeEvents : Prop :=
  ∀ (x : Bus) (n : Ax) (on off e : Nat) (s : State),
    let b := s.bus x
    let ith := 2 * s.dget (BUS_BRK_ITH x.val)
    let opn := if b.past.any (fun z => z.1) = true ∧ on < ith then b.openRun + 1 else 0
    let sht := if b.past.any (fun z => z.2) = true ∧ ith < off then b.shortRun + 1 else 0
    let bopen := 4 * s.dget (BUS_BRK_BLK x.val) < 2 * usTicks ∧ on < ith
    let run := if bopen ∨ ith < off then b.testRun + 1 else 0
    let failed := fun (kind : Nat) (t : State) => (b.fault = true → t = { s with buses := t.buses } ∧ (t.bus x).fault = true) ∧
      (b.fault = false → (t.bus x).fault = true ∧ t.dget (BUS_STAT_BRKFLT x.val) = kind ∧ LastFault t 13 (8 + x.val) ∧
        CountedDev s t (FAULT_BUS1_BRK_FAULT x.val) ∧
        t.dget (BUS_STAT_NEGINH x.val) = (if s.dget (BUS_STAT_OV1 x.val) = 1 ∨ s.dget (BUS_STAT_OV2 x.val) = 1 then 1 else 0) ∧
        (t.ax n).st = (s.ax n).st ∧ (OnBus s x n → EventSeen s t n evBus) ∧ (¬OnBus s x n → t.ax n = s.ax n))
    let kept := fun (t : State) => t = { s with buses := t.buses } ∧ (t.bus x).fault = b.fault
    let other := fun (t : State) => ∀ z : Bus, z ≠ x → t.bus z = s.bus z
    (b.past = none → Runs (.brakeChopperPeriod x on off) s (fun t => t = s)) ∧
    (b.past ≠ none → Runs (.brakeChopperPeriod x on off) s (fun t => (t.bus x).past = none ∧ other t ∧
      (t.bus x).openRun = opn ∧ (t.bus x).shortRun = sht ∧
      (2 ≤ opn → failed 1 t) ∧ (opn < 2 → 2 ≤ sht → failed 2 t) ∧ (opn < 2 → sht < 2 → kept t))) ∧
    (b.pulse = none ∨ (b.pulse = some e ∧ s.clk < e) → Runs (.brakeTest x on off) s (fun t => t = s)) ∧
    (b.pulse = some e → e ≤ s.clk → Runs (.brakeTest x on off) s (fun t => (t.bus x).pulse = none ∧ other t ∧
      (t.bus x).testRun = run ∧ (2 ≤ run → failed (if bopen then 1 else 2) t) ∧ (run < 2 → kept t)))

/-- THERM_READING, 100 us or more after the last one, stores the twelve on-die temperatures, the eight NTC codes with their converted temperatures and the two bus voltages with their derates; the effective value of a sensor neither suspect nor broken is its reading; each axis takes the band that its driver sensor gives with the 4 C hysteresis; KTH of every axis is formed, never above 1.0; no axis changes state unless the reading sets the thermal latch, which takes TIME and puts every axis in OASIS with cause 23. Before 100 us nothing changes. One sensor by its level alone, with no history, gives 1.0 up to THR, FLOOR from FULL, and the line between in between. A sensor suspect for 10 ms is declared broken: BAD, no longer suspect, TEMP_SENSOR_BAD counted. An enabled NTC whose code has stood at a limit for 10 ms is declared open or shorted and counted, once; a declared one back within range for 10 ms is released. Short of that these commands change nothing, and none of them touches an axis. -/
def Obligations.ThermalEvents : Prop :=
  ∀ (ts : Vector (BitVec 16) 12) (ntc : Vector (BitVec 12) 8) (x : Aux) (i : Fin 12) (k : Ax) (y : Bus) (short : Bool) (z : Sensor) (floor : Nat) (lvl rat : W64) (e : Int) (s : State),
    let due := match s.therm.at_ with | some t => decide (t + 100 * usTicks ≤ s.clk) | none => true
    let mv := x.vbus[y].toNat % 4096
    let cfg := s.dreg THERM_NTCCFG
    let thr : Int := 8 * (THERM_LVL_THR 0).get lvl
    let full : Int := 8 * (THERM_LVL_FULL 0).get lvl
    let j := judge z floor lvl rat e true
    let long := fun (q : Sensor) => match q.since with | some t => decide (t + tenMs ≤ s.clk) | none => false
    let broken := s.tsSusp i.val = true ∧ long s.therm.ts[i] = true
    let code := s.dget (THERM_NTC_CODE k.val)
    let limit := s.ntcOn k.val = true ∧ s.ntcDeclared k.val = false ∧ (if short then code ≤ 25 else 4070 ≤ code) ∧ long s.therm.ntc[k] = true
    let back := s.ntcDeclared k.val = true ∧ 25 < code ∧ code < 4070 ∧ long s.therm.ntc[k] = true
    (due = true → Runs (.thermReading ts ntc x) s (fun t =>
      t.dget (THERM_TS_MEAS i.val) = ts[i].toNat ∧ t.dget (THERM_NTC_CODE k.val) = ntc[k].toNat ∧
      t.dget (THERM_NTC_MEAS k.val) = (ntcTemp ntc[k].toNat (THERM_NTCCFG_R25.get cfg) (THERM_NTCCFG_BETA.get cfg)).toNat ∧
      t.dget (BUS_STAT_VBUS y.val) = mv ∧ t.dget (BUS_STAT_KBUS y.val) = s.kbus y mv ∧
      (t.tsBad i.val = false → t.tsSusp i.val = false → t.tsEff i.val = ts[i].toInt) ∧
      t.axBand k = bandOf (!s.therm.first) (s.axBand k) (t.tsEff (4 + k.val)) ∧
      t.aget k AX_TLSTAT_KTH ≤ 0x8000 ∧ t.therm.first = true ∧ t.therm.at_ = some s.clk ∧ t.clk = s.clk ∧ t.pending = s.pending ∧
      (t.dget THERM_STAT_SHUT = s.dget THERM_STAT_SHUT → (t.ax k).st = (s.ax k).st) ∧
      (t.dget THERM_STAT_SHUT ≠ s.dget THERM_STAT_SHUT → t.dget THERM_STAT_SHUT = 1 ∧ t.dreg THERM_SHTIME = s.time ∧
        LastFault t 23 unitDev ∧ CountedDev s t FAULT_DCNT1_TEMP_SHUTDOWN ∧ (t.ax k).st = .oasis ∧
        ((s.ax k).st ≠ .oasis → (t.ax k).get AX_STATE_CAUSE = 23 ∧ (t.ax k).reg AX_OASTIME = s.time)))) ∧
    (due = false → Runs (.thermReading ts ntc x) s (fun t => t = s)) ∧
    ((THERM_RATE_MODE 0).get rat = 0 → z.held = none →
      (e ≤ thr → j.factor = 0x8000) ∧ (thr < e → full ≤ e → j.factor = min floor 0x8000) ∧
      (thr < e → e < full → j.factor =
        min (roundDiv (0x8000 * (full - thr) - (0x8000 - (floor : Int)) * (e - thr)) (full - thr).toNat).toNat 0x8000) ∧
      j.shut = decide ((8 * (THERM_LVL_SHUT 0).get lvl : Nat) ≤ e)) ∧
    (broken → Runs (.tempSensorBad i) s (fun t => t.dget (THERM_TS_BAD i.val) = 1 ∧ t.dget (THERM_TS_SUSP i.val) = 0 ∧
      t.dget THERM_STAT_BAD = s.dget THERM_STAT_BAD ||| 2 ^ i.val ∧ CountedDev s t FAULT_DCNT1_TEMP_SENSOR_BAD ∧ t.axes = s.axes)) ∧
    (¬broken → Runs (.tempSensorBad i) s (fun t => t = s)) ∧
    (limit → Runs (.ntcOpenShort k short) s (fun t => CountedDev s t FAULT_DCNT1_TEMP_SENSOR_BAD ∧ t.axes = s.axes ∧
      t.dget (THERM_NTC_OPEN k.val) = (if short then 0 else 1) ∧ t.dget (THERM_NTC_SHORT k.val) = (if short then 1 else 0))) ∧
    (¬limit → Runs (.ntcOpenShort k short) s (fun t => t = s)) ∧
    (back → Runs (.ntcDeclarationEnd k) s (fun t => t = { s with dev := t.dev } ∧ t.dget (THERM_NTC_OPEN k.val) = 0 ∧
      t.dget (THERM_NTC_SHORT k.val) = 0 ∧ ∀ b : Nat, b ≠ THERM_NTC k.val → t.dreg b = s.dreg b)) ∧
    (¬back → Runs (.ntcDeclarationEnd k) s (fun t => t = s))

/-- PLL_FAIL clears the lock bit of the active PLL and counts; with a good standby PLL every island moves to it and the failed one becomes a bad standby, the delay lines recalibrate (HRES_FB, and the edges scheduled in the next 2 us fall back to whole base ticks) and no axis and no port changes otherwise; with a bad one every axis enters OASIS with cause 29 (the model's reading, log 32), FAULT_N asserts, the commands in flight wait, and the clocks stop. A failed standby PLL is counted once, and one that recovers starts its 10 ms anew. A standby PLL good for 10 ms is good again, and after the double fault becomes the active one, every command in flight completing FAILED_DEVICE_FAULT. HRES_FB ends 2 us after the last switch. A delay line that does not converge keeps base-tick placement. A lost reference selects the internal RC once, counts REF_LOST and degrades TIME; XIN correct again is noted, and with REF_RET set and the RC in use it is taken back. -/
def Obligations.ClockEvents : Prop :=
  ∀ (n : Ax) (p : Port) (s : State),
    let a := s.ax n
    let bad := s.dget SYS_CLKSTAT_STBY_BAD
    let act := s.dget SYS_CLKSTAT_ACTIVE
    let recal := fun (t : State) => t.dget SYS_CLKSTAT_HRES_FB = 1 ∧ t.pins.hresAt = s.clk ∧
      t.ax n = { a with pt := { a.pt with sched := a.pt.sched.map (fun e =>
        if e.t < 32 * (s.clk + 2 * usTicks) then { e with t := wholeTick e.t } else e) } }
    let same := fun (t : State) => t.ports = s.ports ∧ t.engines = s.engines ∧ t.clk = s.clk ∧ t.pending = s.pending
    let lost := s.pins.pllAt.setIfInBounds
    let good := bad = 1 ∧ s.pins.pllAt.getD (1 - act) 0 + tenMs ≤ s.clk
    let back := s.dget SYS_CLKSTAT_REF_SRC = 1 ∧ s.dget SYS_CLKCTL_REF_RET = 1
    (s.pins.noClock = true → Runs .pllFail s (fun t => t = s)) ∧
    (s.pins.noClock = false → bad = 0 → Runs .pllFail s (fun t => t.dget SYS_CLKSTAT_ACTIVE = 1 - act ∧
      t.dget SYS_CLKSTAT_SWITCHED = 1 ∧ t.dget SYS_CLKSTAT_STBY_BAD = 1 ∧ t.dget (lockFld act) = 0 ∧ t.pins.pllAt = lost act s.clk ∧
      CountedDev s t FAULT_DCNT0_CLK_SWITCH ∧ recal t ∧ same t)) ∧
    (s.pins.noClock = false → bad = 1 → Runs .pllFail s (fun t => t.pins.noClock = true ∧ LastFault t 29 unitDev ∧
      t.dget FAULT_FNCTL_DEVLATCH = 1 ∧ CountedDev s t FAULT_DCNT0_CLK_SWITCH ∧ t.dget (lockFld act) = 0 ∧
      t.dget SYS_CLKSTAT_ACTIVE = act ∧ (a.st ≠ .oasis → Faulted s t n 29) ∧ (a.st = .oasis → t.ax n = a) ∧
      (t.port p).cmds = (s.port p).cmds ∧ (t.port p).ring = (s.port p).ring)) ∧
    (bad = 0 → Runs .standbyPllLoss s (fun t => t.dget SYS_CLKSTAT_STBY_BAD = 1 ∧ t.dget SYS_CLKSTAT_ACTIVE = act ∧
      t.dget (lockFld (1 - act)) = 0 ∧ t.pins = { s.pins with pllAt := lost (1 - act) s.clk } ∧
      CountedDev s t FAULT_DCNT0_CLK_SWITCH ∧ t.axes = s.axes ∧ same t)) ∧
    (bad = 1 → Runs .standbyPllLoss s (fun t => t = { s with dev := t.dev, pins := { s.pins with pllAt := lost (1 - act) s.clk } } ∧
      t.dget (lockFld (1 - act)) = 0 ∧ t.dget SYS_CLKSTAT_STBY_BAD = 1 ∧ t.dget SYS_CLKSTAT_ACTIVE = act)) ∧
    (good → s.pins.noClock = false → Runs .standbyPllRestored s (fun t => t = { s with dev := t.dev } ∧
      t.dget SYS_CLKSTAT_STBY_BAD = 0 ∧ t.dget (lockFld (1 - act)) = 1 ∧ t.dget SYS_CLKSTAT_ACTIVE = act)) ∧
    (good → s.pins.noClock = true → Runs .standbyPllRestored s (fun t => t.pins.noClock = false ∧
      t.dget SYS_CLKSTAT_ACTIVE = 1 - act ∧ t.dget (lockFld (1 - act)) = 1 ∧ (t.ax n).st = a.st ∧ (t.port p).cmds = [] ∧
      (s.load = none → s.stream = none → (t.port p).ring.map (fun x => (x.tag, x.status)) =
        (s.port p).ring.map (fun x => (x.tag, x.status)) ++ (s.port p).cmds.map (fun c => (c.tag, stDeviceFault))))) ∧
    (¬good → Runs .standbyPllRestored s (fun t => t = s)) ∧
    (s.pins.hresAt + 2 * usTicks ≤ s.clk → Runs .delayLineRecalibrationEnd s (fun t => t = { s with dev := t.dev } ∧
      t.dget SYS_CLKSTAT_HRES_FB = 0 ∧ t.dget SYS_CLKSTAT_ACTIVE = act)) ∧
    (s.clk < s.pins.hresAt + 2 * usTicks → Runs .delayLineRecalibrationEnd s (fun t => t = s)) ∧
    (Runs (.delayLineCalibration n true) s (fun t => t = s)) ∧
    (Runs (.delayLineCalibration n false) s (fun t => OnlyAxes s t ∧ OthersKept s t n ∧
      t.ax n = { a with pt := { a.pt with lineBad := true } })) ∧
    (s.dget SYS_CLKSTAT_REF_SRC = 0 → Runs .refLost s (fun t => t.dget SYS_CLKSTAT_REF_SRC = 1 ∧ t.dget SYS_CLKSTAT_REF_LOSTF = 1 ∧
      t.dget SYS_TIMESTAT_DEGRADED = 1 ∧ CountedDev s t FAULT_DCNT0_REF_LOST ∧ t.axes = s.axes ∧
      t.pins = { s.pins with xinBad := true } ∧ same t)) ∧
    (s.dget SYS_CLKSTAT_REF_SRC = 1 → Runs .refLost s (fun t => t = { s with pins := { s.pins with xinBad := true } })) ∧
    (back → Runs .refReturn s (fun t => t.dget SYS_CLKSTAT_REF_SRC = 0 ∧ t.dget SYS_TIMESTAT_DEGRADED = 0 ∧
      t.pins.xinBad = false ∧ recal t ∧ same t)) ∧
    (¬back → Runs .refReturn s (fun t => t = { s with pins := { s.pins with xinBad := false } }))

/-- An axis in OFF for 1 ms whose AXGATE bit is set has its islands stopped, and only then. Each crossing that disagrees counts CDC_MISMATCH for its axis or for the device; a second disagreement of an axis is detected and enters OASIS with cause 31, and one of a command of a port completes it FAILED_DEVICE_FAULT. On a lost forwarded clock the DRV island runs on its RC, with no other change. -/
def Obligations.IslandsAndCrossings : Prop :=
  ∀ (n : Ax) (p : Port) (tag : W16) (b : Bool) (s : State),
    let a := s.ax n
    let q := s.port p
    let idle := (s.dget SYS_ISLGATE_AXGATE).testBit n.val = true ∧ a.st = .off ∧ a.pt.offSince + msTicks ≤ s.clk
    let twice := fun (t : State) => t.dget FAULT_DCNT0_CDC_MISMATCH = min (s.dget FAULT_DCNT0_CDC_MISMATCH + 2) 65535 ∧
      LastFault t 31 unitDev ∧ t.axes = s.axes ∧ ∀ k : Port, k ≠ p → t.port k = s.port k
    let known := q.cmds.any (fun c => c.tag == tag)
    (idle → Runs (.islandGateStop n) s (fun t => t = s.setIsl n islStopped ∧ t = { s with dev := t.dev } ∧ t.ptIsl n = islStopped ∧
      t.adcIsl n = islStopped ∧ ∀ m : Ax, m ≠ n → t.ptIsl m = s.ptIsl m ∧ t.adcIsl m = s.adcIsl m)) ∧
    (¬idle → Runs (.islandGateStop n) s (fun t => t = s)) ∧
    (Runs (.cdcMismatch (some n) p tag false) s (fun t => CountedAx s t n AX_CNT4_CDC_MISMATCH ∧ (t.ax n).st = a.st ∧
      OthersKept s t n ∧ t.ports = s.ports)) ∧
    (Runs (.cdcMismatch (some n) p tag true) s (fun t => (t.ax n).get AX_CNT4_CDC_MISMATCH = min (a.get AX_CNT4_CDC_MISMATCH + 2) 65535 ∧
      LastFault t 31 n.val ∧ OthersKept s t n ∧ (a.st ≠ .oasis → Faulted s t n 31) ∧ (a.st = .oasis → (t.ax n).st = .oasis))) ∧
    (Runs (.cdcMismatch none p tag false) s (fun t => CountedDev s t FAULT_DCNT0_CDC_MISMATCH ∧ t.axes = s.axes ∧ t.ports = s.ports)) ∧
    (known = true → Runs (.cdcMismatch none p tag true) s (fun t => twice t ∧
      (t.port p).cmds = q.cmds.filter (fun c => c.tag != tag) ∧
      (t.port p).ring = q.ring ++ [{ tag := tag, status := stDeviceFault, axis := 15, data := [], time := s.time, cseq := q.cseq,
                                     wrote := none, sent := false }])) ∧
    (known = false → Runs (.cdcMismatch none p tag true) s (fun t => twice t ∧ t.port p = q)) ∧
    (Runs (.drvClockFallback b) s (fun t => t = { s with pins := { s.pins with drvRc := b } }))

/-- An edge of the other polarity, of a disabled input, or in FREE only moves the pin. An enabled edge shorter than 1 us is rejected and counted. In ARMED it steps TIME to SEC seconds plus PPS_DLY and begins TRACK. In TRACK, LOCKED and HOLDOVER an edge more than 1 ms from a whole second is rejected, and takes LOCKED back to TRACK; another leaves its error in LAST_ERR, moves TRIM between where it stands and the frequency that nulls the error (how far is a free value, log 36) within 200 ppm, resumes TRACK from HOLDOVER, leaves LOCKED beyond 100 ns, and locks after eight edges in a row within 20 ns unless degraded. In TRACK or LOCKED, 1.5 s without an edge is HOLDOVER and counts PPS_LOST; in any other state it changes nothing. No axis and no port changes, and TIME itself only at the armed edge. -/
def Obligations.TimeBase : Prop :=
  ∀ (t0 : Nat) (b : Bool) (s : State),
    let rising := decide (s.dget SYS_TIMESET_PPS_POL = 0)
    let en := s.dget SYS_TIMESET_PPS_EN = 1
    let st := s.dget SYS_TIMESTAT_STATE
    let dly := s.dget SYS_TIMESET_PPS_DLY
    let er := phaseError ((s.time.toNat : Int) - dly)
    let good := if er.natAbs ≤ 20 then s.tm.good + 1 else 0
    let pin := fun (x : Bool) => { s with pins := { s.pins with pps := x } }
    let only := fun (t : State) => t = { s with dev := t.dev, tm := t.tm, pins := { s.pins with pps := rising }, free := t.free }
    let counted := fun (t : State) => t.dget SYS_TIMESTAT_REJECTS = min (s.dget SYS_TIMESTAT_REJECTS + 1) 65535
    let far := er.natAbs
    let aim := clampTrim (s.trim - 10 * er)
    (Runs (.ppsEdge (!rising) b) s (fun t => t = pin (!rising))) ∧
    (¬en → Runs (.ppsEdge rising b) s (fun t => t = pin rising)) ∧
    (en → Runs (.ppsEdge rising true) s (fun t => only t ∧ counted t ∧ t.tm = s.tm ∧ t.dget SYS_TIMESTAT_STATE = st)) ∧
    (en → st = 0 → Runs (.ppsEdge rising false) s (fun t => t = pin rising)) ∧
    (en → st = 1 → Runs (.ppsEdge rising false) s (fun t => only t ∧
      t.time = BitVec.ofNat 64 (s.dget SYS_TIMESET_SEC * 1000000000 + dly) ∧
      t.dget SYS_TIMESTAT_STATE = 2 ∧ t.dget SYS_TIMESET_ARM = 0 ∧ t.tm.lastEdge = some s.clk ∧ t.tm.good = 0 ∧ t.trim = s.trim)) ∧
    (en → 2 ≤ st → 1000000 < far → Runs (.ppsEdge rising false) s (fun t => only t ∧ counted t ∧
      t.tm = { s.tm with good := 0 } ∧ t.dget SYS_TIMESTAT_STATE = (if st = 3 then 2 else st) ∧
      t.dget SYS_TIMESTAT_LAST_ERR = s.dget SYS_TIMESTAT_LAST_ERR)) ∧
    (en → 2 ≤ st → st ≤ 4 → far ≤ 1000000 → Runs (.ppsEdge rising false) s (fun t => only t ∧ t.tm.acc = s.tm.acc ∧
      t.tm.lastEdge = some s.clk ∧ t.tm.good = good ∧ t.dget SYS_TIMESTAT_LAST_ERR = (er % 2 ^ 32).toNat ∧
      (-2000000 ≤ s.trim → s.trim ≤ 2000000 → min s.trim aim ≤ t.trim ∧ t.trim ≤ max s.trim aim) ∧
      t.dget SYS_TIMESTAT_STATE = (if st = 3 then (if 100 < far then 2 else 3)
        else if 8 ≤ good ∧ s.dget SYS_TIMESTAT_DEGRADED = 0 then 3 else 2))) ∧
    (s.tm.lastEdge = some t0 → t0 + 1500 * msTicks < s.clk → st = 2 ∨ st = 3 →
      Runs .ppsLost s (fun t => t.dget SYS_TIMESTAT_STATE = 4 ∧ CountedDev s t FAULT_DCNT2_PPS_LOST ∧ t.tm = { s.tm with good := 0 } ∧
        t.axes = s.axes ∧ t.ports = s.ports)) ∧
    (s.tm.lastEdge = none ∨ (s.tm.lastEdge = some t0 ∧ s.clk ≤ t0 + 1500 * msTicks) ∨ (st ≠ 2 ∧ st ≠ 3) →
      Runs .ppsLost s (fun t => t = s))

/-- From a port with the time permission a write of SYS_TIMETRIM sets TRIM inside +-200 ppm; SYS_TIMELOAD in FREE sets TIME to the written value and in any other state completes NOT_PERMITTED with nothing changed; SYS_TIMESET is stored and, with PPS_EN and ARM, arms the time base. From an SVC port SWAP moves every island to the standby PLL unless it is bad, and REF_REARM takes back an XIN that is correct again (SWAP does so too where REF_RET allows it, since it writes the word as it stands); the delay lines then recalibrate, and an edge due within 2 us moves to its whole base tick (R11). Nothing else changes. From a port without the permission each is refused NOT_PERMITTED. -/
def Obligations.TimeRegisters : Prop :=
  ∀ (p : Port) (tag : W16) (v : W64) (n : Ax) (s : State),
    let ok := fun (t : State) => Done s t p tag stOk 15 []
    let no := fun (i : Instr) => Runs i s (fun t => Refused s t p stNotPermitted)
    let act := s.dget SYS_CLKSTAT_ACTIVE
    let arms := SYS_TIMESET_PPS_EN.get v = 1 ∧ SYS_TIMESET_ARM.get v = 1
    let back := s.dget SYS_CLKSTAT_REF_SRC = 1 ∧ s.pins.xinBad = false
    let ret := back ∧ s.dget SYS_CLKCTL_REF_RET = 1
    let recal := fun (t : State) => t = { s with dev := t.dev, pins := { s.pins with hresAt := s.clk }, axes := t.axes, ports := t.ports } ∧
      t.dget SYS_CLKSTAT_HRES_FB = 1 ∧ t.ax n = { s.ax n with pt := { (s.ax n).pt with sched := (s.ax n).pt.sched.map (fun e =>
        if e.t < 32 * (s.clk + 2 * usTicks) then { e with t := wholeTick e.t } else e) } }
    let taken := fun (t : State) => t.dget SYS_CLKSTAT_REF_SRC = 0 ∧ t.dget SYS_TIMESTAT_DEGRADED = 0
    let left := fun (t : State) => t.dget SYS_CLKSTAT_REF_SRC = s.dget SYS_CLKSTAT_REF_SRC ∧
      t.dget SYS_TIMESTAT_DEGRADED = s.dget SYS_TIMESTAT_DEGRADED
    let idle := fun (t : State) => t = { s with dev := t.dev, ports := t.ports } ∧ ∀ b : Nat, t.dreg b = s.dreg b
    Calm s p →
    (s.func p fnTime = true → Runs (.sysTimetrim p tag v) s (fun t => ok t ∧ DevOnly s t SYS_TIMETRIM ∧
      t.dget SYS_TIMETRIM_TRIM = (clampTrim (SYS_TIMETRIM_TRIM.sget v) % 2 ^ 32).toNat)) ∧
    (s.func p fnTime = true → s.dget SYS_TIMESTAT_STATE = 0 → Runs (.sysTimeload p tag v) s (fun t => ok t ∧ t.time = v ∧
      t = { s with tm := t.tm, ports := t.ports })) ∧
    (s.func p fnTime = true → s.dget SYS_TIMESTAT_STATE ≠ 0 → Runs (.sysTimeload p tag v) s (fun t =>
      Done s t p tag stNotPermitted 15 [] ∧ PortsOnly s t)) ∧
    (s.func p fnTime = true → Runs (.sysTimeset p tag v) s (fun t => ok t ∧ t = { s with dev := t.dev, ports := t.ports } ∧
      t.dreg SYS_TIMESET = (v &&& 0x7FFFFFFFFFFFF) ∧ (∀ b : Nat, b ≠ SYS_TIMESET → b ≠ SYS_TIMESTAT → t.dreg b = s.dreg b) ∧
      t.dget SYS_TIMESTAT_STATE = (if arms then 1 else s.dget SYS_TIMESTAT_STATE) ∧
      t.dget SYS_TIMESTAT_LAST_ERR = s.dget SYS_TIMESTAT_LAST_ERR ∧ t.dget SYS_TIMESTAT_REJECTS = s.dget SYS_TIMESTAT_REJECTS)) ∧
    (s.func p fnTime = false → no (.sysTimetrim p tag v) ∧ no (.sysTimeload p tag v) ∧ no (.sysTimeset p tag v)) ∧
    (s.isSvc p = true → s.dget SYS_CLKSTAT_STBY_BAD = 0 → Runs (.swap p tag) s (fun t => ok t ∧ recal t ∧
      t.dget SYS_CLKSTAT_ACTIVE = 1 - act ∧ t.dget SYS_CLKSTAT_SWITCHED = 1 ∧ (ret → taken t) ∧ (¬ret → left t))) ∧
    (s.isSvc p = true → s.dget SYS_CLKSTAT_STBY_BAD = 1 → ret → Runs (.swap p tag) s (fun t => ok t ∧ recal t ∧
      t.dget SYS_CLKSTAT_ACTIVE = act ∧ taken t)) ∧
    (s.isSvc p = true → s.dget SYS_CLKSTAT_STBY_BAD = 1 → ¬ret → Runs (.swap p tag) s (fun t => ok t ∧ idle t)) ∧
    (s.isSvc p = true → back → Runs (.refRearm p tag) s (fun t => ok t ∧ recal t ∧ t.dget SYS_CLKSTAT_ACTIVE = act ∧ taken t)) ∧
    (s.isSvc p = true → ¬back → Runs (.refRearm p tag) s (fun t => ok t ∧ idle t)) ∧
    (s.isSvc p = false → no (.swap p tag) ∧ no (.refRearm p tag))

/-- Writes of the words of a bus are accepted from a service-permitted port and from a port that owns every axis of the bus; from any other port such a command is refused NOT_PERMITTED and changes nothing. Accepted, BRKCTL.CLR clears the latched brake fault and BRKFLT, or completes STILL_ACTIVE with nothing changed while OV1 of the bus is set; a write of a threshold word stores it when it passes the range check of the model (the ordering rules of R245), KBUS then following the undervoltage levels at the last reported voltage, and completes BAD_FRAME with nothing changed otherwise; BRKCTL.TEST starts the count to the periodic test again and gives one 2 us test pulse, the gate on and shown in BRKON, where the bus can be tested, and none otherwise (R253). -/
def Obligations.BusRegisters : Prop :=
  ∀ (p : Port) (tag : W16) (x : Bus) (uv : Bool) (v : W64) (s : State),
    let a := if uv then BUS_UV x.val else BUS_OV x.val
    let b := s.bus x
    let accepted := s.isSvc p = true ∨ ∀ n : Ax, OnBus s x n → s.owner n = p.val
    let no := fun (i : Instr) => Runs i s (fun t => Refused s t p stNotPermitted)
    let ok := fun (t : State) => Done s t p tag stOk 15 []
    let others := fun (t : State) => ∀ z : Bus, z ≠ x → t.bus z = s.bus z
    let stat := fun (t : State) => (∀ c : Nat, c ≠ BUS_STAT x.val → t.dreg c = s.dreg c) ∧
      t = { s with dev := t.dev, buses := t.buses, ports := t.ports } ∧ others t
    (∀ o : Fin 16, (accepted → s.writePerm p (0xB10 + 16 * x.val + o.val) v = none) ∧
      (¬ accepted → s.writePerm p (0xB10 + 16 * x.val + o.val) v = some stNotPermitted)) ∧
    (Calm s p → ¬ accepted → no (.busThresholdWrite p tag x uv v) ∧ no (.brkctlClr p tag x) ∧ no (.brkctlTest p tag x)) ∧
    (Calm s p → accepted → s.dget (BUS_STAT_OV1 x.val) = 1 → Runs (.brkctlClr p tag x) s (fun t =>
      Done s t p tag stStillActive 15 [] ∧ PortsOnly s t)) ∧
    (Calm s p → accepted → s.dget (BUS_STAT_OV1 x.val) = 0 → Runs (.brkctlClr p tag x) s (fun t => ok t ∧ stat t ∧
      t.dreg (BUS_STAT x.val) = (BUS_STAT_BRKFLT x.val).put (s.dreg (BUS_STAT x.val)) 0 ∧
      t.bus x = { b with fault := false, openRun := 0, shortRun := 0, testRun := 0 })) ∧
    (Calm s p → accepted → s.devRangeOk a v = true → uv = false → Runs (.busThresholdWrite p tag x uv v) s (fun t => ok t ∧
      DevOnly s t a ∧ t.dreg a = writtenDev s a v)) ∧
    (Calm s p → accepted → s.devRangeOk a v = true → uv = true → Runs (.busThresholdWrite p tag x uv v) s (fun t => ok t ∧
      t = { s with dev := t.dev, ports := t.ports } ∧ t.dreg a = writtenDev s a v ∧
      t.dget (BUS_STAT_KBUS x.val) = t.kbus x (s.dget (BUS_STAT_VBUS x.val)) ∧
      t.dget (BUS_STAT_VBUS x.val) = s.dget (BUS_STAT_VBUS x.val) ∧
      ∀ c : Nat, c ≠ a → c ≠ BUS_STAT x.val → t.dreg c = s.dreg c)) ∧
    (Calm s p → accepted → s.devRangeOk a v = false → Runs (.busThresholdWrite p tag x uv v) s (fun t =>
      Done s t p tag stBadFrame 15 [] ∧ PortsOnly s t)) ∧
    (Calm s p → accepted → s.testable x = true → Runs (.brkctlTest p tag x) s (fun t => ok t ∧ stat t ∧
      (t.bus x).pulse = some (s.clk + 2 * usTicks) ∧ (t.bus x).testAt = s.clk ∧ (t.bus x).testRun = b.testRun ∧
      (t.bus x).gate = true ∧ t.dget (BUS_STAT_BRKON x.val) = 1)) ∧
    (Calm s p → accepted → s.testable x = false → Runs (.brkctlTest p tag x) s (fun t => ok t ∧ stat t ∧
      (t.bus x).pulse = b.pulse ∧ (t.bus x).testAt = s.clk ∧ (t.bus x).testRun = b.testRun ∧
      (t.bus x).gate = (s.chopperOn x || s.testing x) ∧ t.dget (BUS_STAT_BRKON x.val) = (if (t.bus x).gate then 1 else 0)))

/-- From the owner of axis n: AXn_TICK in OFF takes a PERIOD from 400 to 40 000 with PHASE reduced modulo it and LIMIT recomputed, unless the loaded program no longer fits (FAILED_WCET, the axis as before); AXn_BASE0 and 1 in OFF take values in range; both complete NOT_PERMITTED in any other state and BAD_FRAME out of range, with nothing changed; while the sensing island of the axis does not run a write of AXn_BASE waits (R20). FBCLR ends a Hall fallback; CATCH.CLR zeroes LOSSTOT and leaves the other fields as they read (BAD_FRAME where these are out of range); CNTCLR, with the clear permission, zeroes the five counter words of the axis; EXC.CLR zeroes ENGINE_EXCn. Nothing else changes but ENGINE_LOADDIAG, which a write of AXn_TICK fills where a program is loaded. From any other port each is refused NOT_OWNER, and CNTCLR without the permission NOT_PERMITTED. -/
def Obligations.AxisRegisters : Prop :=
  ∀ (p : Port) (tag : W16) (n : Ax) (one : Bool) (v : W64) (s : State),
    let a := s.ax n
    let axis := BitVec.ofNat 4 n.val
    let per := AX_TICK_PERIOD.get v
    let o := if one then AX_BASE1 else AX_BASE0
    let c := AX_CATCH_CLR.put (s.readAx n AX_CATCH) 1
    let own := Calm s p ∧ s.owns p n = true
    let fails := fun (i : Instr) (st : Byte) => Runs i s (fun t => Done s t p tag st axis [] ∧ PortsOnly s t)
    let no := fun (i : Instr) (st : Byte) => Runs i s (fun t => Refused s t p st)
    let fits := a.loaded = false ∨ a.get AX_WCET_WCET ≤ wcetLimit per
    let diag := fun (t : State) => t = { s with dev := t.dev, axes := t.axes, ports := t.ports, free := t.free } ∧
      (∀ b : Nat, b ≠ ENGINE_LOADDIAG ∨ a.loaded = false → t.dreg b = s.dreg b) ∧ OthersKept s t n
    (own → a.st ≠ .off → fails (.axnTickWrite p tag n v) stNotPermitted) ∧
    (own → a.st = .off → (per < 400 ∨ 40000 < per) → fails (.axnTickWrite p tag n v) stBadFrame) ∧
    (own → a.st = .off → 400 ≤ per → per ≤ 40000 → fits → Runs (.axnTickWrite p tag n v) s (fun t =>
      Done s t p tag stOk axis [] ∧ diag t ∧ t.ax n = { a with regs := (t.ax n).regs } ∧
      (∀ b : Nat, b ≠ AX_TICK → b ≠ AX_WCET → (t.ax n).reg b = a.reg b) ∧ (t.ax n).get AX_WCET_WCET = a.get AX_WCET_WCET ∧
      (t.ax n).get AX_TICK_PERIOD = per ∧ (t.ax n).get AX_TICK_PHASE = AX_TICK_PHASE.get v % per ∧
      (t.ax n).get AX_WCET_LIMIT = wcetLimit per)) ∧
    (own → a.st = .off → 400 ≤ per → per ≤ 40000 → ¬fits → Runs (.axnTickWrite p tag n v) s (fun t =>
      Done s t p tag stWcet axis [] ∧ diag t ∧ t.axes = s.axes)) ∧
    (own → s.islOk n o = true → a.st ≠ .off → fails (.axnBaseWrite p tag n one v) stNotPermitted) ∧
    (own → s.islOk n o = true → a.st = .off → a.rangeOk o v = false → fails (.axnBaseWrite p tag n one v) stBadFrame) ∧
    (own → s.islOk n o = true → a.st = .off → a.rangeOk o v = true → Runs (.axnBaseWrite p tag n one v) s (fun t =>
      Done s t p tag stOk axis [] ∧ AxisOnly s t n o ∧ (t.ax n).reg o = merged (axRow o) (a.reg o) v)) ∧
    (own → s.islOk n o = false → Runs (.axnBaseWrite p tag n one v) s (fun t =>
      InFlight s t p tag (.wr (BitVec.ofNat 16 (0x1000 + 0x200 * n.val + o)) [v]) false ∧ PortsOnly s t)) ∧
    (own → Runs (.fbclr p tag n) s (fun t => Done s t p tag stOk axis [] ∧ t = { s with axes := t.axes, ports := t.ports } ∧
      OthersKept s t n ∧ t.ax n = { a with pos := { a.pos with fallback := false } })) ∧
    (own → a.rangeOk AX_CATCH c = true → Runs (.catchClr p tag n) s (fun t => Done s t p tag stOk axis [] ∧
      AxisOnly s t n AX_CATCH ∧ (t.ax n).get AX_CATCH_LOSSTOT = 0 ∧ (t.ax n).get AX_CATCH_LOSSMAX = a.get AX_CATCH_LOSSMAX ∧
      (t.ax n).get AX_CATCH_LOSSWIN = a.get AX_CATCH_LOSSWIN ∧ (t.ax n).get AX_CATCH_TMO = a.get AX_CATCH_TMO)) ∧
    (own → a.rangeOk AX_CATCH c = false → fails (.catchClr p tag n) stBadFrame) ∧
    (own → s.func p fnClear = true → Runs (.axnCntclr p tag n) s (fun t => Done s t p tag stOk axis [] ∧
      t = { s with axes := t.axes, ports := t.ports } ∧ OthersKept s t n ∧ t.ax n = { a with regs := (t.ax n).regs } ∧
      (∀ i : Fin 5, (t.ax n).reg (AX_CNT0 + i.val) = 0) ∧
      ∀ b : Nat, b < AX_CNT0 ∨ AX_CNT0 + 5 ≤ b → (t.ax n).reg b = a.reg b)) ∧
    (own → s.func p fnClear = false → no (.axnCntclr p tag n) stNotPermitted) ∧
    (own → Runs (.engineExcClr p tag n) s (fun t => Done s t p tag stOk 15 [] ∧ DevOnly s t (ENGINE_EXC n.val) ∧
      t.dreg (ENGINE_EXC n.val) = 0)) ∧
    (Calm s p → s.owns p n = false → no (.axnTickWrite p tag n v) stNotOwner ∧ no (.axnBaseWrite p tag n one v) stNotOwner ∧
      no (.fbclr p tag n) stNotOwner ∧ no (.catchClr p tag n) stNotOwner ∧ no (.axnCntclr p tag n) stNotOwner ∧
      no (.engineExcClr p tag n) stNotOwner)

/-- A write of an encoder configuration word or of EMUm_CFG is for the port that owns every axis the register names before and after it, and where it names none for a port that owns some axis (R171, R190); any other port is refused NOT_OWNER. An encoder configuration word is stored when every axis the channel names before and after is OFF and the ranges hold; otherwise the write completes NOT_PERMITTED or BAD_FRAME with nothing changed. A write of EMUm_CFG in range is stored in any state and takes force afresh at the next boundary; out of range it completes BAD_FRAME. Nothing else changes. -/
def Obligations.EncoderRegisters : Prop :=
  ∀ (p : Port) (tag : W16) (k : Chan) (r : Fin 4) (m : Emu) (v : W64) (s : State),
    let a := ENC_CFG k.val + r.val
    let b := EMU_CFG m.val
    let l := s.namedAxes a v
    let e := s.namedAxes b v
    let all := fun (x : List Ax) => (∀ n ∈ x, s.owner n = p.val) ∧ (x = [] → ∃ n : Ax, s.owner n = p.val)
    let busy := ∃ n ∈ l, (s.ax n).st ≠ .off
    let fails := fun (i : Instr) (st : Byte) => Runs i s (fun t => Done s t p tag st 15 [] ∧ PortsOnly s t)
    (Calm s p → all l → busy → fails (.encoderConfigWrite p tag k r v) stNotPermitted) ∧
    (Calm s p → all l → ¬busy → s.devRangeOk a v = false → fails (.encoderConfigWrite p tag k r v) stBadFrame) ∧
    (Calm s p → all l → ¬busy → s.devRangeOk a v = true → Runs (.encoderConfigWrite p tag k r v) s (fun t =>
      Done s t p tag stOk 15 [] ∧ DevOnly s t a ∧ t.dreg a = writtenDev s a v)) ∧
    (Calm s p → ¬(all l) → Runs (.encoderConfigWrite p tag k r v) s (fun t => Refused s t p stNotOwner)) ∧
    (Calm s p → all e → s.devRangeOk b v = false → fails (.emuCfgWrite p tag m v) stBadFrame) ∧
    (Calm s p → all e → s.devRangeOk b v = true → Runs (.emuCfgWrite p tag m v) s (fun t => Done s t p tag stOk 15 [] ∧
      t = { s with dev := t.dev, emu := t.emu, ports := t.ports } ∧ (∀ c : Nat, c ≠ b → t.dreg c = s.dreg c) ∧
      t.dreg b = writtenDev s b v ∧ t.emu[m] = { s.emu[m] with fresh := true } ∧ ∀ j : Emu, j ≠ m → t.emu[j] = s.emu[j])) ∧
    (Calm s p → ¬(all e) → Runs (.emuCfgWrite p tag m v) s (fun t => Refused s t p stNotOwner))

/-- A write of a register that the port may not write, or of no register, is refused on arrival; one that a running island's or the device's register judges at once completes with the status of the register's own rules, and the state is what these rules leave (R433). So a write of a word of the THERM block from an SVC port is stored when its ranges hold and completes BAD_FRAME otherwise. From an SVC port: FAULT_CLR, with the clear permission, zeroes the device, bus and link counters; ACK clears the device latch; HOST_PERMk takes the functions and levels limited to the ceilings and frees the axes whose level fell, but completes NOT_PERMITTED where one of them runs and BAD_FRAME where a level is 3; another port's EN is cleared, any port's is set. A port cannot clear its own EN, and without SVC none of these is accepted, except that a port may write its own EN as it stands. A written BDIV acts once its command's completion has been sent and both directions are idle, and not before. -/
def Obligations.DeviceRegisters : Prop :=
  ∀ (p k : Port) (tag : W16) (a : W16) (v : W64) (s : State),
    let lv := reduceLevels ((HOST_PERM_AXIS k.val).get v) (s.dget (HOST_PERM_ACEIL k.val))
    let low := allAx.filter (fun n => s.owns k n && decide ((lv >>> (2 * n.val)) % 4 < 2))
    let moves := low.any (fun n => (s.ax n).st != .off && (s.ax n).st != .oasis)
    let three := allAx.any (fun n => ((HOST_PERM_AXIS k.val).get v >>> (2 * n.val)) % 4 == 3)
    let svc := Calm s p ∧ s.isSvc p = true
    let plain := Calm s p ∧ s.isSvc p = false
    let ok := fun (t : State) => Done s t p tag stOk 15 []
    let no := fun (i : Instr) (st : Byte) => Runs i s (fun t => Refused s t p st)
    let fails := fun (i : Instr) (st : Byte) => Runs i s (fun t => Done s t p tag st 15 [] ∧ PortsOnly s t)
    let r := s.writeReg p (s.assignTag p tag).1 a.toNat v
    let status := match r.2 with | .done st => some st | _ => none
    let only := fun (t : State) => t = { s with dev := t.dev, ports := t.ports }
    let counts : List Nat := [FAULT_DCNT0, FAULT_DCNT1, FAULT_DCNT2, FAULT_DCNT3, FAULT_DCNT4, FAULT_BUS0_BUS_OV1 0 |>.a, FAULT_BUS0_BUS_OV1 1 |>.a,
      FAULT_BUS1_BRK_FAULT 0 |>.a, FAULT_BUS1_BRK_FAULT 1 |>.a, FAULT_LINK_LINK_CRC 0 |>.a, FAULT_LINK_LINK_CRC 1 |>.a, FAULT_LINK_LINK_CRC 2 |>.a,
      FAULT_LINK_LINK_CRC 3 |>.a]
    let idle := (s.port 3).rx = [] ∧ (s.port 3).tx = []
    let sent := match s.bdivBy with
      | some (q, g) => (s.port q).cmds.all (fun c => c.tag != g) && (s.port q).ring.all (fun c => c.tag != g || c.sent)
      | none => true
    let due := idle ∧ sent = true
    (Calm s p → 0x2800 ≤ a.toNat → no (.registerWrite p tag a v) stBadFrame) ∧
    (Calm s p → s.gen p = 2 → 0x800 ≤ a.toNat → a.toNat < 0xA00 → no (.registerWrite p tag a v) stNotPermitted) ∧
    (Calm s p → a.toNat < 0x2800 → ¬(s.gen p = 2 ∧ 0x800 ≤ a.toNat ∧ a.toNat < 0xA00) → ∀ st : Byte, s.writePerm p a.toNat v = some st →
      no (.registerWrite p tag a v) st) ∧
    (Calm s p → a.toNat < 0x2800 → ¬(s.gen p = 2 ∧ 0x800 ≤ a.toNat ∧ a.toNat < 0xA00) → s.writePerm p a.toNat v = none →
      s.regReady a.toNat v = true → ∀ st : Byte, status = some st → Runs (.registerWrite p tag a v) s (fun t =>
        Done s t p tag st (Op.wr a [v]).axisNo [] ∧ t = { r.1 with ports := t.ports })) ∧
    (svc → 0xA00 ≤ a.toNat → a.toNat < 0xB00 → s.devRangeOk a.toNat v = true →
      Runs (.registerWrite p tag a v) s (fun t => ok t ∧ DevOnly s t a.toNat ∧ t.dreg a.toNat = writtenDev s a.toNat v)) ∧
    (svc → 0xA00 ≤ a.toNat → a.toNat < 0xB00 → s.devRangeOk a.toNat v = false → fails (.registerWrite p tag a v) stBadFrame) ∧
    (svc → s.func p fnClear = true → Runs (.faultClr p tag) s (fun t => ok t ∧ only t ∧ (∀ c ∈ counts, t.dreg c = 0) ∧
      ∀ b : Nat, b ∉ counts → t.dreg b = s.dreg b)) ∧
    (Calm s p → s.isSvc p = false ∨ s.func p fnClear = false → no (.faultClr p tag) stNotPermitted) ∧
    (svc → Runs (.ack p tag) s (fun t => ok t ∧ DevOnly s t FAULT_FNCTL ∧ t.dget FAULT_FNCTL_DEVLATCH = 0 ∧
      t.dget FAULT_FNCTL_AXMASK = s.dget FAULT_FNCTL_AXMASK)) ∧
    (plain → no (.ack p tag) stNotPermitted ∧ no (.hostPermWrite p tag k v) stNotPermitted ∧ no (.portDisable p tag k) stNotPermitted) ∧
    (svc → moves = false → three = false → Runs (.hostPermWrite p tag k v) s (fun t => ok t ∧ only t ∧
      (∀ b : Nat, b ≠ HOST_PERM k.val → b ≠ HOST_OWN → t.dreg b = s.dreg b) ∧
      t.dget (HOST_PERM_FUNC k.val) = ((HOST_PERM_FUNC k.val).get v &&& s.dget (HOST_PERM_FCEIL k.val)) ∧
      t.dget (HOST_PERM_AXIS k.val) = lv ∧ (∀ n ∈ low, t.owner n = 7) ∧ ∀ n : Ax, n ∉ low → t.owner n = s.owner n)) ∧
    (svc → moves = true → fails (.hostPermWrite p tag k v) stNotPermitted) ∧
    (svc → moves = false → three = true → fails (.hostPermWrite p tag k v) stBadFrame) ∧
    (svc → k ≠ p → Runs (.portDisable p tag k) s (fun t => ok t ∧ DevOnly s t (HOST_PCFG k.val) ∧ t.dget (HOST_PCFG_EN k.val) = 0 ∧
      t.dget (HOST_PCFG_GEN k.val) = s.dget (HOST_PCFG_GEN k.val) ∧ t.dget (HOST_PCFG_SVC k.val) = s.dget (HOST_PCFG_SVC k.val) ∧
      t.portUp k = false)) ∧
    (svc → k = p → no (.portDisable p tag k) stNotPermitted) ∧
    (svc → Runs (.portEnable p tag k) s (fun t => ok t ∧ only t ∧ t.dget (HOST_PCFG_EN k.val) = 1 ∧
      (∀ b : Nat, b ≠ HOST_PCFG k.val → b ≠ HOST_CANSTAT → t.dreg b = s.dreg b) ∧
      t.dget (HOST_PCFG_GEN k.val) = s.dget (HOST_PCFG_GEN k.val) ∧ t.dget (HOST_PCFG_SVC k.val) = s.dget (HOST_PCFG_SVC k.val) ∧
      t.portUp k = true)) ∧
    (plain → k ≠ p → no (.portEnable p tag k) stNotPermitted) ∧
    (plain → k = p → Runs (.portEnable p tag k) s (fun t => ok t ∧ DevOnly s t (HOST_PCFG k.val) ∧ t.dget (HOST_PCFG_EN k.val) = 1)) ∧
    (due → Runs .uartBdivChange s (fun t => t = { s with bdiv := BitVec.ofNat 16 (s.dget HOST_UART_BDIV), bdivBy := none })) ∧
    (¬due → Runs .uartBdivChange s (fun t => t = s))

/-- With level OWN on the axis a CLAIM of an axis owned by none, or by the port itself, makes the port its owner, and one of another port's axis completes NOT_OWNER; without the level it completes NOT_PERMITTED. RELEASE by the owner in OFF or OASIS frees the axis and in any other state completes NOT_PERMITTED; from any other port it completes NOT_OWNER. FORCE_CLAIM by an SVC port with level OWN in OFF or OASIS takes the axis, and completes NOT_PERMITTED otherwise. Every other axis keeps its owner, and nothing but HOST_OWN and the ports changes. -/
def Obligations.Ownership : Prop :=
  ∀ (p : Port) (tag : W16) (n : Ax) (s : State),
    let axis := BitVec.ofNat 4 n.val
    let own := decide (2 ≤ s.permLevel p n)
    let rest := decide ((s.ax n).st = .off ∨ (s.ax n).st = .oasis)
    let gives := fun (i : Instr) (o : Nat) => Runs i s (fun t => Done s t p tag stOk axis [] ∧ t.owner n = o ∧
      (∀ m : Ax, m ≠ n → t.owner m = s.owner m) ∧ DevOnly s t HOST_OWN)
    let fails := fun (i : Instr) (st : Byte) => Runs i s (fun t => Done s t p tag st axis [] ∧ PortsOnly s t)
    Calm s p →
    (own = true → (s.owner n = 7 ∨ s.owner n = p.val) → gives (.claim p tag n) p.val) ∧
    (own = true → s.owner n ≠ 7 → s.owner n ≠ p.val → fails (.claim p tag n) stNotOwner) ∧
    (own = false → fails (.claim p tag n) stNotPermitted) ∧
    (s.owner n = p.val → rest = true → gives (.release p tag n) 7) ∧
    (s.owner n = p.val → rest = false → fails (.release p tag n) stNotPermitted) ∧
    (s.owner n ≠ p.val → fails (.release p tag n) stNotOwner) ∧
    (s.isSvc p = true → own = true → rest = true → gives (.forceClaim p tag n) p.val) ∧
    (s.isSvc p = false ∨ own = false ∨ rest = false → fails (.forceClaim p tag n) stNotPermitted)

/-- From the owner of axis n: ENABLE is refused first (NOT_PERMITTED without a program or engine, STILL_ACTIVE under UV2 or the thermal latch, in any state); else in OASIS it completes FAILED_AXIS_FAULT, in ARMING, STARTING, RUN and CATCH it completes OK, in DISARM it is held, and with no ticks running in OFF it enters ARMING and stays in flight and in DECEL it returns to CATCH. STOP with no ticks running enters DISARM from ARMING and DECEL from STARTING, RUN and CATCH and stays in flight, as it does in DECEL and DISARM; in OFF and OASIS it completes OK. CLEAR in OASIS completes STILL_ACTIVE while a condition of R240 or R293 stands, and else, with no ticks running, clears the latches, enters DISARM and stays in flight; elsewhere it completes OK. Where ticks run, a command that would change the state waits for the boundary, unstarted. On the entry of DISARM or CATCH every gate goes off unless an escalation short stands. No other axis changes, and the axis itself only by the entry. From any other port each is refused NOT_OWNER. -/
def Obligations.StateCommands : Prop :=
  ∀ (p : Port) (tag : W16) (n : Ax) (s : State),
    let a := s.ax n
    let axis := BitVec.ofNat 4 n.val
    let busy := a.st = .arming ∨ a.st = .starting ∨ a.st = .running ∨ a.st = .catching
    let only := fun (t : State) => t = { s with axes := t.axes, ports := t.ports } ∧ OthersKept s t n
    let kept := fun (t : State) => only t ∧ t.ax n = { a with held := false }
    let enters := fun (t : State) (x : AxSt) => t = { s with dev := t.dev, axes := t.axes, ports := t.ports } ∧ OthersKept s t n ∧
      (t.ax n).st = x ∧ (t.ax n).since = s.clk ∧ (t.ax n).held = false ∧ (t.ax n).get AX_STATE_CAUSE = a.get AX_STATE_CAUSE ∧
      (a.gd.esc = false → x = .disarm ∨ x = .catching → (t.ax n).gd.on = 0)
    let done := fun (i : Instr) (st : Byte) => Runs i s (fun t => Done s t p tag st axis [] ∧ kept t)
    let waits := fun (i : Instr) (o : Op) => Runs i s (fun t => InFlight s t p tag o false ∧ kept t)
    let flies := fun (i : Instr) (o : Op) (x : AxSt) => Runs i s (fun t => InFlight s t p tag o true ∧ enters t x)
    let stays := fun (i : Instr) (o : Op) => Runs i s (fun t => InFlight s t p tag o true ∧ kept t)
    let no := fun (i : Instr) => Runs i s (fun t => Refused s t p stNotOwner)
    let lacks := a.loaded = false ∨ a.engine = none
    let under := s.dget (BUS_STAT_UV2 (s.busOf n).val) = 1 ∨ s.dget THERM_STAT_SHUT = 1
    let on := ¬lacks ∧ ¬under
    let runs := s.ticks n = true
    (Calm s p → s.owns p n = true → lacks → done (.enable p tag n) stNotPermitted) ∧
    (Calm s p → s.owns p n = true → ¬lacks → under → done (.enable p tag n) stStillActive) ∧
    (Calm s p → s.owns p n = true → on → a.st = .oasis → done (.enable p tag n) stAxisFault) ∧
    (Calm s p → s.owns p n = true → on → busy → done (.enable p tag n) stOk) ∧
    (Calm s p → s.owns p n = true → on → a.st = .disarm → Runs (.enable p tag n) s (fun t =>
      InFlight s t p tag (.enable n) true ∧ only t ∧ t.ax n = { a with held := true })) ∧
    (Calm s p → s.owns p n = true → on → a.st = .off → ¬runs → flies (.enable p tag n) (.enable n) .arming) ∧
    (Calm s p → s.owns p n = true → on → a.st = .decel → ¬runs → Runs (.enable p tag n) s (fun t =>
      Done s t p tag stOk axis [] ∧ enters t .catching)) ∧
    (Calm s p → s.owns p n = true → on → (a.st = .off ∨ a.st = .decel) → runs → waits (.enable p tag n) (.enable n)) ∧
    (Calm s p → s.owns p n = true → a.st = .arming → ¬runs → flies (.stop p tag n) (.stop n) .disarm) ∧
    (Calm s p → s.owns p n = true → busy → a.st ≠ .arming → ¬runs → flies (.stop p tag n) (.stop n) .decel) ∧
    (Calm s p → s.owns p n = true → busy → runs → waits (.stop p tag n) (.stop n)) ∧
    (Calm s p → s.owns p n = true → a.st = .decel ∨ a.st = .disarm → stays (.stop p tag n) (.stop n)) ∧
    (Calm s p → s.owns p n = true → a.st = .off ∨ a.st = .oasis → done (.stop p tag n) stOk) ∧
    (Calm s p → s.owns p n = true → a.st ≠ .oasis → done (.clear p tag n) stOk) ∧
    (Calm s p → s.owns p n = true → a.st = .oasis → s.clearRefused n = true → done (.clear p tag n) stStillActive) ∧
    (Calm s p → s.owns p n = true → a.st = .oasis → s.clearRefused n = false → runs → waits (.clear p tag n) (.clear n)) ∧
    (Calm s p → s.owns p n = true → a.st = .oasis → s.clearRefused n = false → ¬runs → Runs (.clear p tag n) s (fun t =>
      InFlight s t p tag (.clear n) true ∧ enters t .disarm ∧ (t.ax n).get AX_GDSTAT_STUCK = 0 ∧ (t.ax n).get AX_GDSTAT_STKOFF = 0 ∧
      (t.ax n).get AX_GDSTAT_DESATG = 0 ∧ (t.ax n).get AX_GDSTAT_OCB = 0 ∧ (t.ax n).get AX_GDSTAT_OCH = 0 ∧
      (t.ax n).get AX_GDSTAT_TPIN = 0)) ∧
    (Calm s p → s.owns p n = false → no (.enable p tag n) ∧ no (.stop p tag n) ∧ no (.clear p tag n))

/-- While no POST is pending, no page copy runs and the axis is not migrating, a write from the owner stores its word, or its words from the first one on, in the inactive inbound page and completes; POST, or MBWRITE with its POST bit, leaves the swap pending for the boundary of a ticking program, and with no running tick swaps the pages at once, advances ISEQ, raises the mailbox event and copies the new active page into the other. While one of the three stands the command waits and nothing but the ports changes; MAILBOX_HELD_WRITE_RELEASE changes nothing then, and afterwards carries the held write out. An MBWRITE of no words or past the page is refused BAD_FRAME, one on a port of another generation is not seen, and each command from a port that does not own the axis is refused NOT_OWNER. -/
def Obligations.Mailbox : Prop :=
  ∀ (p : Port) (tag : W16) (n : Ax) (w : BitVec 4) (v : W64) (post : Bool) (vs : List W64) (s : State),
    let a := s.ax n
    let c : Cmd := { tag := tag, axes := (1 : Byte) <<< n.val, op := .mbox n w [v] false, rest := none, wrote := none, started := false, at_ := s.clk }
    let axis := BitVec.ofNat 4 n.val
    let ok := fun (t : State) => Done s t p tag stOk axis []
    let only := fun (t : State) => t = { s with axes := t.axes, ports := t.ports } ∧ OthersKept s t n
    let inOld := fun (k : Nat) => a.dword (inWord (!a.mb.inPage) k)
    let put := fun (k : Nat) => if w.toNat ≤ k ∧ k < w.toNat + vs.length then vs.getD (k - w.toNat) 0 else inOld k
    let stored := fun (t : State) (f : Nat → W64) => ∀ k : Fin 16, (t.ax n).dword (inWord (!a.mb.inPage) k.val) = f k.val
    let outside := fun (t : State) (both : Bool) => ∀ j : Nat, (∀ k : Fin 16, j ≠ inWord (!a.mb.inPage) k.val ∧
      (both = true → j ≠ inWord a.mb.inPage k.val)) → (t.ax n).dword j = a.dword j
    let posted := fun (t : State) (f : Nat → W64) => ok t ∧ stored t f ∧
      (s.ticks n = true → only t ∧ outside t false ∧ (t.ax n).get AX_MBCTL_PEND = 1 ∧ (t.ax n).mb = a.mb ∧
        (t.ax n).get AX_MBCTL_ISEQ = a.get AX_MBCTL_ISEQ) ∧
      (s.ticks n = false → t = { s with axes := t.axes, engines := t.engines, ports := t.ports } ∧ OthersKept s t n ∧ outside t true ∧
        (t.ax n).get AX_MBCTL_PEND = 0 ∧ (t.ax n).mb = { a.mb with inPage := !a.mb.inPage, copyUntil := s.clk + 68 } ∧
        (t.ax n).get AX_MBCTL_ISEQ = (a.get AX_MBCTL_ISEQ + 1) % 65536 ∧ EventSeen s t n evMb ∧
        ∀ k : Fin 16, (t.ax n).dword (inWord a.mb.inPage k.val) = f k.val)
    let free := Calm s p ∧ s.owns p n = true ∧ s.mbFree n = true
    let held := Calm s p ∧ s.owns p n = true ∧ s.mbFree n = false
    let waits := fun (i : Instr) (o : Op) => Runs i s (fun t => InFlight s t p tag o false ∧ PortsOnly s t)
    let no := fun (i : Instr) (st : Byte) => Runs i s (fun t => Refused s t p st)
    let fits := vs ≠ [] ∧ w.toNat + vs.length ≤ 16
    (free → Runs (.mbinWrite p tag n w v) s (fun t => ok t ∧ only t ∧ t.ax n = a.setD (inWord (!a.mb.inPage) w.toNat) v)) ∧
    (free → Runs (.post p tag n) s (fun t => posted t inOld)) ∧
    (free → s.gen p = 3 → fits → Runs (.mbwrite p tag n w false vs) s (fun t => ok t ∧ only t ∧ stored t put ∧ outside t false ∧
      t.ax n = { a with d := (t.ax n).d })) ∧
    (free → s.gen p = 3 → fits → Runs (.mbwrite p tag n w true vs) s (fun t => posted t put)) ∧
    (held → waits (.mbinWrite p tag n w v) (.wr (BitVec.ofNat 16 (0x1000 + 0x200 * n.val + AX_MBIN w.toNat)) [v])) ∧
    (held → waits (.post p tag n) (.post n)) ∧
    (held → s.gen p = 3 → fits → waits (.mbwrite p tag n w post vs) (.mbox n w vs post)) ∧
    (Calm s p → s.gen p = 3 → ¬fits → no (.mbwrite p tag n w post vs) stBadFrame) ∧
    (s.gen p ≠ 3 → Runs (.mbwrite p tag n w post vs) s (fun t => t = s)) ∧
    (Calm s p → s.owns p n = false → no (.mbinWrite p tag n w v) stNotOwner ∧ no (.post p tag n) stNotOwner) ∧
    (Calm s p → s.owns p n = false → s.gen p = 3 → fits → no (.mbwrite p tag n w post vs) stNotOwner) ∧
    (s.mbFree n = false → Runs (.mailboxHeldWriteRelease n) s (fun t => t = s)) ∧
    (free → Runs (.mailboxHeldWriteRelease n) (s.modPort p (fun q => { q with cmds := [c] })) (fun t => only t ∧ (t.port p).cmds = [] ∧
      (t.port p).ring.map (fun (x : Completion) => (x.tag, x.status)) = [(tag, stOk)] ∧
      t.ax n = a.setD (inWord (!a.mb.inPage) w.toNat) v))

/-- From a port with the debug function, on an axis the debug-permit fuses allow: HALT clears MISSED, halts the engine and freezes the pulse island at once, or is kept until the WAIT in progress has ended, or until the axis has an engine; RESUME makes the engine ACTIVE again, and the pulse island unfreezes with the drain of the tick in progress, or at once where none is; STEP executes the one instruction at the PC as a resume and a halt, and with no instruction to execute does nothing; DBGDATA writes the selected register of the halted selected axis, and completes NOT_PERMITTED where it is not halted. A breakpoint at the next instruction halts the axis; with none there nothing changes. No engine register and no other axis changes by HALT, RESUME or a breakpoint. Without the function or the fuse each command is refused NOT_PERMITTED. -/
def Obligations.Debug : Prop :=
  ∀ (p : Port) (tag : W16) (n : Ax) (e : Eng) (v : W64) (s : State),
    let a := s.ax n
    let m := s.dbgAxis
    let u := (((s.dput ENGINE_DBGCTL_AXIS n.val).resumeAxis n).stepEngine n).haltAxis n
    let ok := fun (t : State) => Done s t p tag stOk 15 []
    let no := fun (i : Instr) => Runs i s (fun t => Refused s t p stNotPermitted)
    let may := Calm s p ∧ s.func p fnDebug = true ∧ s.debugFuse n = true
    let mayNot := Calm s p ∧ (s.func p fnDebug = false ∨ s.debugFuse n = false)
    let only := fun (t : State) => t = { s with dev := t.dev, axes := t.axes, engines := t.engines, ports := t.ports } ∧
      (∀ b : Nat, b ≠ ENGINE_DBGCTL → t.dreg b = s.dreg b) ∧ OthersKept s t n ∧ ∀ d : Eng, (t.eng d).core = (s.eng d).core
    let halts := fun (t : State) => only t ∧ (t.ax n).halted = true ∧ (t.ax n).get AX_PTSTAT_FROZEN = 1 ∧ (t.eng e).pool = .halted ∧
      (t.ax n).run = a.run ∧ (t.ax n).gd = a.gd ∧ (t.ax n).st = a.st ∧ (t.ax n).missed = 0 ∧ ∀ d : Eng, d ≠ e → t.eng d = s.eng d
    let selects := fun (t : State) => ok t ∧ DevOnly s t ENGINE_DBGCTL ∧ t.dget ENGINE_DBGCTL_AXIS = n.val
    let later := fun (t : State) => ok t ∧ only t ∧ t.engines = s.engines ∧ t.ax n = { a with missed := 0, haltReq := true }
    let stopped := a.run.running = true ∧ a.run.wait = none ∧ a.halted = false ∧ s.atBreakpoint n = true
    (may → a.engine = some e → a.halted = false → a.run.wait = none → Runs (.halt p tag n) s (fun t => ok t ∧ halts t)) ∧
    (may → a.halted = false → a.run.wait ≠ none ∨ a.engine = none → Runs (.halt p tag n) s later) ∧
    (may → a.halted = true → Runs (.halt p tag n) s (fun t => ok t ∧ only t ∧ t.engines = s.engines ∧ t.ax n = { a with missed := 0 })) ∧
    (may → a.engine = some e → a.halted = true → a.run.running = true → Runs (.resume p tag n) s (fun t => ok t ∧ only t ∧
      (t.eng e).pool = .active ∧ t.ax n = { a with halted := false, haltReq := false, resuming := true })) ∧
    (may → a.engine = some e → a.halted = true → a.run.running = false → Runs (.resume p tag n) s (fun t => ok t ∧ only t ∧
      (t.eng e).pool = .active ∧ (t.ax n).halted = false ∧ (t.ax n).get AX_PTSTAT_FROZEN = 0 ∧ (t.ax n).st = a.st)) ∧
    (may → a.halted = false ∨ a.engine = none → Runs (.resume p tag n) s selects) ∧
    (may → a.halted = true → a.run.running = true → a.run.wait = none → Runs (.dbgctlStep p tag n) s (fun t => ok t ∧
      t = { u with ports := t.ports })) ∧
    (may → a.halted = false ∨ a.run.running = false ∨ a.run.wait ≠ none → Runs (.dbgctlStep p tag n) s selects) ∧
    (mayNot → no (.halt p tag n) ∧ no (.resume p tag n) ∧ no (.dbgctlStep p tag n)) ∧
    (Calm s p → s.func p fnDebug = true → s.debugFuse m = true → (s.ax m).halted = true → (s.ax m).engine = some e →
      Runs (.dbgdataWrite p tag v) s (fun t => ok t ∧ t = { s with engines := t.engines, ports := t.ports } ∧
        t.eng e = { s.eng e with core := (s.eng e).core.setDbg (s.dget ENGINE_DBGSEL_REG) v } ∧ ∀ d : Eng, d ≠ e → t.eng d = s.eng d)) ∧
    (Calm s p → s.func p fnDebug = true → s.debugFuse m = true → (s.ax m).halted = false ∨ (s.ax m).engine = none →
      Runs (.dbgdataWrite p tag v) s (fun t => Done s t p tag stNotPermitted 15 [] ∧ PortsOnly s t)) ∧
    (Calm s p → s.func p fnDebug = false ∨ s.debugFuse m = false → no (.dbgdataWrite p tag v)) ∧
    (a.engine = some e → stopped → Runs (.breakpoint n) s (fun t => halts t ∧ t.dev = s.dev ∧ t.ports = s.ports)) ∧
    (¬stopped → Runs (.breakpoint n) s (fun t => t = s))

/-- A command that fails an arrival check takes no slot and changes nothing but LASTREF and the answer its port carries; for a POST of axis n LASTREF shows, in this order, DEVICE_FAULT after the early power warning, NOT_PERMITTED once standby is requested, BAD_FRAME for a tag in use in G3, NOT_OWNER without ownership, QUEUE_FULL with sixteen slots taken; a port that is not up ignores it. A command that has not started SGL microseconds after its acceptance completes TIMEOUT and leaves (shown for one that stands alone); SANDGLASS_EXPIRY changes nothing before that, for a command that has started, for a tag that no command has, or while the system controller restarts. -/
def Obligations.RefusalsAndTimeouts : Prop :=
  ∀ (p : Port) (tag : W16) (n : Ax) (c : Cmd) (s : State),
    let q := s.port p
    let no := fun (st : Byte) => Runs (.post p tag n) s (fun t => Refused s t p st)
    let heard := s.portUp p = true ∧ s.pins.warning = false ∧ s.pins.standby = none
    let fresh := s.gen p ≠ 3 ∨ s.tagUsed p tag = false
    let due := fun (x : Cmd) => x.started = false ∧ x.at_ + s.dget (HOST_PCFG_SGL p.val) * usTicks ≤ s.clk ∧ s.pool.restart = false
    (s.portUp p = false → Runs (.post p tag n) s (fun t => t = s)) ∧
    (s.portUp p = true → s.pins.warning = true → no stDeviceFault) ∧
    (s.portUp p = true → s.pins.warning = false → s.pins.standby ≠ none → no stNotPermitted) ∧
    (heard → ¬fresh → no stBadFrame) ∧
    (heard → fresh → s.owns p n = false → no stNotOwner) ∧
    (heard → fresh → s.owns p n = true → 16 ≤ q.slots → no stQueueFull) ∧
    (q.cmds = [c] → c.tag = tag → due c → (∀ k : Port, k ≠ p → (s.port k).cmds = []) → (∀ m : Ax, s.aget m AX_MBCTL_PEND = 0) →
      Runs (.sandglassExpiry p tag) s (fun t => PortsOnly s t ∧ (t.port p).cmds = [] ∧
        (t.port p).ring.map (fun (x : Completion) => { x with sent := false, time := 0 }) =
          q.ring.map (fun (x : Completion) => { x with sent := false, time := 0 }) ++
          [{ tag := tag, status := stTimeout, axis := c.axisNo, data := [], time := 0, cseq := q.cseq, wrote := none, sent := false }])) ∧
    (q.cmds.find? (fun x => x.tag == tag) = some c → ¬due c → Runs (.sandglassExpiry p tag) s (fun t => t = s)) ∧
    (q.cmds.all (fun x => x.tag != tag) = true → Runs (.sandglassExpiry p tag) s (fun t => t = s))

/-- On the G1 port every 24-bit frame returns the inline answer that stands, else the oldest completion, which it acknowledges, else none. G1_NOP does only that. EXTA keeps the address for the next EXTD; EXTD writes one 16-bit slice of the register it names and completes by that register's rules, but waits while engine writes may still drain in the SYS cycle (R328) or the register's island does not run; a mailbox write stores DATA in bits [31:16] of the inbound word and posts, or waits while the mailbox is held; all three are refused NOT_OWNER without ownership of the G1 axis. A window read completes with the word that the window gives, and is refused NOT_OWNER below level READ; a read of 0x7F only returns the response. On a port of another generation, or one that is not up, nothing changes. -/
def Obligations.G1Rows : Prop :=
  ∀ (w : BitVec 4) (v : W16) (a : BitVec 7) (i : Instr) (s : State),
    let q := s.port 0
    let n := s.g1Axis
    let axis := BitVec.ofNat 4 n.val
    let reg := s.extReg 0
    let slice := s.extSlice 0
    let x := s.sliceValue 0 reg.toNat slice v
    let r := s.writeReg 0 q.nextTag reg.toNat x
    let rd : Op := .rd reg 1 (some slice)
    let perm := s.writePerm 0 reg.toNat x
    let out := fun (b : Nat) => ((s.ax n).dword (outWord (s.ax n).mb.outPage b) >>> 16) &&& 0xFFFF
    let value : Option W64 :=
      if a = 0x00 then some (s.readAx n AX_STATE &&& 0xFFFF)
      else if a = 0x02 then some ((s.readAx n AX_GDSTAT >>> 16) &&& 0xFFFF)
      else if 0x20 ≤ a.toNat ∧ a.toNat < 0x40 then some (out (a.toNat - 0x20))
      else if a = 0x70 then some (q.exta.setWidth 64)
      else if a = 0x71 then some ((s.readReg (some 0) reg.toNat >>> (16 * slice.toNat)) &&& 0xFFFF)
      else if a = 0x7D then some (BitVec.ofNat 64 n.val)
      else if a = 0x7E then some 0x0864
      else if a = 0x7F then none
      else some 0
    let ofAxis := a = 0 ∨ a = 2 ∨ a = 0x71 ∨ (0x20 ≤ a.toNat ∧ a.toNat < 0x40)
    let ready := a ≠ 0x71 ∨ s.islOk n (reg.toNat - (0x1000 + 0x200 * n.val)) = true
    let up := s.gen 0 = 1 ∧ s.portUp 0 = true
    let calm := s.gen 0 = 1 ∧ Calm s 0
    let word := fun (t : State) (k : Nat) => (t.ax n).dword (inWord (!(s.ax n).mb.inPage) k)
    let in_ := fun (k : Nat) => (s.ax n).dword (inWord (!(s.ax n).mb.inPage) k)
    (¬up → i ∈ [Instr.g1Nop, .exta v, .extd v, .g1MailboxWrite w v, .g1WindowRead a] → Runs i s (fun t => t = s)) ∧
    (up → q.inl ≠ [] → Runs .g1Nop s (fun t => PortsOnly s t ∧ (∀ k : Port, k ≠ 0 → t.port k = s.port k) ∧
      t.port 0 = { q with inl := [], lastOut := (g1Word q.inl.head?, none) })) ∧
    (up → q.inl = [] → q.ring = [] → Runs .g1Nop s (fun t => PortsOnly s t ∧ (∀ k : Port, k ≠ 0 → t.port k = s.port k) ∧
      t.port 0 = { q with lastOut := (g1Word none, none) })) ∧
    (up → q.inl = [] → q.ring ≠ [] → Runs .g1Nop s (fun t => PortsOnly s t ∧ (∀ k : Port, k ≠ 0 → t.port k = s.port k) ∧
      (t.port 0).lastOut = (g1Word q.ring.head?, q.ring.head?.map (·.cseq)) ∧ (t.port 0).cmds = q.cmds ∧
      (t.port 0).ring = q.ring.filter (fun y => some y.cseq != q.ring.head?.map (·.cseq)))) ∧
    (calm → s.owns 0 n = true → Runs (.exta v) s (fun t => Done s t 0 0 stOk 15 [0] ∧ (t.port 0).exta = (v &&& 0xC1FF) ∧ PortsOnly s t)) ∧
    (calm → s.owns 0 n = false → Runs (.exta v) s (fun t => Refused s t 0 stNotOwner ∧ (t.port 0).exta = q.exta)) ∧
    (calm → perm ≠ none → Runs (.extd v) s (fun t => Refused s t 0 (perm.getD 0))) ∧
    (calm → perm = none → s.regReady reg.toNat x = false ∨ s.mayDrain = true → s.cycleEnd = false → Runs (.extd v) s (fun t =>
      InFlight s t 0 0 (.wrSlice reg slice v) false ∧ PortsOnly s t)) ∧
    (calm → perm = none → s.regReady reg.toNat x = true → s.mayDrain = false → ∀ st : Fin 15, r.2 = .done (BitVec.ofNat 8 st.val) →
      Runs (.extd v) s (fun t => Done s t 0 0 (BitVec.ofNat 8 st.val) axis [] ∧ t = { r.1 with ports := t.ports })) ∧
    (calm → s.owns 0 n = true → s.mbFree n = true → Runs (.g1MailboxWrite w v) s (fun t => Done s t 0 0 stOk axis [] ∧ OthersKept s t n ∧
      word t w.toNat = (v.setWidth 64 <<< 16) ∧ (∀ k : Fin 16, k.val ≠ w.toNat → word t k.val = in_ k.val) ∧
      (s.ticks n = true → (t.ax n).get AX_MBCTL_PEND = 1 ∧ (t.ax n).mb = (s.ax n).mb) ∧
      (s.ticks n = false → (t.ax n).get AX_MBCTL_PEND = 0 ∧ (t.ax n).mb.inPage = !(s.ax n).mb.inPage ∧
        (t.ax n).get AX_MBCTL_ISEQ = ((s.ax n).get AX_MBCTL_ISEQ + 1) % 65536))) ∧
    (calm → s.owns 0 n = true → s.mbFree n = false → Runs (.g1MailboxWrite w v) s (fun t =>
      InFlight s t 0 0 (.mbox n w [v.setWidth 64 <<< 16] true) false ∧ PortsOnly s t)) ∧
    (calm → s.owns 0 n = false → Runs (.g1MailboxWrite w v) s (fun t => Refused s t 0 stNotOwner)) ∧
    (calm → s.permLevel 0 n ≠ 0 → ready → value ≠ none → Runs (.g1WindowRead a) s (fun t =>
      Done s t 0 0 stOk (if ofAxis then axis else 15) [value.getD 0] ∧ PortsOnly s t)) ∧
    (calm → s.permLevel 0 n ≠ 0 → ¬ready → Runs (.g1WindowRead a) s (fun t => InFlight s t 0 0 rd false ∧ PortsOnly s t)) ∧
    (calm → s.permLevel 0 n = 0 → a ≠ 0x7F → Runs (.g1WindowRead a) s (fun t => Refused s t 0 stNotOwner)) ∧
    (up → a = 0x7F → Runs (.g1WindowRead a) s (fun t => t = s.g1Respond 0 true))

/-- On a G2 SPI port a POLL returns the inline answer, else the response a REPEAT asked for, else the oldest completion not yet sent, else none; without REPEAT it acknowledges the completion that the last frame carried, with REPEAT it keeps it and the last response for the next frame. On CAN FD a POLL with REPEAT asks for the word sent last in a frame of its own (log 128), and any other POLL changes nothing. ADDR and MBPTR set their pointers; MBWR writes one quarter of the inbound word under the pointer, which advances, or waits while the mailbox is held; RD reads and WR writes the addressed slice of the register at ADDR, by that register's rules, each waiting while its island does not run and WR while engine writes may still drain in the SYS cycle; NTF returns the parts of the oldest notification and its fourth part takes it off the queue. What the arrival checks refuse changes no pointer. A CAN frame that has been sent carried the repeated word, else the older of the oldest inline answer and the oldest completion, which it acknowledges. On a port of another generation, or one that is not up, nothing changes. -/
def Obligations.G2Rows : Prop :=
  ∀ (p : Port) (n : Ax) (k : BitVec 2) (v : W16) (part : BitVec 2) (rep : Bool) (i : Instr) (s : State),
    let q := s.port p
    let axis := BitVec.ofNat 4 n.val
    let a := q.addr.toNat
    let rd : Op := .rd q.addr 1 (some k)
    let wr : Op := .wrSlice q.addr k v
    let x := s.sliceValue p a k v
    let r := s.writeReg p q.nextTag a x
    let ptr := q.mbptr[n]
    let mb : Op := .mbq n (ptr.setWidth 4) ((ptr >>> 4).setWidth 2) v
    let w := (s.ax n).dword (inWord (!(s.ax n).mb.inPage) (ptr.toNat % 16))
    let sh := 16 * (ptr.toNat / 16)
    let next := BitVec.ofNat 6 (((ptr.toNat / 16 + 1) % 4) * 16 + (if ptr.toNat / 16 = 3 then ptr.toNat % 16 + 1 else ptr.toNat) % 16)
    let note : W64 := match q.notes.head? with
      | some m => if part = 0 then m.code.setWidth 64 else if part = 1 then m.value.setWidth 64 &&& 0xFFFF
                  else if part = 2 then (m.value >>> 16).setWidth 64 else m.axis.setWidth 64
      | none => 0
    let prev := q.lastOut
    let cur : W32 × Option W16 := match q.inl.head?, q.again, q.ring.find? (fun c => !c.sent) with
      | some c, _, _ => (g2Resp (some c), none)
      | none, some z, _ => z
      | none, none, some c => (g2Resp (some c), some c.cseq)
      | none, none, none => (g2Resp none, none)
    let up := s.gen p = 2 ∧ s.portUp p = true
    let calm := s.gen p = 2 ∧ Calm s p
    let others := fun (t : State) => PortsOnly s t ∧ ∀ j : Port, j ≠ p → t.port j = s.port j
    let can := p = 2 ∧ up ∧ s.dget HOST_CANSTAT_STATE ≠ 2
    let sends := fun (t : State) (z : W32) => others t ∧ (t.port p).lastOut = (z, none) ∧ (t.port p).cmds = q.cmds ∧
      (t.port p).sentFrames = [s.canFrame (s.dget HOST_CANBT_FDEN == 1) (bytes4 z)]
    let inlFirst := ∀ c ∈ q.inl.head?, ∀ y ∈ q.ring.head?, later y.cseq c.cseq = false
    (¬up → i ∈ [Instr.poll p rep, .addr p v, .mbptr p n v, .mbwr p n v, .rd p k, .wr p k v, .ntf p part, .g2CanCompletionSent p] →
      Runs i s (fun t => t = s)) ∧
    (up → p.val < 2 → Runs (.poll p rep) s (fun t => others t ∧ (t.port p).cmds = q.cmds ∧ (t.port p).lastOut = cur ∧ (t.port p).inl = [] ∧
      (t.port p).again = (if rep then some prev else if q.inl = [] then none else q.again) ∧
      (t.port p).ring = (if rep then q.ring else q.ring.filter (fun c => prev.2 != some c.cseq)).map
        (fun c => if cur.2 = some c.cseq then { c with sent := true } else c))) ∧
    (up → 2 ≤ p.val → rep = true → q.sentFrames ≠ [] → Runs (.poll p rep) s (fun t => others t ∧
      t.port p = { q with again := some (prev.1, none) })) ∧
    (up → 2 ≤ p.val → rep = false ∨ q.sentFrames = [] → Runs (.poll p rep) s (fun t => t = s)) ∧
    (calm → Runs (.addr p v) s (fun t => Done s t p 0 stOk 15 [0] ∧ (t.port p).addr = v ∧ PortsOnly s t)) ∧
    (calm → Runs (.mbptr p n v) s (fun t => Done s t p 0 stOk 15 [0] ∧ (t.port p).mbptr[n] = v.setWidth 6 ∧
      (∀ m : Ax, m ≠ n → (t.port p).mbptr[m] = q.mbptr[m]) ∧ PortsOnly s t)) ∧
    (calm → Runs (.ntf p part) s (fun t => Done s t p 0 stOk 15 [note] ∧
      (t.port p).notes.map (·.nseq) = (if part = 3 then q.notes.drop 1 else q.notes).map (·.nseq) ∧ PortsOnly s t)) ∧
    (calm → s.arrival p 0 rd = none → s.readNow p rd ≠ none → Runs (.rd p k) s (fun t =>
      Done s t p 0 stOk rd.axisNo [(((s.taking p 0 rd).readReg (some p) a >>> (16 * k.toNat)) &&& 0xFFFF)] ∧ PortsOnly s t)) ∧
    (calm → s.arrival p 0 rd = none → s.readNow p rd = none → Runs (.rd p k) s (fun t => InFlight s t p 0 rd false ∧ PortsOnly s t)) ∧
    (calm → s.arrival p 0 rd ≠ none → Runs (.rd p k) s (fun t => Refused s t p ((s.arrival p 0 rd).getD 0))) ∧
    (calm → s.arrival p 0 wr = none → s.regReady a x = true → s.mayDrain = false → ∀ st : Fin 15, r.2 = .done (BitVec.ofNat 8 st.val) →
      Runs (.wr p k v) s (fun t => Done s t p 0 (BitVec.ofNat 8 st.val) wr.axisNo [] ∧ t = { r.1 with ports := t.ports })) ∧
    (calm → s.arrival p 0 wr = none → s.regReady a x = false ∨ s.mayDrain = true → s.cycleEnd = false → Runs (.wr p k v) s (fun t =>
      InFlight s t p 0 wr false ∧ PortsOnly s t)) ∧
    (calm → s.arrival p 0 wr ≠ none → Runs (.wr p k v) s (fun t => Refused s t p ((s.arrival p 0 wr).getD 0))) ∧
    (calm → s.owns p n = true → s.mbFree n = true → Runs (.mbwr p n v) s (fun t => Done s t p 0 stOk axis [] ∧ OthersKept s t n ∧
      t = { s with axes := t.axes, ports := t.ports } ∧ (t.port p).mbptr[n] = next ∧ t.ax n =
        (s.ax n).setD (inWord (!(s.ax n).mb.inPage) (ptr.toNat % 16)) ((w &&& ~~~((0xFFFF : W64) <<< sh)) ||| (v.setWidth 64 <<< sh)))) ∧
    (calm → s.owns p n = true → s.mbFree n = false → Runs (.mbwr p n v) s (fun t => InFlight s t p 0 mb false ∧ PortsOnly s t ∧
      (t.port p).mbptr[n] = next)) ∧
    (calm → s.owns p n = false → Runs (.mbwr p n v) s (fun t => Refused s t p stNotOwner ∧ (t.port p).mbptr[n] = ptr)) ∧
    (can → q.again ≠ none → Runs (.g2CanCompletionSent p) s (fun t => sends t ((q.again.getD (0, none)).1) ∧ (t.port p).again = none ∧
      (t.port p).inl = q.inl ∧ (t.port p).ring = q.ring)) ∧
    (can → q.again = none → q.inl ≠ [] → inlFirst → Runs (.g2CanCompletionSent p) s (fun t => sends t (g2Resp q.inl.head?) ∧
      (t.port p).inl = q.inl.drop 1 ∧ (t.port p).ring = q.ring)) ∧
    (can → q.again = none → q.ring ≠ [] → q.inl = [] ∨ ¬inlFirst → Runs (.g2CanCompletionSent p) s (fun t => sends t (g2Resp q.ring.head?) ∧
      (t.port p).inl = q.inl ∧ (t.port p).ring = q.ring.filter (fun y => some y.cseq != q.ring.head?.map (·.cseq)))) ∧
    (¬can ∨ (q.again = none ∧ q.inl = [] ∧ q.ring = []) → Runs (.g2CanCompletionSent p) s (fun t => t = s))

/-- On a G3 port a READ that passes the arrival checks completes with the values of its registers, or waits while an island it addresses does not run. A WRITE applies its registers in address order and stops at the first that is refused, keeping those before it and reporting how many were written; one of no values or of more than 64 is refused BAD_FRAME. PING answers OK inline and takes no slot, BAD_FRAME under a tag in use. LINK_ACK frees the completions and notifications sent up to the numbers it names and no others. A discarded packet counts LINK_CRC, empties the receiver and sends a discard packet. What the arrival checks refuse changes nothing but LASTREF. On a port of another generation, or one that is not up, nothing changes. -/
def Obligations.G3Rows : Prop :=
  ∀ (p : Port) (tag a cseq nseq : W16) (crw nrw : Bool) (cnt : BitVec 6) (vs : List W64) (v w : W64) (c : Completion) (l1 l2 : List Completion) (i : Instr) (s : State),
    let q := s.port p
    let rd : Op := .rd a (cnt.toNat + 1) none
    let wr : Op := .wr a vs
    let r := s.writeRegs p tag none a.toNat vs
    let ended := match r.2 with | .fin st ws => some (st, vs.length - ws.length) | _ => none
    let inlineOk : Completion := { tag := tag, status := stOk, axis := 15, data := [], time := s.time, cseq := 0, wrote := none, sent := false }
    let out := fun (t : State) (ws : List W64) =>
      if p.val < 2 then (t.port p).tx = q.tx ++ ws
      else if p = 3 then (t.port p).sentBytes = uartWrap (wireWords ws)
      else s.canCarries = true → (t.port p).sentFrames = (canSegments ws.length 0 ws).map (s.canFrame true)
    let up := s.gen p = 3 ∧ s.portUp p = true
    let calm := s.gen p = 3 ∧ Calm s p
    let heard := up ∧ s.pins.warning = false ∧ s.pins.standby = none
    let size := vs ≠ [] ∧ vs.length ≤ 64
    let others := fun (t : State) => ∀ k : Port, k ≠ p → t.port k = s.port k
    (¬up → i ∈ [Instr.read p tag a cnt, .write p tag a vs, .ping p tag, .linkAck p cseq nseq crw nrw, .packetDiscard p] →
      Runs i s (fun t => t = s)) ∧
    (calm → s.arrival p tag rd = none → s.readNow p rd ≠ none → Runs (.read p tag a cnt) s (fun t =>
      Done s t p tag stOk rd.axisNo ((List.range (cnt.toNat + 1)).map (fun j => (s.taking p tag rd).readReg (some p) (a.toNat + j))) ∧ PortsOnly s t)) ∧
    (calm → s.arrival p tag rd = none → s.readNow p rd = none → Runs (.read p tag a cnt) s (fun t =>
      InFlight s t p tag rd false ∧ PortsOnly s t)) ∧
    (calm → s.arrival p tag rd ≠ none → Runs (.read p tag a cnt) s (fun t => Refused s t p ((s.arrival p tag rd).getD 0))) ∧
    (heard → ¬size → Runs (.write p tag a vs) s (fun t => Refused s t p stBadFrame)) ∧
    (calm → size → s.arrival p tag wr ≠ none → Runs (.write p tag a vs) s (fun t => Refused s t p ((s.arrival p tag wr).getD 0))) ∧
    (calm → size → s.arrival p tag wr = none → ended ≠ none → Runs (.write p tag a vs) s (fun t =>
      Done s t p tag (ended.getD (0, 0)).1 wr.axisNo [] ∧ t = { r.1 with ports := t.ports } ∧
      (t.port p).ring.map (·.wrote) = [if (ended.getD (0, 0)).1 = stOk then none else some (BitVec.ofNat 16 (ended.getD (0, 0)).2)])) ∧
    (calm → s.func p fnFuse = true → vs ≠ [] → vs.length ≤ 6 → Runs (.write p tag 0x802 vs) s (fun t => Done s t p tag stOk 15 [] ∧
      (∀ j : Fin 6, (t.port p).fuseData[j] = if j.val < vs.length then vs.getD j.val 0 else q.fuseData[j]) ∧ PortsOnly s t)) ∧
    (calm → s.isSvc p = true → s.devRangeOk 0xA24 v = true → s.devRangeOk 0xA25 w = false → Runs (.write p tag 0xA24 [v, w]) s (fun t =>
      Done s t p tag stBadFrame 15 [] ∧ DevOnly s t 0xA24 ∧ t.dreg 0xA24 = writtenDev s 0xA24 v ∧ (t.port p).ring.map (·.wrote) = [some 1])) ∧
    (calm → s.isSvc p = true → s.devRangeOk 0xA24 v = true → s.devRangeOk 0xA25 w = true → Runs (.write p tag 0xA24 [v, w]) s (fun t =>
      Done s t p tag stOk 15 [] ∧ t = { s with dev := t.dev, ports := t.ports } ∧ t.dreg 0xA24 = writtenDev s 0xA24 v ∧
      t.dreg 0xA25 = writtenDev s 0xA25 w ∧ ∀ b : Nat, b ≠ 0xA24 → b ≠ 0xA25 → t.dreg b = s.dreg b)) ∧
    (heard → s.tagUsed p tag = false → Runs (.ping p tag) s (fun t => PortsOnly s t ∧ others t ∧ (t.port p).cmds = q.cmds ∧
      (t.port p).ring = q.ring ∧ out t (inlineOk.packet true))) ∧
    (heard → s.tagUsed p tag = true → Runs (.ping p tag) s (fun t => Refused s t p stBadFrame)) ∧
    (up → NoCommands s → (∀ n : Ax, s.aget n AX_MBCTL_PEND = 0) → Runs (.linkAck p cseq nseq crw nrw) s (fun t => PortsOnly s t ∧
      (t.port p).cmds = [] ∧ (t.port p).ring.map (·.cseq) = (ackUpto (·.sent) (·.cseq) cseq q.ring).map (·.cseq) ∧
      (t.port p).notes.map (·.nseq) = (ackUpto (·.sent) (·.nseq) nseq q.notes).map (·.nseq) ∧
      ∀ k : Port, (t.port k).cmds = [])) ∧
    (l1.all (fun y => y.sent && y.cseq != c.cseq) = true → c.sent = true → ackUpto (·.sent) (·.cseq) c.cseq (l1 ++ c :: l2) = l2) ∧
    (l1.all (fun y => y.cseq != cseq) = true → ackUpto (·.sent) (·.cseq) cseq l1 = l1) ∧
    (up → Runs (.packetDiscard p) s (fun t => CountedDev s t (FAULT_LINK_LINK_CRC p.val) ∧ LastFault t 36 (10 + p.val) ∧
      (t.port p).rx = [] ∧ (t.port p).rxSeg = none ∧ (t.port p).discards = q.discards + 1 ∧ (t.port p).cmds = q.cmds ∧
      (t.port p).ring = q.ring ∧ t.axes = s.axes ∧ out t (g3Packet 4 1 0 15 (q.discards + 1) 0 [])))

/-- A frame for an SPI port that is not up, or of a port that is none, changes nothing. A 24-bit frame on the G1 port is the window access its bits spell; a 32-bit frame with a good CRC on a G2 port is the command its fields spell, after its response, and on CAN FD a frame with the port's identifier likewise; a G2 command code from 12 up, a frame of another length and one with a bad CRC (which also counts LINK_CRC) are refused BAD_FRAME. On a G3 SPI port a PING packet is answered as a PING after the words that went out, and a frame that ends inside a word is discarded; on CAN FD a PING packet in one segment is a PING, and a classic frame is refused BAD_FRAME. A CAN frame with another identifier or format is ignored. Error counts carry an enabled CAN node to error passive and bus-off, and a recovery, where ABOR allows it, clears them; nothing else of the device changes. -/
def Obligations.Frames : Prop :=
  ∀ (p : Port) (a : BitVec 7) (n : Ax) (w : BitVec 4) (k : BitVec 2) (v : W16) (tag : W16) (bits : List Bool) (ident : BitVec 29) (ext fd remote : Bool) (data : List Byte) (tec rec_ : BitVec 9) (cmd : Fin 4) (s : State),
    let q := s.port p
    let ping := g3Packet 1 0x0C tag 15 0 0 []
    let inlineOk : Completion := { tag := tag, status := stOk, axis := 15, data := [], time := s.time, cseq := 0, wrote := none, sent := false }
    let fed := ((s.feed p).port p).tx
    let g1 := s.gen 0 = 1 ∧ s.portUp 0 = true
    let g2 := p.val < 2 ∧ s.gen p = 2 ∧ s.portUp p = true
    let g3 := p.val < 2 ∧ s.gen p = 3 ∧ s.portUp p = true
    let can2 := s.canTakes ident ext fd false = true ∧ s.gen 2 = 2
    let can3 := s.canTakes ident ext fd false = true ∧ s.gen 2 = 3
    let as1 := fun (m : Nat) (i : Instr) => Runs (.spiFrame 0 (msbBits 24 m)) s (fun t => exec i s = .next t)
    let as2 := fun (c ax : Nat) (d : W16) (i : Instr) => Runs (.spiFrame p (msbBits 32 (g2Cmd c ax d).toNat)) s (fun t => exec i s = .next t)
    let after := fun (c ax : Nat) (d : W16) (i : Instr) => Runs (.spiFrame p (msbBits 32 (g2Cmd c ax d).toNat)) s (fun t =>
      exec i (s.g2Respond p true false) = .next t)
    let asC := fun (c ax : Nat) (d : W16) (i : Instr) => Runs (.canFrame ident ext fd false (bytes4 (g2Cmd c ax d))) s (fun t => exec i s = .next t)
    let bad := fun (i : Instr) (p : Port) => Runs i s (fun t => t.dget (HOST_QSTAT_LASTREF p.val) = stBadFrame.toNat ∧
      (t.port p).cmds = (s.port p).cmds ∧ t.axes = s.axes ∧ (t.port p).inl.getLast?.map (·.status) = some stBadFrame)
    let st := if 255 < tec.toNat then 2 else if 127 < tec.toNat ∨ 127 < rec_.toNat then 1 else 0
    let counts := s.dget (HOST_PCFG_EN 2) = 1 ∧ s.dget HOST_CANSTAT_STATE ≠ 2
    let recovers := s.dget HOST_CANSTAT_STATE = 2 ∧ s.dget HOST_CANBT_ABOR = 1 ∧ s.dget (HOST_PCFG_EN 2) = 1
    (2 ≤ p.val ∨ s.portUp p = false → Runs (.spiFrame p bits) s (fun t => t = s)) ∧
    (g1 → as1 (a.toNat * 2 ^ 16 + v.toNat) (.g1WindowRead a) ∧ as1 ((128 + 0x70) * 2 ^ 16 + v.toNat) (.exta v) ∧
      as1 ((128 + 0x71) * 2 ^ 16 + v.toNat) (.extd v) ∧ as1 ((128 + 0x10 + w.toNat) * 2 ^ 16 + v.toNat) (.g1MailboxWrite w v) ∧
      as1 (0x7F * 2 ^ 16 + v.toNat) .g1Nop) ∧
    (g1 → bits.length ≠ 24 → bad (.spiFrame 0 bits) 0) ∧
    (g2 → as2 8 15 v (.addr p v) ∧ as2 5 n.val v (.mbptr p n v) ∧ as2 6 n.val v (.mbwr p n v) ∧ as2 9 k.toNat 0 (.rd p k) ∧
      as2 10 k.toNat v (.wr p k v) ∧ as2 0 0 0 (.poll p false) ∧ as2 0 0 1 (.poll p true)) ∧
    (g2 → as2 11 15 (k.setWidth 16) (.ntf p k)) ∧
    (g2 → after 1 n.val v (.enable p 0 n) ∧ after 2 n.val v (.stop p 0 n) ∧ after 3 n.val v (.clear p 0 n) ∧ after 7 n.val v (.post p 0 n) ∧
      after 4 n.val 1 (.claim p 0 n) ∧ after 4 n.val 2 (.release p 0 n) ∧ after 4 n.val 3 (.forceClaim p 0 n)) ∧
    (g2 → bad (.spiFrame p (msbBits 32 (g2Cmd (12 + cmd.val) n.val v).toNat)) p) ∧
    (g2 → bits.length ≠ 32 → bad (.spiFrame p bits) p) ∧
    (g2 → bits.length = 32 → g2Word (bitsNat bits / 256) ≠ BitVec.ofNat 32 (bitsNat bits) → bad (.spiFrame p bits) p) ∧
    (g2 → bits.length = 32 → g2Word (bitsNat bits / 256) ≠ BitVec.ofNat 32 (bitsNat bits) → Runs (.spiFrame p bits) s (fun t =>
      CountedDev s t (FAULT_LINK_LINK_CRC p.val))) ∧
    (g3 → s.pins.warning = false → s.pins.standby = none → s.tagUsed p tag = false → q.rx = [] → q.skip = 0 →
      Runs (.spiFrame p ((wireWords ping).flatMap (fun b => msbBits 8 b.toNat))) s (fun t => PortsOnly s t ∧ (t.port p).cmds = q.cmds ∧
        (t.port p).rx = [] ∧ (t.port p).tx = fed.drop 2 ++ inlineOk.packet true)) ∧
    (g3 → bits.length < 72 → bits ≠ [] → Runs (.spiFrame p bits) s (fun t => CountedDev s t (FAULT_LINK_LINK_CRC p.val) ∧
      (t.port p).rx = [] ∧ (t.port p).discards = q.discards + 1 ∧ (t.port p).cmds = q.cmds ∧ t.axes = s.axes)) ∧
    (s.canTakes ident ext fd remote = false → Runs (.canFrame ident ext fd remote data) s (fun t => t = s)) ∧
    (can2 → asC 1 n.val v (.enable 2 0 n) ∧ asC 2 n.val v (.stop 2 0 n) ∧ asC 3 n.val v (.clear 2 0 n) ∧ asC 4 n.val 1 (.claim 2 0 n) ∧
      asC 5 n.val v (.mbptr 2 n v) ∧ asC 6 n.val v (.mbwr 2 n v) ∧ asC 7 n.val v (.post 2 0 n) ∧ asC 8 15 v (.addr 2 v) ∧
      asC 9 k.toNat 0 (.rd 2 k) ∧ asC 10 k.toNat v (.wr 2 k v) ∧ asC 11 15 (k.setWidth 16) (.ntf 2 k)) ∧
    (can2 → data.length ≠ 4 → bad (.canFrame ident ext fd false data) 2) ∧
    (can3 → fd = true → (s.port 2).rx = [] → (s.port 2).rxSeg = none → (s.port 2).skip = 0 →
      Runs (.canFrame ident ext true false (0xC0 :: wireWords ping ++ [0])) s (fun t => exec (.ping 2 tag) s = .next t)) ∧
    (can3 → fd = false → Runs (.canFrame ident ext false false data) s (fun t => Refused s t 2 stBadFrame)) ∧
    (counts → Runs (.canBusOff tec rec_) s (fun t => DevOnly s t HOST_CANSTAT ∧ t.ports = s.ports ∧ t.dget HOST_CANSTAT_STATE = st ∧
      t.dget HOST_CANSTAT_TEC = min 255 tec.toNat ∧ t.dget HOST_CANSTAT_REC = min 255 rec_.toNat)) ∧
    (¬counts → Runs (.canBusOff tec rec_) s (fun t => t = s)) ∧
    (recovers → Runs .canBusOffRecovery s (fun t => DevOnly s t HOST_CANSTAT ∧ t.dget HOST_CANSTAT_STATE = 0 ∧ t.dget HOST_CANSTAT_TEC = 0 ∧
      t.dget HOST_CANSTAT_REC = 0)) ∧
    (¬recovers → Runs .canBusOffRecovery s (fun t => t = s))

/-- A permitted LOAD_BEGIN starts a load, one that is stored only where the Cistern and write admission allow it; one while another port's load runs completes NOT_PERMITTED, and one while its own runs abandons that with BAD_FRAME first. The next chunk in time appends its words; a wrong number or length, or one that comes too late, abandons the load with BAD_FRAME. LOAD_END in time of a load that is not stored completes with the verdict of the checks: BAD_FRAME or FAILED_AUTH on its form, else as the image applies; when it completes OK every axis of the mask has the program, data and level of its section and a cleared engine. LOAD_END of a stored load of good form queues its COMMIT record and waits. More than 100 ms without a part abandons a load or a USER stream, less does not. APPLY_BOOT applies the current BOOT bank, completes BAD_FRAME without one, and NOT_PERMITTED while another port's load runs. A part under the tag of another command is refused BAD_FRAME. Without the permissions LOAD_BEGIN and APPLY_BOOT are refused NOT_PERMITTED or NOT_OWNER; on a port of another generation nothing changes. -/
def Obligations.CaravanLoads : Prop :=
  ∀ (p : Port) (tag chunk : W16) (mask : Byte) (store : Bool) (n : Ax) (ws : List W64) (c : Cmd) (l : Load) (z : Stream) (b : Fin 2) (x : Image) (y : Section) (i : Instr) (s : State),
    let fits := 1 ≤ ws.length ∧ ws.length ≤ 1023 ∧ l.words.length + ws.length ≤ 131072
    let r := s.applyImage l.words l.mask 1
    let bank := s.store.banks[b].image.getD []
    let ab := s.applyImage bank mask (bankSrc b)
    let loader := s.func p fnLoad = true ∧ (store = true → s.func p fnCistern = true)
    let own := (maskAxes mask).all (fun m => s.owns p m) = true
    let calm := s.gen p = 3 ∧ Calm s p
    let idle := calm ∧ s.load = none
    let begun : Load := { port := p, tag := tag, mask := mask, store := store, next := 0, words := [], last := s.clk, began := s.time, waiting := false }
    let kept := fun (t : State) => t.axes = s.axes ∧ t.engines = s.engines ∧ t.fuses = s.fuses ∧ t.clk = s.clk ∧ t.pending = s.pending
    let no := fun (i : Instr) (st : Byte) => Runs i s (fun t => Refused s t p st)
    let done := fun (i : Instr) (st : Byte) => Runs i s (fun t => Done s t p tag st 15 [] ∧ kept t ∧ t.load = s.load)
    let mine := s.gen p = 3 ∧ Serving s p c ∧ s.load = some l ∧ l.port = p ∧ l.tag = c.tag ∧ l.waiting = false ∧ s.stream = none
    let inTime := s.clk ≤ l.last + partTicks
    let ends := fun (i : Instr) (st : Byte) => Runs i s (fun t => Ends s t p c st [] ∧ t.load = none ∧ kept t)
    let stays := fun (t : State) (u : Load) => kept t ∧ t.load = some u ∧ (t.port p).cmds = [c] ∧ (t.port p).ring = []
    (s.gen p ≠ 3 → i ∈ [Instr.loadBegin p tag mask store, .loadData p tag chunk ws, .loadEnd p tag, .applyBoot p tag mask] → Runs i s (fun t => t = s)) ∧
    (idle → loader → own → store = false → Runs (.loadBegin p tag mask store) s (fun t => InFlight s t p tag (.load mask store) true ∧
      t = { s with load := some begun, ports := t.ports })) ∧
    (idle → loader → own → store = true → s.cis = cisReady → s.admHeld p = false → Runs (.loadBegin p tag mask store) s (fun t =>
      InFlight s t p tag (.load mask store) true ∧ t.load = some begun ∧ t.dget CISTERN_ADM_HOLDER = p.val ∧
      t.store.banks[s.inactiveBank].valid = false ∧ (∀ j : Fin 2, j ≠ s.inactiveBank → t.store.banks[j] = s.store.banks[j]) ∧ kept t)) ∧
    (idle → loader → own → store = true → s.cis = cisReady → s.admHeld p = true → done (.loadBegin p tag mask store) stNotPermitted) ∧
    (idle → loader → own → store = true → s.cis = cisMounting ∨ s.cis = cisFormatting → done (.loadBegin p tag mask store) stNotPermitted) ∧
    (idle → loader → own → store = true → s.cis = cisNone ∨ s.cis = cisFailed ∨ s.cis = cisBlank ∨ s.cis = cisPowerfail →
      done (.loadBegin p tag mask store) stDeviceFault) ∧
    (calm → loader → own → s.load = some l → l.port ≠ p → done (.loadBegin p tag mask store) stNotPermitted) ∧
    (mine → loader → own → tag ≠ c.tag → s.pins.warning = false → s.pins.standby = none → store = false → (∀ j ∈ s.pending, s.requests j = []) →
      Runs (.loadBegin p tag mask store) s (fun t => t.load = some begun ∧ kept t ∧
        (t.port p).cmds.map (fun c => (c.tag, c.op)) = [(tag, .load mask store)] ∧
        (t.port p).ring.map (fun c => (c.tag, c.status)) = [(c.tag, stBadFrame)])) ∧
    (idle → ¬loader → no (.loadBegin p tag mask store) stNotPermitted) ∧
    (idle → loader → ¬own → no (.loadBegin p tag mask store) stNotOwner) ∧
    (idle → s.func p fnLoad = false → no (.applyBoot p tag mask) stNotPermitted) ∧
    (idle → s.func p fnLoad = true → ¬own → no (.applyBoot p tag mask) stNotOwner) ∧
    (idle → s.func p fnLoad = true → own → s.currentBank = none → done (.applyBoot p tag mask) stBadFrame) ∧
    (calm → s.func p fnLoad = true → own → s.load = some l → l.port ≠ p → done (.applyBoot p tag mask) stNotPermitted) ∧
    (idle → s.func p fnLoad = true → own → s.currentBank = some b → s.checkForm bank ≠ stOk → done (.applyBoot p tag mask) (s.checkForm bank)) ∧
    (idle → s.func p fnLoad = true → own → s.currentBank = some b → s.checkForm bank = stOk → Runs (.applyBoot p tag mask) s (fun t =>
      Done s t p tag ab.2 15 [] ∧ t.axes = ab.1.axes ∧ t.engines = ab.1.engines ∧ t.shared = ab.1.shared ∧ t.load = none)) ∧
    (mine → inTime → chunk.toNat = l.next % 65536 → fits → Runs (.loadData p c.tag chunk ws) s (fun t =>
      stays t { l with next := l.next + 1, words := l.words ++ ws, last := s.clk })) ∧
    (mine → inTime → chunk.toNat ≠ l.next % 65536 ∨ ¬fits → ends (.loadData p c.tag chunk ws) stBadFrame) ∧
    (mine → ¬inTime → ends (.loadData p c.tag chunk ws) stBadFrame ∧ ends (.loadEnd p c.tag) stBadFrame ∧ ends (.loadAbandon p) stBadFrame) ∧
    (mine → inTime → Runs (.loadAbandon p) s (fun t => t = { s with ports := t.ports } ∧ (t.port p).cmds = [c])) ∧
    (s.gen p = 3 → Serving s p c → s.load = none → s.stream = some z → z.port = p → z.tag = c.tag → z.waiting = false →
      z.last + partTicks < s.clk → Runs (.loadAbandon p) s (fun t => Ends s t p c stBadFrame [] ∧ t.stream = none ∧ kept t)) ∧
    (mine → inTime → s.checkForm l.words ≠ stOk → ends (.loadEnd p c.tag) (s.checkForm l.words)) ∧
    (mine → inTime → s.checkForm l.words = stOk → l.store = true → Runs (.loadEnd p c.tag) s (fun t => stays t { l with waiting := true } ∧
      t.store.bootQ.length = s.store.bootQ.length + 1)) ∧
    (mine → inTime → s.checkForm l.words = stOk → l.store = false → Runs (.loadEnd p c.tag) s (fun t => Ends s t p c r.2 [] ∧
      t.load = none ∧ t.axes = r.1.axes ∧ t.engines = r.1.engines ∧ t.shared = r.1.shared)) ∧
    (mine → inTime → s.checkForm l.words = stOk → l.store = false → r.2 = stOk → l.mask.getLsbD n.val = true →
      parseImage l.words = some x → x.secOf n = some y → Runs (.loadEnd p c.tag) s (fun t =>
        (t.ax n).p = packWords 0 y.prog ∧ (t.ax n).d = packWords 0x100 y.data ∧ t.level n = x.level ∧ (t.ax n).withdrawn = false ∧
        (t.ax n).run.running = false ∧ (t.ax n).st = .off ∧
        ∀ e : Eng, (s.ax n).engine = some e → s.bound = true → (t.eng e).core = Core.reset)) ∧
    (s.gen p = 3 → Serving s p c → s.load = none → s.stream = none → s.pins.warning = false → s.pins.standby = none →
      no (.loadData p c.tag chunk ws) stBadFrame ∧ no (.loadEnd p c.tag) stBadFrame)

/-- A mount ends READY, BLANK without a checkpoint, or FAILED with wrong IDs (cause 7) or a TRACE below 16 MiB; the mount of a boot ends the boot. REMOUNT runs it again, completes FAILED_DEVICE_FAULT where there is no Cistern and NOT_PERMITTED while it formats or in POWERFAIL. FORMAT by an SVC port with its key enters FORMATTING and stays in flight until FORMATTING_END makes the Cistern READY and empty (the BOOT banks stay if it began READY, the lifetime counts unless it began BLANK); it completes NOT_PERMITTED from another port or while the Cistern is busy, BAD_FRAME with another key, FAILED_DEVICE_FAULT without a Cistern or from FAILED with devices that do not answer. A checkpoint is written once a second while something is new. A page program takes the pending records of the first class of life, log, boot, user and trace, and writes what R362 names for it: the COMMIT of a load makes its bank valid and ends the load, that of a BOOT_SELECT gives its bank the next generation; with nothing pending, or where it fails, it changes nothing. Three operations that time out in succession put the Cistern in FAILED. A failing block is retired against the reserve, and one that fails in a format joins the table; the oldest block of a full ring is erased, LOG before TRACE; a relocation changes nothing a reader sees. No axis changes by any of them but where a boot ends or a stored load is committed. Where the state of the Cistern does not call for it each changes nothing. -/
def Obligations.CisternRows : Prop :=
  ∀ (p : Port) (tag key : W16) (ids ck answers erase third cs : Bool) (b src : Nat) (c : Cmd) (k : Fin 2) (l : Load) (was : BitVec 3) (e : NandEnd) (s : State),
    let st := s.cis
    let q := s.store
    let kept := fun (t : State) => t.axes = s.axes ∧ t.engines = s.engines ∧ t.fuses = s.fuses ∧ t.clk = s.clk ∧ t.pending = s.pending
    let quiet := (∀ n : Ax, s.aget n AX_MBCTL_PEND = 0) ∧ NoCommands s ∧ s.load = none ∧ s.stream = none
    let fails := ids = false ∨ s.tracePages * s.pageBytes < 16 * 2 ^ 20
    let mounts := fun (t : State) => kept t ∧ t.cis = (if fails then cisFailed else if ck then cisReady else cisBlank) ∧
      (ids = false → t.dget CISTERN_ERR_CAUSE = 7) ∧ (t.cis = cisReady → t.dget CISTERN_STAT_LIFERDY = 1 ∧
        t.dget CISTERN_STAT_RESV = (s.reserveBlocks - q.bad.length) % 65536) ∧ (t.cis = cisFailed → t.dget CISTERN_STAT_LIFERDY = 0)
    let may := Calm s p ∧ s.func p fnCistern = true ∧ s.gen p ≠ 2
    let no := fun (i : Instr) (x : Byte) => Runs i s (fun t => Refused s t p x)
    let done := fun (i : Instr) (x : Byte) => Runs i s (fun t => Done s t p tag x 15 [] ∧ kept t ∧ t.store = q ∧ t.cis = st)
    let on := s.alive = true ∧ st = cisReady
    let lifeN := (s.pageBytes - 32) / 8
    let logN := fitting s.pageBytes q.logQ
    let counted := fun (t : State) => t.store.timeouts = q.timeouts + 1 ∧ t.dget CISTERN_ERR_CAUSE = 5 ∧
      (3 ≤ q.timeouts + 1 → t.cis = cisFailed ∧ t.store.logQ = []) ∧ (q.timeouts + 1 < 3 → t.cis = st)
    let live := s.alive = true ∧ st ≠ cisNone ∧ st ≠ cisFailed ∧ st ≠ cisPowerfail
    let good := s.alive = true ∧ b < s.blocks ∧ q.bad.contains b = false
    let retired := fun (t : State) (cause : Nat) => t.store.bad = q.bad ++ [b] ∧ t.dget CISTERN_ERR_CAUSE = cause ∧
      (s.dget CISTERN_STAT_RESV = 0 → t.cis = cisFailed) ∧
      (s.dget CISTERN_STAT_RESV ≠ 0 → t.cis = cisReady ∧ t.dget CISTERN_STAT_RESV = s.dget CISTERN_STAT_RESV - 1)
    let logFull := s.logPages ≤ q.log.length
    let full := logFull ∨ s.tracePages ≤ q.trace.length
    let moves := st = cisReady ∧ src ≠ b ∧ 1000 < s.dget CISTERN_WEAR_MAXE - s.dget CISTERN_WEAR_MINE
    let due := st = cisReady ∧ q.dirty = true ∧ q.ckptAt + 1000 * msTicks ≤ s.clk
    (s.alive = true → st = cisMounting → s.dget SYS_BOOT_STEP ≠ 4 → quiet → Runs (.mount ids ck) s mounts) ∧
    (s.alive = true → st = cisMounting → s.dget SYS_BOOT_STEP = 4 → Runs (.mount ids ck) s (fun t => t.dget SYS_BOOT_STEP = 7 ∧
      t.cis = (if fails then cisFailed else if ck then cisReady else cisBlank))) ∧
    (s.alive = false ∨ st ≠ cisMounting → Runs (.mount ids ck) s (fun t => t = s)) ∧
    (may → s.load = none → s.stream = none → st = cisReady ∨ st = cisBlank ∨ st = cisFailed → Runs (.remount p tag ids ck) s (fun t =>
      Done s t p tag stOk 15 [] ∧ mounts t)) ∧
    (may → st = cisNone → done (.remount p tag ids ck) stDeviceFault) ∧
    (may → st = cisFormatting ∨ st = cisPowerfail → done (.remount p tag ids ck) stNotPermitted) ∧
    (Calm s p → s.func p fnCistern = false ∨ s.gen p = 2 → no (.remount p tag ids ck) stNotPermitted ∧ no (.format p tag key answers) stNotPermitted) ∧
    (may → s.isSvc p = false → done (.format p tag key answers) stNotPermitted) ∧
    (may → s.isSvc p = true → key ≠ 0xC157 → done (.format p tag key answers) stBadFrame) ∧
    (may → s.isSvc p = true → st = cisNone ∨ (st = cisFailed ∧ answers = false) → done (.format p tag 0xC157 answers) stDeviceFault) ∧
    (may → s.isSvc p = true → st = cisMounting ∨ st = cisFormatting ∨ st = cisPowerfail → done (.format p tag 0xC157 answers) stNotPermitted) ∧
    (may → s.isSvc p = true → s.stream = none → st = cisReady ∨ st = cisBlank ∨ (st = cisFailed ∧ answers = true) →
      Runs (.format p tag 0xC157 answers) s (fun t => InFlight s t p tag .format true ∧ kept t ∧ t.cis = cisFormatting ∧
        t.store.format = some (p, (s.assignTag p tag).1, BitVec.ofNat 3 st) ∧ t.store.log = q.log ∧ t.store.banks = q.banks)) ∧
    (s.alive = true → st = cisFormatting → q.format = some (p, c.tag, was) → Serving s p c → Runs .formattingEnd s (fun t =>
      Ends s t p c stOk [] ∧ kept t ∧ t.cis = cisReady ∧ t.store.log = [] ∧ t.store.trace = [] ∧ t.store.blobs = [] ∧ t.store.format = none ∧
      (was = 2 → t.store.banks = q.banks) ∧ (was ≠ 2 → ∀ j : Fin 2, t.store.banks[j].valid = false) ∧
      (was = 3 → t.store.life = []) ∧ (was ≠ 3 → t.store.life = q.life))) ∧
    (s.alive = false ∨ st ≠ cisFormatting → Runs .formattingEnd s (fun t => t = s)) ∧
    (due → Runs .cisternCheckpoint s (fun t => t = { s with store := { q with dirty := false, ckptAt := s.clk } })) ∧
    (¬due → Runs .cisternCheckpoint s (fun t => t = s)) ∧
    (on → quiet → s.nextPage = some .life → Runs (.pageProgram .ok) s (fun t => kept t ∧ t.store.lifeInc = q.lifeInc.drop lifeN ∧
      t.store.life = addLife q.life (q.lifeInc.take lifeN) ∧ t.store.lifeRecs.length = q.lifeRecs.length + 1 ∧
      t.store.dirty = true ∧ t.store.timeouts = 0)) ∧
    (on → quiet → s.nextPage = some .log → Runs (.pageProgram .ok) s (fun t => kept t ∧ t = { s with ports := t.ports, store := { q with
      log := q.log ++ [logN], logQ := q.logQ.drop (max 1 logN.length), dirty := true, timeouts := 0 } })) ∧
    (on → quiet → s.nextPage = some .boot → Runs (.pageProgram .ok) s (fun t => kept t ∧ t.store.bootQ = q.bootQ.drop 1 ∧
      t.store.dirty = true ∧ (∀ x ∈ q.bootQ.head?, x.2.2 = .image → t.store.banks = q.banks))) ∧
    (on → Serving s p c → s.load = none → s.stream = none → s.nextPage = some .boot → q.bootQ.head?.map (fun x => (x.1, x.2.2)) = some (k, .select p c.tag) →
      Runs (.pageProgram .ok) s (fun t => Ends s t p c stOk [] ∧ kept t ∧ t.store.banks[k] = { q.banks[k] with gen := s.nextGen } ∧
        t.store.bootQ = q.bootQ.drop 1)) ∧
    (on → Serving s p c → s.load = some l → l.port = p → l.tag = c.tag → s.nextPage = some .boot →
      q.bootQ.head?.map (fun x => (x.1, x.2.2)) = some (k, .commit) → Runs (.pageProgram .ok) s (fun t => (t.port p).cmds = [] ∧
        t.load = none ∧ t.store.banks[k].image = some l.words ∧ t.store.banks[k].valid = true ∧ t.store.banks[k].gen = s.nextGen ∧
        t.store.bootQ = q.bootQ.drop 1)) ∧
    (on → quiet → s.nextPage = some .user → Runs (.pageProgram .ok) s (fun t => kept t ∧ t = { s with ports := t.ports, store := { q with
      userQ := q.userQ.drop 1, dirty := true, timeouts := 0 } })) ∧
    (on → quiet → s.nextPage = some .trace → Runs (.pageProgram .ok) s (fun t => kept t ∧ t.store.trace.length = q.trace.length + 1 ∧
      t.store.gap = none ∧ t.store.stage.length ≤ q.stage.length ∧ t.store.log = q.log)) ∧
    (on → s.nextPage ≠ none → quiet → Runs (.pageProgram .timeout) s (fun t => kept t ∧ counted t)) ∧
    (¬on ∨ s.nextPage = none ∨ e = .fail → Runs (.pageProgram e) s (fun t => t = s)) ∧
    (live → quiet → Runs (.storeTimeout cs) s (fun t => kept t ∧ counted t ∧ t.dget CISTERN_ERR_CS = (if cs then 1 else 0))) ∧
    (¬live → Runs (.storeTimeout cs) s (fun t => t = s)) ∧
    (good → st = cisReady → quiet → third = false → Runs (.blockFailure b erase third) s (fun t => kept t ∧ retired t (if erase then 2 else 1) ∧
      t.store.log = q.log ∧ t.store.trace = q.trace ∧ t.store.banks = q.banks)) ∧
    (good → st = cisReady → quiet → third = true → s.dget CISTERN_STAT_RESV ≠ 0 → s.nextPage = some .log → Runs (.blockFailure b false third) s
      (fun t => kept t ∧ retired t 1 ∧ t.store.logQ.take (q.logQ.length - max 1 logN.length) = q.logQ.drop (max 1 logN.length) ∧
        t.dget (CISTERN_LOST_RECORDS 1) ≥ min (s.dget (CISTERN_LOST_RECORDS 1) + max 1 logN.length) 65535 ∧ t.store.log = q.log)) ∧
    (good → st = cisFormatting → Runs (.blockFailure b erase third) s (fun t => kept t ∧ t.store.bad = q.bad ++ [b] ∧ t.store.format = q.format ∧
      t.dget CISTERN_ERR_CAUSE = (if erase then 2 else 1) ∧ t.cis = st)) ∧
    (¬good ∨ (st ≠ cisReady ∧ st ≠ cisFormatting) → Runs (.blockFailure b erase third) s (fun t => t = s)) ∧
    (good → st = cisReady → full → Runs (.blockErase b .ok) s (fun t => kept t ∧ t.cis = st ∧
      t.store.log = (if logFull then q.log.drop s.blockPages else q.log) ∧ t.store.trace = (if logFull then q.trace else q.trace.drop s.blockPages) ∧
      WMap.get zeroWord t.store.erases b = WMap.get zeroWord q.erases b + 1 ∧ t.store.logQ = q.logQ ∧ t.store.blobs = q.blobs ∧ t.store.banks = q.banks)) ∧
    (good → st = cisReady → full → quiet → Runs (.blockErase b .fail) s (fun t => kept t ∧ retired t 2)) ∧
    (good → st = cisReady → full → quiet → Runs (.blockErase b .timeout) s (fun t => kept t ∧ counted t)) ∧
    (¬good ∨ st ≠ cisReady ∨ ¬full → Runs (.blockErase b e) s (fun t => t = s)) ∧
    (moves → Runs (.wearRelocation src b) s (fun t => t = { s with store := { q with dirty := true } })) ∧
    (¬moves → Runs (.wearRelocation src b) s (fun t => t = s))

/-- In READY, with the Cistern permission, USER_BEGIN of at most 16 MiB takes write admission and starts a stream; a larger one completes BAD_FRAME, one while another port holds admission or streams NOT_PERMITTED, and one while its own stream runs abandons that with BAD_FRAME first. The next chunk in time appends to the stream; a wrong number or length, or one too late, ends it BAD_FRAME. USER_END in time of a complete content queues its records and waits, of another content or too late ends it BAD_FRAME; the blob stays as it was until the records are written. USER_READ answers the size of a blob and the words from the offset (a blob that does not exist reads as empty: the model's choice, log 47), and is refused BAD_FRAME above 1020 words; USER_DELETE removes the blob. LOG_READ and TRACE_READ answer the SEQ of the first record and whole records from the one asked for, from the oldest where that has been overwritten; LIFE_READ the thirty-eight counts of its unit. BOOT_SELECT of a valid bank queues its COMMIT and stays in flight, of another completes NOT_PERMITTED. While the Cistern mounts or formats the writes complete NOT_PERMITTED (for USER and BOOT_SELECT the model's choice, log 46), in the other states FAILED_DEVICE_FAULT; the reads complete FAILED_DEVICE_FAULT in NONE and FAILED and wait otherwise. A part under the tag of another command is refused BAD_FRAME, the writes without the Cistern permission NOT_PERMITTED; on a port of another generation nothing changes. -/
def Obligations.StoreStreams : Prop :=
  ∀ (p : Port) (tag chunk : W16) (blob : Byte) (total d seq : W64) (unit : BitVec 5) (sel : Bool) (ws content : List W64) (size : Nat) (before rest : List Record) (r : Record) (c : Cmd) (z : Stream) (i : Instr) (s : State),
    let q := s.store
    let fits := 1 ≤ ws.length ∧ ws.length ≤ 1023 ∧ z.words.length + ws.length ≤ 2 ^ 21
    let k := d.toNat / 2 ^ 32 % 1024 + 1
    let b : Fin 2 := if sel then 1 else 0
    let kept := fun (t : State) => t.axes = s.axes ∧ t.engines = s.engines ∧ t.fuses = s.fuses ∧ t.clk = s.clk ∧ t.pending = s.pending ∧ t.load = s.load
    let calm := s.gen p = 3 ∧ Calm s p
    let may := calm ∧ s.func p fnCistern = true
    let ready := may ∧ s.cis = cisReady
    let no := fun (i : Instr) (x : Byte) => Runs i s (fun t => Refused s t p x)
    let done := fun (i : Instr) (x : Byte) (data : List W64) => Runs i s (fun t => Done s t p tag x 15 data ∧ PortsOnly s t)
    let waits := fun (i : Instr) (o : Op) => Runs i s (fun t => InFlight s t p tag o false ∧ PortsOnly s t)
    let begins := Instr.userBegin p tag blob total
    let begun : Stream := { port := p, tag := tag, blob := blob, total := total.toNat, next := 0, words := [], last := s.clk, waiting := false }
    let userOp := Op.userRead blob (d.toNat % 2 ^ 32) k
    let ring := fun (i : Instr) (l : List Record) => (l = before ++ r :: rest → (∀ x ∈ before, x.seq ≠ r.seq) → r.seq = seq.setWidth 32 →
        done i stOk (r.seq.setWidth 64 :: wholeRecords 1020 (r :: rest))) ∧
      (l = r :: rest → (∀ x ∈ l, x.seq ≠ seq.setWidth 32) → (∀ x ∈ l.getLast?, (seq.setWidth 32 - x.seq).toInt ≤ 0) →
        done i stOk (r.seq.setWidth 64 :: wholeRecords 1020 l))
    let mine := s.gen p = 3 ∧ Serving s p c ∧ s.stream = some z ∧ z.port = p ∧ z.tag = c.tag ∧ z.waiting = false
    let inTime := s.clk ≤ z.last + partTicks
    let ends := fun (i : Instr) => Runs i s (fun t => Ends s t p c stBadFrame [] ∧ t.stream = none ∧ kept t ∧ t.store = q)
    let whole := z.words.length = (z.total + 7) / 8
    let open_ := s.pins.warning = false ∧ s.pins.standby = none
    (s.gen p ≠ 3 → i ∈ [begins, .userData p tag chunk ws, .userEnd p tag, .userRead p tag blob d, .userDelete p tag blob, .logRead p tag seq,
      .traceRead p tag seq, .lifeRead p tag unit, .bootSelect p tag sel] → Runs i s (fun t => t = s)) ∧
    (ready → s.admHeld p = false → s.stream = none → total.toNat ≤ 2 ^ 24 → Runs begins s (fun t =>
      InFlight s t p tag (.user blob total) true ∧ t.dget CISTERN_ADM_HOLDER = p.val ∧ kept t ∧ t.store = q ∧ t.stream = some begun)) ∧
    (ready → 2 ^ 24 < total.toNat → s.ownStream p = false → done begins stBadFrame []) ∧
    (ready → total.toNat ≤ 2 ^ 24 → s.ownStream p = false → s.admHeld p = true ∨ s.stream ≠ none → done begins stNotPermitted []) ∧
    (mine → open_ → s.func p fnCistern = true → s.cis = cisReady → s.admHeld p = false → total.toNat ≤ 2 ^ 24 → tag ≠ c.tag → s.contest = [] →
      (∀ j ∈ s.pending, s.requests j = []) → Runs begins s (fun t => t.stream = some begun ∧ kept t ∧ t.store = q ∧
        (t.port p).cmds.map (fun c => (c.tag, c.op)) = [(tag, .user blob total)] ∧ (t.port p).ring.map (fun c => (c.tag, c.status)) = [(c.tag, stBadFrame)])) ∧
    (ready → Runs (.userDelete p tag blob) s (fun t => Done s t p tag stOk 15 [] ∧ kept t ∧ t.dev = s.dev ∧
      t.store = { q with blobs := q.blobs.filter (fun x => x.1 != blob), dirty := true })) ∧
    (ready → s.bankValid b = true → Runs (.bootSelect p tag sel) s (fun t => InFlight s t p tag (.bootSelect sel) true ∧
      t.store.bootQ.length = q.bootQ.length + 1 ∧ t.store.bootQ.getLast?.map (fun x => (x.1, x.2.1.typ, x.2.2)) = some (b, 0x41, .select p tag) ∧
      t.store.banks = q.banks ∧ kept t)) ∧
    (ready → s.bankValid b = false → done (.bootSelect p tag sel) stNotPermitted []) ∧
    (may → s.ownStream p = false → s.cis = cisMounting ∨ s.cis = cisFormatting → done begins stNotPermitted [] ∧
      done (.userDelete p tag blob) stNotPermitted [] ∧ done (.bootSelect p tag sel) stNotPermitted []) ∧
    (may → s.ownStream p = false → s.cis = cisNone ∨ s.cis = cisFailed ∨ s.cis = cisBlank ∨ s.cis = cisPowerfail → done begins stDeviceFault [] ∧
      done (.userDelete p tag blob) stDeviceFault [] ∧ done (.bootSelect p tag sel) stDeviceFault []) ∧
    (calm → s.ownStream p = false → s.func p fnCistern = false → no begins stNotPermitted ∧ no (.userDelete p tag blob) stNotPermitted ∧
      no (.bootSelect p tag sel) stNotPermitted) ∧
    (calm → 1020 < k → no (.userRead p tag blob d) stBadFrame) ∧
    (calm → s.cis = cisReady → k ≤ 1020 → q.blobs.find? (fun x => x.1 == blob) = some (blob, size, content) →
      done (.userRead p tag blob d) stOk (BitVec.ofNat 64 size :: (content.drop (d.toNat % 2 ^ 32)).take k)) ∧
    (calm → s.cis = cisReady → k ≤ 1020 → (∀ x ∈ q.blobs, x.1 ≠ blob) → done (.userRead p tag blob d) stOk [0]) ∧
    (calm → s.cis = cisReady → ring (.logRead p tag seq) q.log.flatten ∧ ring (.traceRead p tag seq) q.trace.flatten) ∧
    (calm → s.cis = cisReady → Runs (.logRead p tag seq) s (fun t => kept t ∧ t.store = q ∧ (t.port p).cmds = [] ∧ (t.port p).ring.map (·.status) = [stOk])) ∧
    (calm → s.cis = cisReady → Runs (.traceRead p tag seq) s (fun t => kept t ∧ t.store = q ∧ (t.port p).cmds = [] ∧ (t.port p).ring.map (·.status) = [stOk])) ∧
    (calm → s.cis = cisReady → s.dget CISTERN_STAT_LIFERDY = 1 → done (.lifeRead p tag unit) stOk (s.lifeData unit.toNat) ∧
      (q.lifeInc = [] → ∀ j : Fin 38, (s.lifeData unit.toNat).getD j.val 0 = WMap.get zeroWord q.life (32 * (j.val + 1) + unit.toNat))) ∧
    (calm → s.cis = cisNone ∨ s.cis = cisFailed → (k ≤ 1020 → done (.userRead p tag blob d) stDeviceFault []) ∧
      done (.logRead p tag seq) stDeviceFault [] ∧ done (.traceRead p tag seq) stDeviceFault [] ∧ done (.lifeRead p tag unit) stDeviceFault []) ∧
    (calm → s.cis = cisMounting ∨ s.cis = cisBlank ∨ s.cis = cisFormatting ∨ s.cis = cisPowerfail → (k ≤ 1020 → waits (.userRead p tag blob d) userOp) ∧
      waits (.logRead p tag seq) (.logRead (seq.setWidth 32)) ∧ waits (.traceRead p tag seq) (.traceRead (seq.setWidth 32)) ∧
      waits (.lifeRead p tag unit) (.lifeRead unit)) ∧
    (calm → s.cis = cisReady → s.dget CISTERN_STAT_LIFERDY = 0 → waits (.lifeRead p tag unit) (.lifeRead unit)) ∧
    (mine → inTime → chunk.toNat = z.next % 65536 → fits → Runs (.userData p c.tag chunk ws) s (fun t => (t.port p).cmds = [c] ∧
      t = { s with stream := some { z with next := z.next + 1, words := z.words ++ ws, last := s.clk }, ports := t.ports })) ∧
    (mine → inTime → chunk.toNat ≠ z.next % 65536 ∨ ¬fits → ends (.userData p c.tag chunk ws)) ∧
    (mine → inTime → whole → Runs (.userEnd p c.tag) s (fun t => (t.port p).cmds = [c] ∧ q.userQ.length < t.store.userQ.length ∧
      t.stream = some { z with waiting := true } ∧ t.store.blobs = q.blobs ∧ t.store.logQ = q.logQ ∧ t.store.bootQ = q.bootQ ∧ kept t)) ∧
    (mine → inTime → ¬whole → ends (.userEnd p c.tag)) ∧
    (mine → ¬inTime → ends (.userData p c.tag chunk ws) ∧ ends (.userEnd p c.tag)) ∧
    (s.gen p = 3 → Serving s p c → open_ → s.streamTag p c.tag = false → no (.userData p c.tag chunk ws) stBadFrame ∧ no (.userEnd p c.tag) stBadFrame) ∧
    (calm → s.stream = none → Runs (.userData p tag chunk ws) s (fun t => PortsOnly s t) ∧ Runs (.userEnd p tag) s (fun t => PortsOnly s t))

/-- From a G1 or G3 port with the fuse permission, the programmer being free: READ completes at once with the raw payload and check byte of the addressed word at its margin (the value of a KEY part masked). PROGRAM completes BAD_FRAME for more than six words, or a word with bit 63 set, FID 0 or PART above PARTS, and NOT_PERMITTED outside bands B1 and B2 (REASON 1), outside 10.0 to 16.0 V (2), at a locked slot (3) or with too few slots (4); SEAL NOT_PERMITTED on the same band and voltage, BAD_FRAME out of range, NOT_PERMITTED for a word that cannot be sealed (6), another digest (5) or no slot (4); else both start and stay in flight. While the programmer is busy each completes NOT_PERMITTED with REASON 9; without the permission, and on G2, each is refused NOT_PERMITTED. A PROGRAM that nothing has stopped ends, no sooner than its pulses take, with its words committed in the next blank slots and OK, and a SEAL with its word, the new lock end and OK; where the blank slots run out a PROGRAM ends FAILED_DEVICE_FAULT with REASON 4. A command that is stopped, or whose bit fails, ends FAILED_DEVICE_FAULT with its REASON, the word in progress torn and counted; a torn seal whose lock has blown locks its region. A due reread takes the array as it reads now and counts a word that differs from the shadow as drifted; a lock bit that newly reads 1 locks its region. Nothing else happens to the array, and each row changes nothing where it does not apply. -/
def Obligations.FuseRows : Prop :=
  ∀ (p : Port) (tag : W16) (cnt : BitVec 3) (c : Cmd) (reason : BitVec 4) (bits : BitVec 72) (done w : Nat) (y : FuseRead) (changed : List (Byte × FuseRead)) (e : FuseEnd) (s : State),
    let q := s.fuses
    let a := (s.port p).fuseAddr
    let addr := FUSE_ADDR_ADDR.get a
    let own := s.fuseWord addr
    let x := match FUSE_ADDR_MARGIN.get a with | 1 => own.high | 2 => own.low | _ => own.normal
    let keyed := fuseFid (rawPayload own.normal) = 14 ∨ fuseFid (rawPayload x) = 14
    let ws := (s.port p).fuseData.toList.take (cnt.toNat + 1)
    let next := s.dget FUSE_STAT_NEXT
    let left := s.dget FUSE_STAT_SLEFT
    let b := s.blankSlots 224 160 next ws.length
    let z := s.blankSlots 256 32 (256 - left) 1
    let band := s.dget THERM_STAT_DBAND = 1 ∨ s.dget THERM_STAT_DBAND = 2
    let volts := 1000 ≤ s.dget SYS_PWRMON_VSUP ∧ s.dget SYS_PWRMON_VSUP ≤ 1600
    let badWord := ws.any (fun v => v.getLsbD 63 || fuseFid v == 0 || decide (fuseParts v < fusePart v)) = true
    let inRange := s.dget FUSE_STAT_LOCKEND < addr ∧ addr ≤ 223
    let firm := ((List.range (addr - 63)).map (64 + ·)).all (fun v => !s.unsealable v) = true
    let digest := ((s.port p).fuseData[0]).setWidth 32 = fuseDigest s.sealPayload 64 addr
    let kept := fun (t : State) => t.axes = s.axes ∧ t.engines = s.engines ∧ t.clk = s.clk ∧ t.pending = s.pending
    let calm := Calm s p ∧ s.func p fnFuse = true ∧ s.gen p ≠ 2
    let free := calm ∧ q.busy = none
    let program := Instr.program p tag cnt
    let sealing := Instr.seal p tag
    let answers := fun (i : Instr) (st : Byte) (r : Nat) => Runs i s (fun t => Done s t p tag st 15 [] ∧ t.fuses = q ∧ kept t ∧ t.store = s.store ∧
      t.dget FUSE_RES_REASON = (if r = 0 then s.dget FUSE_RES_REASON else r))
    let starts := fun (i : Instr) (op : BitVec 2) (n : Nat) => Runs i s (fun t => InFlight s t p tag .fuse true ∧
      t.fuses = { q with busy := some (p, (s.assignTag p tag).1, op, n), began := s.clk, stop := 0 } ∧ t.dget FUSE_RES_REASON = 0 ∧ kept t ∧ t.store = s.store)
    let cause := if q.stop ≠ 0 then q.stop else if ¬band then 1 else if ¬volts then 2 else if s.pins.warning then 8 else 0
    let pulsed := q.began + s.fuseTime p 1 cnt.toNat ≤ s.clk
    let sealed := q.began + s.fuseTime p 2 0 ≤ s.clk
    let programs := Serving s p c ∧ q.busy = some (p, c.tag, 1, cnt.toNat) ∧ cnt.toNat ≤ 5
    let seals := Serving s p c ∧ q.busy = some (p, c.tag, 2, 0)
    let ends := fun (r : FuseEnd) (st : Byte) (n : Nat) (P : State → Prop) => Runs (.fuseCommandEnd r) s (fun t => Ends s t p c st [] ∧ t.fuses.busy = none ∧
      (n ≠ 0 → t.dget FUSE_RES_REASON = n) ∧ kept t ∧ P t)
    let others := fun (t : State) (l : List Nat) => ∀ v : Fin 256, v.val ∉ l → t.fuseWord v.val = s.fuseWord v.val
    let torn := fun (v : W64) => sureRead (bits &&& ((programmed v).setWidth 71).setWidth 72)
    let due := q.rereadDue = true ∧ q.busy = none
    let rereads := Instr.fuseReread changed
    let same := fun (v : Nat) => (judgeFuse (s.fuseWord v)).word = s.shadow v
    let j := (judgeFuse y).word
    (free → Runs (.fuseRead p tag) s (fun t => Done s t p tag stOk 15 [] ∧ t.fuses = q ∧ t.dget FUSE_RES_CHECK = (rawCheck x).toNat ∧ kept t ∧ t.store = s.store ∧
        t.dreg FUSE_RDATA = (if keyed then rawPayload x &&& 0xFFFF000000000000 else rawPayload x) ∧ t.dget FUSE_RES_REASON = 0)) ∧
    (free → 5 < cnt.toNat ∨ badWord → answers program stBadFrame 0) ∧
    (free → cnt.toNat ≤ 5 → ¬badWord → ¬band → answers program stNotPermitted 1) ∧
    (free → cnt.toNat ≤ 5 → ¬badWord → band → ¬volts → answers program stNotPermitted 2) ∧
    (free → cnt.toNat ≤ 5 → ¬badWord → band → volts → next ≤ s.dget FUSE_STAT_LOCKEND → answers program stNotPermitted 3) ∧
    (free → cnt.toNat ≤ 5 → ¬badWord → band → volts → s.dget FUSE_STAT_LOCKEND < next → 224 < next + cnt.toNat + 1 → answers program stNotPermitted 4) ∧
    (free → cnt.toNat ≤ 5 → ¬badWord → band → volts → s.dget FUSE_STAT_LOCKEND < next → next + cnt.toNat + 1 ≤ 224 → starts program 1 cnt.toNat) ∧
    (free → ¬band → answers sealing stNotPermitted 1) ∧
    (free → band → ¬volts → answers sealing stNotPermitted 2) ∧
    (free → band → volts → ¬inRange → answers sealing stBadFrame 0) ∧
    (free → band → volts → inRange → ¬firm → answers sealing stNotPermitted 6) ∧
    (free → band → volts → inRange → firm → ¬digest → answers sealing stNotPermitted 5) ∧
    (free → band → volts → inRange → firm → digest → left = 0 → answers sealing stNotPermitted 4) ∧
    (free → band → volts → inRange → firm → digest → left ≠ 0 → starts sealing 2 0) ∧
    (calm → q.busy ≠ none → answers (.fuseRead p tag) stNotPermitted 9 ∧ answers program stNotPermitted 9 ∧ answers sealing stNotPermitted 9) ∧
    (Calm s p → s.func p fnFuse = false ∨ s.gen p = 2 → Runs (.fuseRead p tag) s (fun t => Refused s t p stNotPermitted) ∧
      Runs program s (fun t => Refused s t p stNotPermitted) ∧ Runs sealing s (fun t => Refused s t p stNotPermitted)) ∧
    (programs → cause = 0 → pulsed → b.1.length = ws.length → ends .ok stOk 0 (fun t => t.dget FUSE_RES_DONE = ws.length ∧
      (∀ v ∈ b.1.head?, t.dget FUSE_RES_FIRSTW = v) ∧ t.dget FUSE_STAT_NEXT = b.2.1 ∧ others t b.1 ∧
      t.dget FAULT_DCNT3_FUSE_TORN = min 65535 (s.dget FAULT_DCNT3_FUSE_TORN + b.2.2) ∧
      (∀ v ∈ b.1.zip ws, t.fuseWord v.1 = sureRead (programmed v.2)))) ∧
    (programs → cause = 0 → pulsed → b.1.length ≠ ws.length → ends .ok stDeviceFault 4 (fun t => t.dget FUSE_RES_DONE = b.1.length ∧
      (∀ v ∈ b.1.zip ws, t.fuseWord v.1 = sureRead (programmed v.2)) ∧ others t b.1)) ∧
    (programs → reason.toNat = (if cause = 0 then 7 else cause) → b.1.length = ws.length → done < ws.length → ends (.torn done reason bits) stDeviceFault reason.toNat
      (fun t => t.dget FUSE_RES_DONE = done ∧ others t (b.1.take (done + 1)) ∧ (∀ v ∈ (b.1.zip ws).take done, t.fuseWord v.1 = sureRead (programmed v.2)) ∧
        (∀ v ∈ ((b.1.zip ws).drop done).head?, t.dget FUSE_STAT_NEXT = v.1 + 1 ∧
          t.fuseWord v.1 = (if bits &&& ((programmed v.2).setWidth 71).setWidth 72 = 0 then s.fuseWord v.1 else torn v.2)) ∧
        t.dget FAULT_DCNT3_FUSE_TORN = min 65535 (s.dget FAULT_DCNT3_FUSE_TORN + (s.blankSlots 224 160 next (done + 1)).2.2 + 1))) ∧
    (seals → cause = 0 → sealed → ∀ k ∈ z.1.head?, ends .ok stOk 0 (fun t => t.fuseWord k = sureRead (programmed (s.sealWord p)) ∧ others t [k] ∧
        t.dget FUSE_STAT_LOCKEND = addr ∧ t.dget FUSE_STAT_SLEFT = 255 - k ∧ t.dget FUSE_RES_FIRSTW = k ∧ 1 ≤ t.dget FUSE_STAT_ISEAL)) ∧
    (seals → reason.toNat = (if cause = 0 then 7 else cause) → ∀ k ∈ z.1.head?, ends (.torn done reason bits) stDeviceFault reason.toNat (fun t => others t [k] ∧
        t.dget FUSE_STAT_SLEFT = 255 - k ∧ (z.2.2 = 0 → CountedDev s t FAULT_DCNT3_FUSE_TORN) ∧
        (lockBlown (torn (s.sealWord p)) = true → t.dget FUSE_STAT_LOCKEND = addr ∧ t.dget FUSE_STAT_ISEAL = 2) ∧
        (lockBlown (torn (s.sealWord p)) = false → t.dget FUSE_STAT_LOCKEND = s.dget FUSE_STAT_LOCKEND ∧ t.dget FUSE_STAT_ISEAL = s.dget FUSE_STAT_ISEAL))) ∧
    (programs → cause ≠ 0 ∨ ¬pulsed → Runs (.fuseCommandEnd .ok) s (fun t => t = s)) ∧
    (seals → cause ≠ 0 ∨ ¬sealed → Runs (.fuseCommandEnd .ok) s (fun t => t = s)) ∧
    (q.busy ≠ none → reason.toNat ≠ (if cause = 0 then 7 else cause) → Runs (.fuseCommandEnd (.torn done reason bits)) s (fun t => t = s)) ∧
    (q.busy = none → Runs (.fuseCommandEnd e) s (fun t => t = s)) ∧
    (due → Runs rereads s (fun t => t.fuses.rereadDue = false ∧ t.fuses.array = changed.foldl (fun l y => setFuse y.1.toNat y.2 l) q.array ∧
      t.ports = s.ports ∧ kept t ∧ t.fuses.since = q.since ∧ t.fuses.shadow.map (fun x => (x.1, x.2.payload, x.2.committed)) =
        t.fuses.shadow.map (fun x => (x.1, (s.shadow x.1).payload, (s.shadow x.1).committed)))) ∧
    (due → w < 256 → changed = [(BitVec.ofNat 8 w, y)] → w ∉ q.since → (∀ v : Fin 256, v.val ≠ w → v.val ∉ q.since → same v.val) →
      j.payload ≠ (s.shadow w).payload ∨ j.committed ≠ (s.shadow w).committed → Runs rereads s (fun t => CountedDev s t FAULT_DCNT3_FUSE_DRIFT ∧
        t.fuses.shadow = q.shadow ∧ t.fuseWord w = y)) ∧
    (due → changed = [] → (∀ v : Fin 256, v.val ∉ q.since → same v.val) → Runs rereads s (fun t => t = { s with fuses := { q with rereadDue := false } })) ∧
    (due → 225 ≤ w → w < 256 → changed = [(BitVec.ofNat 8 w, y)] → lockBlown (s.fuseWord w) = false → lockBlown y = true → Runs rereads s (fun t =>
      t.dget FUSE_STAT_LOCKEND = 223 ∧ t.dget FUSE_STAT_ISEAL = 2)) ∧
    (due → changed = [(224, y)] → lockBlown (s.fuseWord 224) = false → lockBlown y = true → Runs rereads s (fun t => t.dget FUSE_STAT_VSEAL = 2)) ∧
    (¬due → Runs rereads s (fun t => t = s))

/-- Every reset boots the device: RSTINFO shows its source (1 power-on, 2 RESET_N, 3 power fail, 4 supply with its rail, 5 and 6 wake) and the count, TIME is 0 and FREE, no axis has a program, a tick or a gate on, each is OFF or, under the thermal latch or SAFE_N, in OASIS; the NAND devices and, where no fuse command ran, the fuses keep what they hold. Every reset but power-on keeps the thermal latch, the AON counter, the retired engines and the list of commands in flight, which complete ABANDONED_RESET on their ports at once where there is no Cistern and else after its mount; power-on reset clears the latch and the counter, and its list comes only from the Cistern. The AON clock source, the VIO level and a missing reference show as they are found. Losing VSUP leaves the device unpowered with every gate off and nothing in flight, the NAND devices and fuses as they were. The early warning puts the Cistern in POWERFAIL and ends the host write streams, no axis changing; the power-fail write that follows it puts the list in flight into the Cistern. ENTER by the SVC port requests standby when every axis is OFF or in OASIS without a short and no fuse command or load runs, else completes NOT_PERMITTED, and from another port it is refused; once its completion is acknowledged STANDBY stops the engines and the device sleeps. Each row changes nothing where it does not apply. -/
def Obligations.ResetsAndStandby : Prop :=
  ∀ (p : Port) (tag : W16) (r : Rail) (a b c d e : Bool) (s : State),
    let on := s.pins.powered = true ∧ s.pins.asleep = false
    let timed := s.dget SYS_STBY_MODE = 1
    let wakes := s.pins.powered = true ∧ s.pins.asleep = true ∧ (a = true ∨ (timed ∧ s.dget SYS_WAKE_CMP ≤ s.dget SYS_AONCNT_COUNT))
    let rises := s.pins.powered = false ∨ s.dget SYS_BOOT_STEP = 0
    let fails := s.pins.powered = true ∧ s.pins.warning = true
    let flight := s.flight.getD [] ++ allPorts.flatMap (fun k => (s.port k).cmds.map (fun x => (k, x.tag)))
    let devices := fun (t : State) => t.store.log = s.store.log ∧ t.store.trace = s.store.trace ∧ t.store.banks = s.store.banks ∧ t.store.blobs = s.store.blobs ∧
      (s.fuses.busy = none → t.fuses.array = s.fuses.array)
    let boots := fun (i : Instr) (psel vio xin x32 : Bool) (src n : Nat) (P : State → Prop) => Runs i s (fun t => Booted s t src n ∧ devices t ∧
      t.dget SYS_CLKSTAT_AON_SRC = (if x32 then 0 else 1) ∧ t.dget SYS_PWRSTAT_VIOSEL = (if vio then 1 else 0) ∧
      t.dget SYS_CLKSTAT_REF_SRC = (if xin then 0 else 1) ∧ t.dget SYS_TIMESTAT_DEGRADED = (if xin then 0 else 1) ∧
      t.dget (HOST_PCFG_GEN 0) = (if psel then 1 else if t.dget (FUSE_FLD_VALUE 2) % 4 = 2 then 2 else 3) ∧ P t)
    let warm := fun (t : State) => t.dget THERM_STAT_SHUT = s.dget THERM_STAT_SHUT ∧ t.dget SYS_AONCNT_COUNT = s.dget SYS_AONCNT_COUNT ∧
      t.fuses.shadow = s.fuses.shadow ∧ (∀ g : Eng, (s.eng g).pool = .retired → (t.eng g).pool = .retired) ∧
      (t.cis = cisMounting → t.flight = some flight ∧ ∀ k : Port, (t.port k).ring = []) ∧
      (t.cis = cisNone → t.flight = none ∧ ∀ k : Port, (t.port k).ring.map (fun x => (x.status, if t.gen k = 3 then x.tag.setWidth 64 else x.data.headD 0)) =
        (flight.filter (fun x => x.1 = k)).map (fun x => (stAbandoned, x.2.setWidth 64)))
    let written := fun (t : State) => s.cis = cisPowerfail → s.dget CISTERN_STAT_LIFERDY = 1 → t.cis ≠ cisNone → t.store.inflight = some s.inFlight
    let short := (∃ n : Ax, ((s.ax n).st ≠ .off ∧ (s.ax n).st ≠ .oasis) ∨ ((s.ax n).st = .oasis ∧ 2 ≤ s.oasisOut n)) ∨ s.fuses.busy ≠ none ∨ s.load ≠ none
    (rises → boots (.powerOnReset a b c d) a b c d 1 0 (fun t => t.dget THERM_STAT_SHUT = 0 ∧ t.dget SYS_AONCNT_COUNT = 0 ∧ t.flight = none ∧
      (∀ g : Eng, (t.eng g).pool = (State.reset.eng g).pool) ∧ ∀ k : Port, (t.port k).ring = [])) ∧
    (¬rises → Runs (.powerOnReset a b c d) s (fun t => t = s)) ∧
    (on → boots (.resetN a b c d) a b c d 2 0 warm) ∧
    (on → boots (.supply r a b c d) a b c d 4 (match r with | .vcore => 1 | .v33 => 2 | .vio => 3) warm) ∧
    (¬on → Runs (.resetN a b c d) s (fun t => t = s) ∧ Runs (.supply r a b c d) s (fun t => t = s)) ∧
    (fails → boots (.powerfail a b c d) a b c d 3 0 (fun t => warm t ∧ written t)) ∧
    (¬fails → Runs (.powerfail a b c d) s (fun t => t = s)) ∧
    (wakes → boots (.wake a b c d e) b c d e (if timed then 6 else 5) 0 warm) ∧
    (¬wakes → Runs (.wake a b c d e) s (fun t => t = s)) ∧
    (s.pins.powered = true → Runs .vsupPowerOnResetAssert s (fun t => t.pins.powered = false ∧ devices t ∧ written t ∧
      (∀ n : Ax, (t.ax n).gd.on = 0 ∧ (t.ax n).loaded = false ∧ (t.ax n).run.running = false) ∧ (∀ k : Port, (t.port k).cmds = [] ∧ (t.port k).ring = []) ∧
      t.flight = none ∧ t.load = none ∧ t.stream = none ∧ t.clk = s.clk ∧ t.pending = s.pending)) ∧
    (s.pins.powered = false → Runs .vsupPowerOnResetAssert s (fun t => t = s)) ∧
    (on → s.pins.warning = false → Runs .earlyPowerFail s (fun t => t = { s with dev := t.dev, pins := { s.pins with warning := true }, stream := none, load := t.load } ∧
      t.cis = (if s.cis = cisNone then cisNone else cisPowerfail) ∧ t.load = (if s.load.any (·.store) then none else s.load) ∧
      (s.stream ≠ none ∨ s.load.any (·.store) = true → t.dget CISTERN_ADM_HOLDER = 7))) ∧
    (¬on ∨ s.pins.warning = true → Runs .earlyPowerFail s (fun t => t = s)) ∧
    (Calm s p → s.isSvc p = true → ¬short → Runs (.enter p tag) s (fun t => Done s t p tag stOk 15 [] ∧
      t.pins = { s.pins with standby := some (p, (s.assignTag p tag).1) } ∧ t.axes = s.axes ∧ t.dget SYS_STBY_MODE = s.dget SYS_STBY_MODE)) ∧
    (Calm s p → s.isSvc p = true → short → Runs (.enter p tag) s (fun t => Done s t p tag stNotPermitted 15 [] ∧ PortsOnly s t)) ∧
    (Calm s p → s.isSvc p = false → Runs (.enter p tag) s (fun t => Refused s t p stNotPermitted)) ∧
    (s.pins.standby = some (p, tag) → s.tagUsed p tag = false → Runs .standby s (fun t =>
      t = { s with engines := t.engines, store := { s.store with dirty := false }, pins := { s.pins with asleep := true, standby := none } } ∧
      (∀ g : Eng, t.eng g = { s.eng g with pool := if (s.eng g).pool = .retired then .retired else .stopped }))) ∧
    (s.pins.standby = none ∨ (s.pins.standby = some (p, tag) ∧ s.tagUsed p tag = true) → Runs .standby s (fun t => t = s))

/-- For every command c and every state s, the step of s with c in front of a queue is exec of c on s with the rest of the queue; with an empty queue the step is one base tick (log 1). -/
def Obligations.StepRunsFront : Prop :=
  ∀ (c : Instr) (q : List Instr) (s : State),
    step { s with pending := c :: q } = exec c { s with pending := q } ∧
      step { s with pending := [] } = .next { s with pending := [] }.idle

/-- Every command, in every state, answers a next state with the rest of the queue as it was (no fault and no refusal: the spec gives every command an effect), and on an empty queue the clock advances by one base tick and nothing enters the queue (log 1). -/
def Obligations.EveryStepRuns : Prop :=
  ∀ (c : Instr) (s : State),
    Runs c s (fun t => t.pending = s.pending) ∧
      (∃ t, step s = .next t) ∧
      (s.pending = [] → ∃ t, step s = .next t ∧ t.pending = [] ∧ t.clk = s.clk + 1)

/-- At reset TIME is 0 and the time base is FREE (R24); engines E0 to E7 are ACTIVE on axes 0 to 7 in order and E8 and E9 are SPARE (R35); every axis is in OFF with every gate off, nothing is loaded, no half-bridge conducts on both sides, and every register map, bank and buffer is in its canonical form; the queue is empty. (The registers the tables give as Fuse, AON, Strap or Pin stand at the values of logs 2 and 3.) -/
def Obligations.ResetState : Prop :=
    let s := State.reset
    s.time = 0 ∧ s.dget SYS_TIMESTAT_STATE = 0 ∧ s.pending = [] ∧
    (∀ e : Eng, (s.eng e).pool = (if e.val < 8 then PoolSt.active else PoolSt.spare)) ∧
    (∀ n : Ax, (s.ax n).engine.map (·.val) = some n.val ∧ (s.ax n).st = .off ∧ (s.ax n).gd.on = 0 ∧ (s.ax n).loaded = false ∧
      (s.ax n).run.running = false) ∧
    s.noShoot = true ∧ s.mapsWf = true ∧ s.banksWf = true

/-- From every state in which no half-bridge has both its gates commanded on, every step (whichever command is in front, or a base tick) leads to such a state: a turn-on is issued only with the opposite gate commanded off and confirmed low, every other change of the outputs only takes gates off (R219, R223). -/
def Obligations.NoShootInvariant : Prop :=
  ∀ (s t : State),
    s.noShoot = true → step s = .next t → t.noShoot = true

/-- For every payload: the check byte has bit j set when an odd number of the set payload bits have bit j in their column; the payload with its own check byte decodes clean; with any one of the 72 bits flipped it is corrected to the payload; with any two of them flipped it is uncorrectable. The all-zero word is a codeword. -/
def Obligations.HsiaoCorrects : Prop :=
  ∀ (w : W64),
    let flip := fun (k : Fin 72) (x : W64 × Byte) =>
      if k.val < 64 then (x.1 ^^^ ((1 : W64) <<< k.val), x.2) else (x.1, x.2 ^^^ ((1 : Byte) <<< (k.val - 64)))
    let word := (w, hsiao w)
    let read := fun (x : W64 × Byte) => hsiaoDecode x.1 x.2
    (∀ j : Fin 8, (hsiao w).getLsbD j.val =
      decide (((List.range 64).filter (fun i => w.getLsbD i && (hsiaoColumns.getD i 0).testBit j.val)).length % 2 = 1)) ∧
    read word = .clean w ∧
    (∀ k : Fin 72, read (flip k word) = .corrected w) ∧
    (∀ k l : Fin 72, k ≠ l → read (flip l (flip k word)) = .bad) ∧
    read (0, 0) = .clean 0
end

