-- ==== Sys2Proof/Laws/State.lean ====
section
/-! SUPPORT. What each named update of State leaves alone: one lemma per field per update, so that no proof unfolds a
record update. The field an update writes has its lemmas in Laws/Ops.lean. -/

namespace Sys2Proof.Machine

open Sys2Proof

variable (s : State)

/-! ### modAx -/

@[simp] theorem State.modAx_pending (n : Ax) (f : Axis → Axis) : (s.modAx n f).pending = s.pending := rfl
@[simp] theorem State.modAx_clk (n : Ax) (f : Axis → Axis) : (s.modAx n f).clk = s.clk := rfl
@[simp] theorem State.modAx_cycleEnd (n : Ax) (f : Axis → Axis) : (s.modAx n f).cycleEnd = s.cycleEnd := rfl
@[simp] theorem State.modAx_ain (n : Ax) (f : Axis → Axis) : (s.modAx n f).ain = s.ain := rfl
@[simp] theorem State.modAx_ainAt (n : Ax) (f : Axis → Axis) : (s.modAx n f).ainAt = s.ainAt := rfl
@[simp] theorem State.modAx_prb (n : Ax) (f : Axis → Axis) : (s.modAx n f).prb = s.prb := rfl
@[simp] theorem State.modAx_tm (n : Ax) (f : Axis → Axis) : (s.modAx n f).tm = s.tm := rfl
@[simp] theorem State.modAx_free (n : Ax) (f : Axis → Axis) : (s.modAx n f).free = s.free := rfl
@[simp] theorem State.modAx_dev (n : Ax) (f : Axis → Axis) : (s.modAx n f).dev = s.dev := rfl
@[simp] theorem State.modAx_engines (n : Ax) (f : Axis → Axis) : (s.modAx n f).engines = s.engines := rfl
@[simp] theorem State.modAx_pool (n : Ax) (f : Axis → Axis) : (s.modAx n f).pool = s.pool := rfl
@[simp] theorem State.modAx_ports (n : Ax) (f : Axis → Axis) : (s.modAx n f).ports = s.ports := rfl
@[simp] theorem State.modAx_flight (n : Ax) (f : Axis → Axis) : (s.modAx n f).flight = s.flight := rfl
@[simp] theorem State.modAx_contest (n : Ax) (f : Axis → Axis) : (s.modAx n f).contest = s.contest := rfl
@[simp] theorem State.modAx_load (n : Ax) (f : Axis → Axis) : (s.modAx n f).load = s.load := rfl
@[simp] theorem State.modAx_stream (n : Ax) (f : Axis → Axis) : (s.modAx n f).stream = s.stream := rfl
@[simp] theorem State.modAx_shared (n : Ax) (f : Axis → Axis) : (s.modAx n f).shared = s.shared := rfl
@[simp] theorem State.modAx_store (n : Ax) (f : Axis → Axis) : (s.modAx n f).store = s.store := rfl
@[simp] theorem State.modAx_fuses (n : Ax) (f : Axis → Axis) : (s.modAx n f).fuses = s.fuses := rfl
@[simp] theorem State.modAx_buses (n : Ax) (f : Axis → Axis) : (s.modAx n f).buses = s.buses := rfl
@[simp] theorem State.modAx_therm (n : Ax) (f : Axis → Axis) : (s.modAx n f).therm = s.therm := rfl
@[simp] theorem State.modAx_enc (n : Ax) (f : Axis → Axis) : (s.modAx n f).enc = s.enc := rfl
@[simp] theorem State.modAx_emu (n : Ax) (f : Axis → Axis) : (s.modAx n f).emu = s.emu := rfl
@[simp] theorem State.modAx_bdiv (n : Ax) (f : Axis → Axis) : (s.modAx n f).bdiv = s.bdiv := rfl
@[simp] theorem State.modAx_bdivBy (n : Ax) (f : Axis → Axis) : (s.modAx n f).bdivBy = s.bdivBy := rfl
@[simp] theorem State.modAx_pins (n : Ax) (f : Axis → Axis) : (s.modAx n f).pins = s.pins := rfl

/-! ### setDreg -/

@[simp] theorem State.setDreg_pending (a : Nat) (v : W64) : (s.setDreg a v).pending = s.pending := rfl
@[simp] theorem State.setDreg_clk (a : Nat) (v : W64) : (s.setDreg a v).clk = s.clk := rfl
@[simp] theorem State.setDreg_cycleEnd (a : Nat) (v : W64) : (s.setDreg a v).cycleEnd = s.cycleEnd := rfl
@[simp] theorem State.setDreg_ain (a : Nat) (v : W64) : (s.setDreg a v).ain = s.ain := rfl
@[simp] theorem State.setDreg_ainAt (a : Nat) (v : W64) : (s.setDreg a v).ainAt = s.ainAt := rfl
@[simp] theorem State.setDreg_prb (a : Nat) (v : W64) : (s.setDreg a v).prb = s.prb := rfl
@[simp] theorem State.setDreg_tm (a : Nat) (v : W64) : (s.setDreg a v).tm = s.tm := rfl
@[simp] theorem State.setDreg_free (a : Nat) (v : W64) : (s.setDreg a v).free = s.free := rfl
@[simp] theorem State.setDreg_axes (a : Nat) (v : W64) : (s.setDreg a v).axes = s.axes := rfl
@[simp] theorem State.setDreg_engines (a : Nat) (v : W64) : (s.setDreg a v).engines = s.engines := rfl
@[simp] theorem State.setDreg_pool (a : Nat) (v : W64) : (s.setDreg a v).pool = s.pool := rfl
@[simp] theorem State.setDreg_ports (a : Nat) (v : W64) : (s.setDreg a v).ports = s.ports := rfl
@[simp] theorem State.setDreg_flight (a : Nat) (v : W64) : (s.setDreg a v).flight = s.flight := rfl
@[simp] theorem State.setDreg_contest (a : Nat) (v : W64) : (s.setDreg a v).contest = s.contest := rfl
@[simp] theorem State.setDreg_load (a : Nat) (v : W64) : (s.setDreg a v).load = s.load := rfl
@[simp] theorem State.setDreg_stream (a : Nat) (v : W64) : (s.setDreg a v).stream = s.stream := rfl
@[simp] theorem State.setDreg_shared (a : Nat) (v : W64) : (s.setDreg a v).shared = s.shared := rfl
@[simp] theorem State.setDreg_store (a : Nat) (v : W64) : (s.setDreg a v).store = s.store := rfl
@[simp] theorem State.setDreg_fuses (a : Nat) (v : W64) : (s.setDreg a v).fuses = s.fuses := rfl
@[simp] theorem State.setDreg_buses (a : Nat) (v : W64) : (s.setDreg a v).buses = s.buses := rfl
@[simp] theorem State.setDreg_therm (a : Nat) (v : W64) : (s.setDreg a v).therm = s.therm := rfl
@[simp] theorem State.setDreg_enc (a : Nat) (v : W64) : (s.setDreg a v).enc = s.enc := rfl
@[simp] theorem State.setDreg_emu (a : Nat) (v : W64) : (s.setDreg a v).emu = s.emu := rfl
@[simp] theorem State.setDreg_bdiv (a : Nat) (v : W64) : (s.setDreg a v).bdiv = s.bdiv := rfl
@[simp] theorem State.setDreg_bdivBy (a : Nat) (v : W64) : (s.setDreg a v).bdivBy = s.bdivBy := rfl
@[simp] theorem State.setDreg_pins (a : Nat) (v : W64) : (s.setDreg a v).pins = s.pins := rfl

/-! ### modPort -/

@[simp] theorem State.modPort_pending (p : Port) (f : PortSt → PortSt) : (s.modPort p f).pending = s.pending := rfl
@[simp] theorem State.modPort_clk (p : Port) (f : PortSt → PortSt) : (s.modPort p f).clk = s.clk := rfl
@[simp] theorem State.modPort_cycleEnd (p : Port) (f : PortSt → PortSt) : (s.modPort p f).cycleEnd = s.cycleEnd := rfl
@[simp] theorem State.modPort_ain (p : Port) (f : PortSt → PortSt) : (s.modPort p f).ain = s.ain := rfl
@[simp] theorem State.modPort_ainAt (p : Port) (f : PortSt → PortSt) : (s.modPort p f).ainAt = s.ainAt := rfl
@[simp] theorem State.modPort_prb (p : Port) (f : PortSt → PortSt) : (s.modPort p f).prb = s.prb := rfl
@[simp] theorem State.modPort_tm (p : Port) (f : PortSt → PortSt) : (s.modPort p f).tm = s.tm := rfl
@[simp] theorem State.modPort_free (p : Port) (f : PortSt → PortSt) : (s.modPort p f).free = s.free := rfl
@[simp] theorem State.modPort_dev (p : Port) (f : PortSt → PortSt) : (s.modPort p f).dev = s.dev := rfl
@[simp] theorem State.modPort_axes (p : Port) (f : PortSt → PortSt) : (s.modPort p f).axes = s.axes := rfl
@[simp] theorem State.modPort_engines (p : Port) (f : PortSt → PortSt) : (s.modPort p f).engines = s.engines := rfl
@[simp] theorem State.modPort_pool (p : Port) (f : PortSt → PortSt) : (s.modPort p f).pool = s.pool := rfl
@[simp] theorem State.modPort_flight (p : Port) (f : PortSt → PortSt) : (s.modPort p f).flight = s.flight := rfl
@[simp] theorem State.modPort_contest (p : Port) (f : PortSt → PortSt) : (s.modPort p f).contest = s.contest := rfl
@[simp] theorem State.modPort_load (p : Port) (f : PortSt → PortSt) : (s.modPort p f).load = s.load := rfl
@[simp] theorem State.modPort_stream (p : Port) (f : PortSt → PortSt) : (s.modPort p f).stream = s.stream := rfl
@[simp] theorem State.modPort_shared (p : Port) (f : PortSt → PortSt) : (s.modPort p f).shared = s.shared := rfl
@[simp] theorem State.modPort_store (p : Port) (f : PortSt → PortSt) : (s.modPort p f).store = s.store := rfl
@[simp] theorem State.modPort_fuses (p : Port) (f : PortSt → PortSt) : (s.modPort p f).fuses = s.fuses := rfl
@[simp] theorem State.modPort_buses (p : Port) (f : PortSt → PortSt) : (s.modPort p f).buses = s.buses := rfl
@[simp] theorem State.modPort_therm (p : Port) (f : PortSt → PortSt) : (s.modPort p f).therm = s.therm := rfl
@[simp] theorem State.modPort_enc (p : Port) (f : PortSt → PortSt) : (s.modPort p f).enc = s.enc := rfl
@[simp] theorem State.modPort_emu (p : Port) (f : PortSt → PortSt) : (s.modPort p f).emu = s.emu := rfl
@[simp] theorem State.modPort_bdiv (p : Port) (f : PortSt → PortSt) : (s.modPort p f).bdiv = s.bdiv := rfl
@[simp] theorem State.modPort_bdivBy (p : Port) (f : PortSt → PortSt) : (s.modPort p f).bdivBy = s.bdivBy := rfl
@[simp] theorem State.modPort_pins (p : Port) (f : PortSt → PortSt) : (s.modPort p f).pins = s.pins := rfl

/-! ### modEng -/

@[simp] theorem State.modEng_pending (e : Eng) (f : Engine → Engine) : (s.modEng e f).pending = s.pending := rfl
@[simp] theorem State.modEng_clk (e : Eng) (f : Engine → Engine) : (s.modEng e f).clk = s.clk := rfl
@[simp] theorem State.modEng_cycleEnd (e : Eng) (f : Engine → Engine) : (s.modEng e f).cycleEnd = s.cycleEnd := rfl
@[simp] theorem State.modEng_ain (e : Eng) (f : Engine → Engine) : (s.modEng e f).ain = s.ain := rfl
@[simp] theorem State.modEng_ainAt (e : Eng) (f : Engine → Engine) : (s.modEng e f).ainAt = s.ainAt := rfl
@[simp] theorem State.modEng_prb (e : Eng) (f : Engine → Engine) : (s.modEng e f).prb = s.prb := rfl
@[simp] theorem State.modEng_tm (e : Eng) (f : Engine → Engine) : (s.modEng e f).tm = s.tm := rfl
@[simp] theorem State.modEng_free (e : Eng) (f : Engine → Engine) : (s.modEng e f).free = s.free := rfl
@[simp] theorem State.modEng_dev (e : Eng) (f : Engine → Engine) : (s.modEng e f).dev = s.dev := rfl
@[simp] theorem State.modEng_axes (e : Eng) (f : Engine → Engine) : (s.modEng e f).axes = s.axes := rfl
@[simp] theorem State.modEng_pool (e : Eng) (f : Engine → Engine) : (s.modEng e f).pool = s.pool := rfl
@[simp] theorem State.modEng_ports (e : Eng) (f : Engine → Engine) : (s.modEng e f).ports = s.ports := rfl
@[simp] theorem State.modEng_flight (e : Eng) (f : Engine → Engine) : (s.modEng e f).flight = s.flight := rfl
@[simp] theorem State.modEng_contest (e : Eng) (f : Engine → Engine) : (s.modEng e f).contest = s.contest := rfl
@[simp] theorem State.modEng_load (e : Eng) (f : Engine → Engine) : (s.modEng e f).load = s.load := rfl
@[simp] theorem State.modEng_stream (e : Eng) (f : Engine → Engine) : (s.modEng e f).stream = s.stream := rfl
@[simp] theorem State.modEng_shared (e : Eng) (f : Engine → Engine) : (s.modEng e f).shared = s.shared := rfl
@[simp] theorem State.modEng_store (e : Eng) (f : Engine → Engine) : (s.modEng e f).store = s.store := rfl
@[simp] theorem State.modEng_fuses (e : Eng) (f : Engine → Engine) : (s.modEng e f).fuses = s.fuses := rfl
@[simp] theorem State.modEng_buses (e : Eng) (f : Engine → Engine) : (s.modEng e f).buses = s.buses := rfl
@[simp] theorem State.modEng_therm (e : Eng) (f : Engine → Engine) : (s.modEng e f).therm = s.therm := rfl
@[simp] theorem State.modEng_enc (e : Eng) (f : Engine → Engine) : (s.modEng e f).enc = s.enc := rfl
@[simp] theorem State.modEng_emu (e : Eng) (f : Engine → Engine) : (s.modEng e f).emu = s.emu := rfl
@[simp] theorem State.modEng_bdiv (e : Eng) (f : Engine → Engine) : (s.modEng e f).bdiv = s.bdiv := rfl
@[simp] theorem State.modEng_bdivBy (e : Eng) (f : Engine → Engine) : (s.modEng e f).bdivBy = s.bdivBy := rfl
@[simp] theorem State.modEng_pins (e : Eng) (f : Engine → Engine) : (s.modEng e f).pins = s.pins := rfl

/-! ### modBus -/

@[simp] theorem State.modBus_pending (x : Bus) (f : BusSt → BusSt) : (s.modBus x f).pending = s.pending := rfl
@[simp] theorem State.modBus_clk (x : Bus) (f : BusSt → BusSt) : (s.modBus x f).clk = s.clk := rfl
@[simp] theorem State.modBus_cycleEnd (x : Bus) (f : BusSt → BusSt) : (s.modBus x f).cycleEnd = s.cycleEnd := rfl
@[simp] theorem State.modBus_ain (x : Bus) (f : BusSt → BusSt) : (s.modBus x f).ain = s.ain := rfl
@[simp] theorem State.modBus_ainAt (x : Bus) (f : BusSt → BusSt) : (s.modBus x f).ainAt = s.ainAt := rfl
@[simp] theorem State.modBus_prb (x : Bus) (f : BusSt → BusSt) : (s.modBus x f).prb = s.prb := rfl
@[simp] theorem State.modBus_tm (x : Bus) (f : BusSt → BusSt) : (s.modBus x f).tm = s.tm := rfl
@[simp] theorem State.modBus_free (x : Bus) (f : BusSt → BusSt) : (s.modBus x f).free = s.free := rfl
@[simp] theorem State.modBus_dev (x : Bus) (f : BusSt → BusSt) : (s.modBus x f).dev = s.dev := rfl
@[simp] theorem State.modBus_axes (x : Bus) (f : BusSt → BusSt) : (s.modBus x f).axes = s.axes := rfl
@[simp] theorem State.modBus_engines (x : Bus) (f : BusSt → BusSt) : (s.modBus x f).engines = s.engines := rfl
@[simp] theorem State.modBus_pool (x : Bus) (f : BusSt → BusSt) : (s.modBus x f).pool = s.pool := rfl
@[simp] theorem State.modBus_ports (x : Bus) (f : BusSt → BusSt) : (s.modBus x f).ports = s.ports := rfl
@[simp] theorem State.modBus_flight (x : Bus) (f : BusSt → BusSt) : (s.modBus x f).flight = s.flight := rfl
@[simp] theorem State.modBus_contest (x : Bus) (f : BusSt → BusSt) : (s.modBus x f).contest = s.contest := rfl
@[simp] theorem State.modBus_load (x : Bus) (f : BusSt → BusSt) : (s.modBus x f).load = s.load := rfl
@[simp] theorem State.modBus_stream (x : Bus) (f : BusSt → BusSt) : (s.modBus x f).stream = s.stream := rfl
@[simp] theorem State.modBus_shared (x : Bus) (f : BusSt → BusSt) : (s.modBus x f).shared = s.shared := rfl
@[simp] theorem State.modBus_store (x : Bus) (f : BusSt → BusSt) : (s.modBus x f).store = s.store := rfl
@[simp] theorem State.modBus_fuses (x : Bus) (f : BusSt → BusSt) : (s.modBus x f).fuses = s.fuses := rfl
@[simp] theorem State.modBus_therm (x : Bus) (f : BusSt → BusSt) : (s.modBus x f).therm = s.therm := rfl
@[simp] theorem State.modBus_enc (x : Bus) (f : BusSt → BusSt) : (s.modBus x f).enc = s.enc := rfl
@[simp] theorem State.modBus_emu (x : Bus) (f : BusSt → BusSt) : (s.modBus x f).emu = s.emu := rfl
@[simp] theorem State.modBus_bdiv (x : Bus) (f : BusSt → BusSt) : (s.modBus x f).bdiv = s.bdiv := rfl
@[simp] theorem State.modBus_bdivBy (x : Bus) (f : BusSt → BusSt) : (s.modBus x f).bdivBy = s.bdivBy := rfl
@[simp] theorem State.modBus_pins (x : Bus) (f : BusSt → BusSt) : (s.modBus x f).pins = s.pins := rfl

/-! ### modStore -/

@[simp] theorem State.modStore_pending (f : Store → Store) : (s.modStore f).pending = s.pending := rfl
@[simp] theorem State.modStore_clk (f : Store → Store) : (s.modStore f).clk = s.clk := rfl
@[simp] theorem State.modStore_cycleEnd (f : Store → Store) : (s.modStore f).cycleEnd = s.cycleEnd := rfl
@[simp] theorem State.modStore_ain (f : Store → Store) : (s.modStore f).ain = s.ain := rfl
@[simp] theorem State.modStore_ainAt (f : Store → Store) : (s.modStore f).ainAt = s.ainAt := rfl
@[simp] theorem State.modStore_prb (f : Store → Store) : (s.modStore f).prb = s.prb := rfl
@[simp] theorem State.modStore_tm (f : Store → Store) : (s.modStore f).tm = s.tm := rfl
@[simp] theorem State.modStore_free (f : Store → Store) : (s.modStore f).free = s.free := rfl
@[simp] theorem State.modStore_dev (f : Store → Store) : (s.modStore f).dev = s.dev := rfl
@[simp] theorem State.modStore_axes (f : Store → Store) : (s.modStore f).axes = s.axes := rfl
@[simp] theorem State.modStore_engines (f : Store → Store) : (s.modStore f).engines = s.engines := rfl
@[simp] theorem State.modStore_pool (f : Store → Store) : (s.modStore f).pool = s.pool := rfl
@[simp] theorem State.modStore_ports (f : Store → Store) : (s.modStore f).ports = s.ports := rfl
@[simp] theorem State.modStore_flight (f : Store → Store) : (s.modStore f).flight = s.flight := rfl
@[simp] theorem State.modStore_contest (f : Store → Store) : (s.modStore f).contest = s.contest := rfl
@[simp] theorem State.modStore_load (f : Store → Store) : (s.modStore f).load = s.load := rfl
@[simp] theorem State.modStore_stream (f : Store → Store) : (s.modStore f).stream = s.stream := rfl
@[simp] theorem State.modStore_shared (f : Store → Store) : (s.modStore f).shared = s.shared := rfl
@[simp] theorem State.modStore_fuses (f : Store → Store) : (s.modStore f).fuses = s.fuses := rfl
@[simp] theorem State.modStore_buses (f : Store → Store) : (s.modStore f).buses = s.buses := rfl
@[simp] theorem State.modStore_therm (f : Store → Store) : (s.modStore f).therm = s.therm := rfl
@[simp] theorem State.modStore_enc (f : Store → Store) : (s.modStore f).enc = s.enc := rfl
@[simp] theorem State.modStore_emu (f : Store → Store) : (s.modStore f).emu = s.emu := rfl
@[simp] theorem State.modStore_bdiv (f : Store → Store) : (s.modStore f).bdiv = s.bdiv := rfl
@[simp] theorem State.modStore_bdivBy (f : Store → Store) : (s.modStore f).bdivBy = s.bdivBy := rfl
@[simp] theorem State.modStore_pins (f : Store → Store) : (s.modStore f).pins = s.pins := rfl

/-! ### modPins -/

@[simp] theorem State.modPins_pending (f : Pins → Pins) : (s.modPins f).pending = s.pending := rfl
@[simp] theorem State.modPins_clk (f : Pins → Pins) : (s.modPins f).clk = s.clk := rfl
@[simp] theorem State.modPins_cycleEnd (f : Pins → Pins) : (s.modPins f).cycleEnd = s.cycleEnd := rfl
@[simp] theorem State.modPins_ain (f : Pins → Pins) : (s.modPins f).ain = s.ain := rfl
@[simp] theorem State.modPins_ainAt (f : Pins → Pins) : (s.modPins f).ainAt = s.ainAt := rfl
@[simp] theorem State.modPins_prb (f : Pins → Pins) : (s.modPins f).prb = s.prb := rfl
@[simp] theorem State.modPins_tm (f : Pins → Pins) : (s.modPins f).tm = s.tm := rfl
@[simp] theorem State.modPins_free (f : Pins → Pins) : (s.modPins f).free = s.free := rfl
@[simp] theorem State.modPins_dev (f : Pins → Pins) : (s.modPins f).dev = s.dev := rfl
@[simp] theorem State.modPins_axes (f : Pins → Pins) : (s.modPins f).axes = s.axes := rfl
@[simp] theorem State.modPins_engines (f : Pins → Pins) : (s.modPins f).engines = s.engines := rfl
@[simp] theorem State.modPins_pool (f : Pins → Pins) : (s.modPins f).pool = s.pool := rfl
@[simp] theorem State.modPins_ports (f : Pins → Pins) : (s.modPins f).ports = s.ports := rfl
@[simp] theorem State.modPins_flight (f : Pins → Pins) : (s.modPins f).flight = s.flight := rfl
@[simp] theorem State.modPins_contest (f : Pins → Pins) : (s.modPins f).contest = s.contest := rfl
@[simp] theorem State.modPins_load (f : Pins → Pins) : (s.modPins f).load = s.load := rfl
@[simp] theorem State.modPins_stream (f : Pins → Pins) : (s.modPins f).stream = s.stream := rfl
@[simp] theorem State.modPins_shared (f : Pins → Pins) : (s.modPins f).shared = s.shared := rfl
@[simp] theorem State.modPins_store (f : Pins → Pins) : (s.modPins f).store = s.store := rfl
@[simp] theorem State.modPins_fuses (f : Pins → Pins) : (s.modPins f).fuses = s.fuses := rfl
@[simp] theorem State.modPins_buses (f : Pins → Pins) : (s.modPins f).buses = s.buses := rfl
@[simp] theorem State.modPins_therm (f : Pins → Pins) : (s.modPins f).therm = s.therm := rfl
@[simp] theorem State.modPins_enc (f : Pins → Pins) : (s.modPins f).enc = s.enc := rfl
@[simp] theorem State.modPins_emu (f : Pins → Pins) : (s.modPins f).emu = s.emu := rfl
@[simp] theorem State.modPins_bdiv (f : Pins → Pins) : (s.modPins f).bdiv = s.bdiv := rfl
@[simp] theorem State.modPins_bdivBy (f : Pins → Pins) : (s.modPins f).bdivBy = s.bdivBy := rfl

/-! ### modPool -/

@[simp] theorem State.modPool_pending (f : Pool → Pool) : (s.modPool f).pending = s.pending := rfl
@[simp] theorem State.modPool_clk (f : Pool → Pool) : (s.modPool f).clk = s.clk := rfl
@[simp] theorem State.modPool_cycleEnd (f : Pool → Pool) : (s.modPool f).cycleEnd = s.cycleEnd := rfl
@[simp] theorem State.modPool_ain (f : Pool → Pool) : (s.modPool f).ain = s.ain := rfl
@[simp] theorem State.modPool_ainAt (f : Pool → Pool) : (s.modPool f).ainAt = s.ainAt := rfl
@[simp] theorem State.modPool_prb (f : Pool → Pool) : (s.modPool f).prb = s.prb := rfl
@[simp] theorem State.modPool_tm (f : Pool → Pool) : (s.modPool f).tm = s.tm := rfl
@[simp] theorem State.modPool_free (f : Pool → Pool) : (s.modPool f).free = s.free := rfl
@[simp] theorem State.modPool_dev (f : Pool → Pool) : (s.modPool f).dev = s.dev := rfl
@[simp] theorem State.modPool_axes (f : Pool → Pool) : (s.modPool f).axes = s.axes := rfl
@[simp] theorem State.modPool_engines (f : Pool → Pool) : (s.modPool f).engines = s.engines := rfl
@[simp] theorem State.modPool_ports (f : Pool → Pool) : (s.modPool f).ports = s.ports := rfl
@[simp] theorem State.modPool_flight (f : Pool → Pool) : (s.modPool f).flight = s.flight := rfl
@[simp] theorem State.modPool_contest (f : Pool → Pool) : (s.modPool f).contest = s.contest := rfl
@[simp] theorem State.modPool_load (f : Pool → Pool) : (s.modPool f).load = s.load := rfl
@[simp] theorem State.modPool_stream (f : Pool → Pool) : (s.modPool f).stream = s.stream := rfl
@[simp] theorem State.modPool_shared (f : Pool → Pool) : (s.modPool f).shared = s.shared := rfl
@[simp] theorem State.modPool_store (f : Pool → Pool) : (s.modPool f).store = s.store := rfl
@[simp] theorem State.modPool_fuses (f : Pool → Pool) : (s.modPool f).fuses = s.fuses := rfl
@[simp] theorem State.modPool_buses (f : Pool → Pool) : (s.modPool f).buses = s.buses := rfl
@[simp] theorem State.modPool_therm (f : Pool → Pool) : (s.modPool f).therm = s.therm := rfl
@[simp] theorem State.modPool_enc (f : Pool → Pool) : (s.modPool f).enc = s.enc := rfl
@[simp] theorem State.modPool_emu (f : Pool → Pool) : (s.modPool f).emu = s.emu := rfl
@[simp] theorem State.modPool_bdiv (f : Pool → Pool) : (s.modPool f).bdiv = s.bdiv := rfl
@[simp] theorem State.modPool_bdivBy (f : Pool → Pool) : (s.modPool f).bdivBy = s.bdivBy := rfl
@[simp] theorem State.modPool_pins (f : Pool → Pool) : (s.modPool f).pins = s.pins := rfl

/-! ### aput -/

@[simp] theorem State.aput_pending (n : Ax) (f : Fld) (v : Nat) : (s.aput n f v).pending = s.pending := rfl
@[simp] theorem State.aput_clk (n : Ax) (f : Fld) (v : Nat) : (s.aput n f v).clk = s.clk := rfl
@[simp] theorem State.aput_cycleEnd (n : Ax) (f : Fld) (v : Nat) : (s.aput n f v).cycleEnd = s.cycleEnd := rfl
@[simp] theorem State.aput_ain (n : Ax) (f : Fld) (v : Nat) : (s.aput n f v).ain = s.ain := rfl
@[simp] theorem State.aput_ainAt (n : Ax) (f : Fld) (v : Nat) : (s.aput n f v).ainAt = s.ainAt := rfl
@[simp] theorem State.aput_prb (n : Ax) (f : Fld) (v : Nat) : (s.aput n f v).prb = s.prb := rfl
@[simp] theorem State.aput_tm (n : Ax) (f : Fld) (v : Nat) : (s.aput n f v).tm = s.tm := rfl
@[simp] theorem State.aput_free (n : Ax) (f : Fld) (v : Nat) : (s.aput n f v).free = s.free := rfl
@[simp] theorem State.aput_dev (n : Ax) (f : Fld) (v : Nat) : (s.aput n f v).dev = s.dev := rfl
@[simp] theorem State.aput_engines (n : Ax) (f : Fld) (v : Nat) : (s.aput n f v).engines = s.engines := rfl
@[simp] theorem State.aput_pool (n : Ax) (f : Fld) (v : Nat) : (s.aput n f v).pool = s.pool := rfl
@[simp] theorem State.aput_ports (n : Ax) (f : Fld) (v : Nat) : (s.aput n f v).ports = s.ports := rfl
@[simp] theorem State.aput_flight (n : Ax) (f : Fld) (v : Nat) : (s.aput n f v).flight = s.flight := rfl
@[simp] theorem State.aput_contest (n : Ax) (f : Fld) (v : Nat) : (s.aput n f v).contest = s.contest := rfl
@[simp] theorem State.aput_load (n : Ax) (f : Fld) (v : Nat) : (s.aput n f v).load = s.load := rfl
@[simp] theorem State.aput_stream (n : Ax) (f : Fld) (v : Nat) : (s.aput n f v).stream = s.stream := rfl
@[simp] theorem State.aput_shared (n : Ax) (f : Fld) (v : Nat) : (s.aput n f v).shared = s.shared := rfl
@[simp] theorem State.aput_store (n : Ax) (f : Fld) (v : Nat) : (s.aput n f v).store = s.store := rfl
@[simp] theorem State.aput_fuses (n : Ax) (f : Fld) (v : Nat) : (s.aput n f v).fuses = s.fuses := rfl
@[simp] theorem State.aput_buses (n : Ax) (f : Fld) (v : Nat) : (s.aput n f v).buses = s.buses := rfl
@[simp] theorem State.aput_therm (n : Ax) (f : Fld) (v : Nat) : (s.aput n f v).therm = s.therm := rfl
@[simp] theorem State.aput_enc (n : Ax) (f : Fld) (v : Nat) : (s.aput n f v).enc = s.enc := rfl
@[simp] theorem State.aput_emu (n : Ax) (f : Fld) (v : Nat) : (s.aput n f v).emu = s.emu := rfl
@[simp] theorem State.aput_bdiv (n : Ax) (f : Fld) (v : Nat) : (s.aput n f v).bdiv = s.bdiv := rfl
@[simp] theorem State.aput_bdivBy (n : Ax) (f : Fld) (v : Nat) : (s.aput n f v).bdivBy = s.bdivBy := rfl
@[simp] theorem State.aput_pins (n : Ax) (f : Fld) (v : Nat) : (s.aput n f v).pins = s.pins := rfl

/-! ### dput -/

@[simp] theorem State.dput_pending (f : Fld) (v : Nat) : (s.dput f v).pending = s.pending := rfl
@[simp] theorem State.dput_clk (f : Fld) (v : Nat) : (s.dput f v).clk = s.clk := rfl
@[simp] theorem State.dput_cycleEnd (f : Fld) (v : Nat) : (s.dput f v).cycleEnd = s.cycleEnd := rfl
@[simp] theorem State.dput_ain (f : Fld) (v : Nat) : (s.dput f v).ain = s.ain := rfl
@[simp] theorem State.dput_ainAt (f : Fld) (v : Nat) : (s.dput f v).ainAt = s.ainAt := rfl
@[simp] theorem State.dput_prb (f : Fld) (v : Nat) : (s.dput f v).prb = s.prb := rfl
@[simp] theorem State.dput_tm (f : Fld) (v : Nat) : (s.dput f v).tm = s.tm := rfl
@[simp] theorem State.dput_free (f : Fld) (v : Nat) : (s.dput f v).free = s.free := rfl
@[simp] theorem State.dput_axes (f : Fld) (v : Nat) : (s.dput f v).axes = s.axes := rfl
@[simp] theorem State.dput_engines (f : Fld) (v : Nat) : (s.dput f v).engines = s.engines := rfl
@[simp] theorem State.dput_pool (f : Fld) (v : Nat) : (s.dput f v).pool = s.pool := rfl
@[simp] theorem State.dput_ports (f : Fld) (v : Nat) : (s.dput f v).ports = s.ports := rfl
@[simp] theorem State.dput_flight (f : Fld) (v : Nat) : (s.dput f v).flight = s.flight := rfl
@[simp] theorem State.dput_contest (f : Fld) (v : Nat) : (s.dput f v).contest = s.contest := rfl
@[simp] theorem State.dput_load (f : Fld) (v : Nat) : (s.dput f v).load = s.load := rfl
@[simp] theorem State.dput_stream (f : Fld) (v : Nat) : (s.dput f v).stream = s.stream := rfl
@[simp] theorem State.dput_shared (f : Fld) (v : Nat) : (s.dput f v).shared = s.shared := rfl
@[simp] theorem State.dput_store (f : Fld) (v : Nat) : (s.dput f v).store = s.store := rfl
@[simp] theorem State.dput_fuses (f : Fld) (v : Nat) : (s.dput f v).fuses = s.fuses := rfl
@[simp] theorem State.dput_buses (f : Fld) (v : Nat) : (s.dput f v).buses = s.buses := rfl
@[simp] theorem State.dput_therm (f : Fld) (v : Nat) : (s.dput f v).therm = s.therm := rfl
@[simp] theorem State.dput_enc (f : Fld) (v : Nat) : (s.dput f v).enc = s.enc := rfl
@[simp] theorem State.dput_emu (f : Fld) (v : Nat) : (s.dput f v).emu = s.emu := rfl
@[simp] theorem State.dput_bdiv (f : Fld) (v : Nat) : (s.dput f v).bdiv = s.bdiv := rfl
@[simp] theorem State.dput_bdivBy (f : Fld) (v : Nat) : (s.dput f v).bdivBy = s.bdivBy := rfl
@[simp] theorem State.dput_pins (f : Fld) (v : Nat) : (s.dput f v).pins = s.pins := rfl

/-! ### dinc -/

@[simp] theorem State.dinc_pending (f : Fld) : (s.dinc f).pending = s.pending := rfl
@[simp] theorem State.dinc_clk (f : Fld) : (s.dinc f).clk = s.clk := rfl
@[simp] theorem State.dinc_cycleEnd (f : Fld) : (s.dinc f).cycleEnd = s.cycleEnd := rfl
@[simp] theorem State.dinc_ain (f : Fld) : (s.dinc f).ain = s.ain := rfl
@[simp] theorem State.dinc_ainAt (f : Fld) : (s.dinc f).ainAt = s.ainAt := rfl
@[simp] theorem State.dinc_prb (f : Fld) : (s.dinc f).prb = s.prb := rfl
@[simp] theorem State.dinc_tm (f : Fld) : (s.dinc f).tm = s.tm := rfl
@[simp] theorem State.dinc_free (f : Fld) : (s.dinc f).free = s.free := rfl
@[simp] theorem State.dinc_axes (f : Fld) : (s.dinc f).axes = s.axes := rfl
@[simp] theorem State.dinc_engines (f : Fld) : (s.dinc f).engines = s.engines := rfl
@[simp] theorem State.dinc_pool (f : Fld) : (s.dinc f).pool = s.pool := rfl
@[simp] theorem State.dinc_ports (f : Fld) : (s.dinc f).ports = s.ports := rfl
@[simp] theorem State.dinc_flight (f : Fld) : (s.dinc f).flight = s.flight := rfl
@[simp] theorem State.dinc_contest (f : Fld) : (s.dinc f).contest = s.contest := rfl
@[simp] theorem State.dinc_load (f : Fld) : (s.dinc f).load = s.load := rfl
@[simp] theorem State.dinc_stream (f : Fld) : (s.dinc f).stream = s.stream := rfl
@[simp] theorem State.dinc_shared (f : Fld) : (s.dinc f).shared = s.shared := rfl
@[simp] theorem State.dinc_store (f : Fld) : (s.dinc f).store = s.store := rfl
@[simp] theorem State.dinc_fuses (f : Fld) : (s.dinc f).fuses = s.fuses := rfl
@[simp] theorem State.dinc_buses (f : Fld) : (s.dinc f).buses = s.buses := rfl
@[simp] theorem State.dinc_therm (f : Fld) : (s.dinc f).therm = s.therm := rfl
@[simp] theorem State.dinc_enc (f : Fld) : (s.dinc f).enc = s.enc := rfl
@[simp] theorem State.dinc_emu (f : Fld) : (s.dinc f).emu = s.emu := rfl
@[simp] theorem State.dinc_bdiv (f : Fld) : (s.dinc f).bdiv = s.bdiv := rfl
@[simp] theorem State.dinc_bdivBy (f : Fld) : (s.dinc f).bdivBy = s.bdivBy := rfl
@[simp] theorem State.dinc_pins (f : Fld) : (s.dinc f).pins = s.pins := rfl

/-! ### ainc -/

@[simp] theorem State.ainc_pending (n : Ax) (f : Fld) : (s.ainc n f).pending = s.pending := rfl
@[simp] theorem State.ainc_clk (n : Ax) (f : Fld) : (s.ainc n f).clk = s.clk := rfl
@[simp] theorem State.ainc_cycleEnd (n : Ax) (f : Fld) : (s.ainc n f).cycleEnd = s.cycleEnd := rfl
@[simp] theorem State.ainc_ain (n : Ax) (f : Fld) : (s.ainc n f).ain = s.ain := rfl
@[simp] theorem State.ainc_ainAt (n : Ax) (f : Fld) : (s.ainc n f).ainAt = s.ainAt := rfl
@[simp] theorem State.ainc_prb (n : Ax) (f : Fld) : (s.ainc n f).prb = s.prb := rfl
@[simp] theorem State.ainc_tm (n : Ax) (f : Fld) : (s.ainc n f).tm = s.tm := rfl
@[simp] theorem State.ainc_free (n : Ax) (f : Fld) : (s.ainc n f).free = s.free := rfl
@[simp] theorem State.ainc_dev (n : Ax) (f : Fld) : (s.ainc n f).dev = s.dev := rfl
@[simp] theorem State.ainc_engines (n : Ax) (f : Fld) : (s.ainc n f).engines = s.engines := rfl
@[simp] theorem State.ainc_pool (n : Ax) (f : Fld) : (s.ainc n f).pool = s.pool := rfl
@[simp] theorem State.ainc_ports (n : Ax) (f : Fld) : (s.ainc n f).ports = s.ports := rfl
@[simp] theorem State.ainc_flight (n : Ax) (f : Fld) : (s.ainc n f).flight = s.flight := rfl
@[simp] theorem State.ainc_contest (n : Ax) (f : Fld) : (s.ainc n f).contest = s.contest := rfl
@[simp] theorem State.ainc_load (n : Ax) (f : Fld) : (s.ainc n f).load = s.load := rfl
@[simp] theorem State.ainc_stream (n : Ax) (f : Fld) : (s.ainc n f).stream = s.stream := rfl
@[simp] theorem State.ainc_shared (n : Ax) (f : Fld) : (s.ainc n f).shared = s.shared := rfl
@[simp] theorem State.ainc_store (n : Ax) (f : Fld) : (s.ainc n f).store = s.store := rfl
@[simp] theorem State.ainc_fuses (n : Ax) (f : Fld) : (s.ainc n f).fuses = s.fuses := rfl
@[simp] theorem State.ainc_buses (n : Ax) (f : Fld) : (s.ainc n f).buses = s.buses := rfl
@[simp] theorem State.ainc_therm (n : Ax) (f : Fld) : (s.ainc n f).therm = s.therm := rfl
@[simp] theorem State.ainc_enc (n : Ax) (f : Fld) : (s.ainc n f).enc = s.enc := rfl
@[simp] theorem State.ainc_emu (n : Ax) (f : Fld) : (s.ainc n f).emu = s.emu := rfl
@[simp] theorem State.ainc_bdiv (n : Ax) (f : Fld) : (s.ainc n f).bdiv = s.bdiv := rfl
@[simp] theorem State.ainc_bdivBy (n : Ax) (f : Fld) : (s.ainc n f).bdivBy = s.bdivBy := rfl
@[simp] theorem State.ainc_pins (n : Ax) (f : Fld) : (s.ainc n f).pins = s.pins := rfl

@[simp] theorem State.takeFree_pending : s.takeFree.2.pending = s.pending := rfl
@[simp] theorem State.takeFree_clk : s.takeFree.2.clk = s.clk := rfl
@[simp] theorem State.takeFree_cycleEnd : s.takeFree.2.cycleEnd = s.cycleEnd := rfl
@[simp] theorem State.takeFree_ain : s.takeFree.2.ain = s.ain := rfl
@[simp] theorem State.takeFree_ainAt : s.takeFree.2.ainAt = s.ainAt := rfl
@[simp] theorem State.takeFree_prb : s.takeFree.2.prb = s.prb := rfl
@[simp] theorem State.takeFree_tm : s.takeFree.2.tm = s.tm := rfl
@[simp] theorem State.takeFree_dev : s.takeFree.2.dev = s.dev := rfl
@[simp] theorem State.takeFree_axes : s.takeFree.2.axes = s.axes := rfl
@[simp] theorem State.takeFree_engines : s.takeFree.2.engines = s.engines := rfl
@[simp] theorem State.takeFree_pool : s.takeFree.2.pool = s.pool := rfl
@[simp] theorem State.takeFree_ports : s.takeFree.2.ports = s.ports := rfl
@[simp] theorem State.takeFree_flight : s.takeFree.2.flight = s.flight := rfl
@[simp] theorem State.takeFree_contest : s.takeFree.2.contest = s.contest := rfl
@[simp] theorem State.takeFree_load : s.takeFree.2.load = s.load := rfl
@[simp] theorem State.takeFree_stream : s.takeFree.2.stream = s.stream := rfl
@[simp] theorem State.takeFree_shared : s.takeFree.2.shared = s.shared := rfl
@[simp] theorem State.takeFree_store : s.takeFree.2.store = s.store := rfl
@[simp] theorem State.takeFree_fuses : s.takeFree.2.fuses = s.fuses := rfl
@[simp] theorem State.takeFree_buses : s.takeFree.2.buses = s.buses := rfl
@[simp] theorem State.takeFree_therm : s.takeFree.2.therm = s.therm := rfl
@[simp] theorem State.takeFree_enc : s.takeFree.2.enc = s.enc := rfl
@[simp] theorem State.takeFree_emu : s.takeFree.2.emu = s.emu := rfl
@[simp] theorem State.takeFree_bdiv : s.takeFree.2.bdiv = s.bdiv := rfl
@[simp] theorem State.takeFree_bdivBy : s.takeFree.2.bdivBy = s.bdivBy := rfl
@[simp] theorem State.takeFree_pins : s.takeFree.2.pins = s.pins := rfl
@[simp] theorem State.takeFree_free : s.takeFree.2.free = s.free + 1 := rfl

/-! ### The stored views follow the fields -/

theorem State.ax_congr {s t : State} (h : t.axes = s.axes) (n : Ax) : t.ax n = s.ax n := by simp only [State.ax, h]
theorem State.dreg_congr {s t : State} (h : t.dev = s.dev) (a : Nat) : t.dreg a = s.dreg a := by simp only [State.dreg, h]
theorem State.port_congr {s t : State} (h : t.ports = s.ports) (p : Port) : t.port p = s.port p := by simp only [State.port, h]
theorem State.eng_congr {s t : State} (h : t.engines = s.engines) (e : Eng) : t.eng e = s.eng e := by simp only [State.eng, h]
theorem State.bus_congr {s t : State} (h : t.buses = s.buses) (x : Bus) : t.bus x = s.bus x := by simp only [State.bus, h]

@[simp] theorem State.modAx_dreg (n : Ax) (f : Axis → Axis) (b : Nat) : (s.modAx n f).dreg b = s.dreg b := rfl
@[simp] theorem State.modAx_port (n : Ax) (f : Axis → Axis) (q : Port) : (s.modAx n f).port q = s.port q := rfl
@[simp] theorem State.modAx_eng (n : Ax) (f : Axis → Axis) (d : Eng) : (s.modAx n f).eng d = s.eng d := rfl
@[simp] theorem State.modAx_bus (n : Ax) (f : Axis → Axis) (y : Bus) : (s.modAx n f).bus y = s.bus y := rfl
@[simp] theorem State.modAx_dget (n : Ax) (f : Axis → Axis) (g : Fld) : (s.modAx n f).dget g = s.dget g := rfl
@[simp] theorem State.setDreg_ax (a : Nat) (v : W64) (m : Ax) : (s.setDreg a v).ax m = s.ax m := rfl
@[simp] theorem State.setDreg_port (a : Nat) (v : W64) (q : Port) : (s.setDreg a v).port q = s.port q := rfl
@[simp] theorem State.setDreg_eng (a : Nat) (v : W64) (d : Eng) : (s.setDreg a v).eng d = s.eng d := rfl
@[simp] theorem State.setDreg_bus (a : Nat) (v : W64) (y : Bus) : (s.setDreg a v).bus y = s.bus y := rfl
@[simp] theorem State.modPort_ax (p : Port) (f : PortSt → PortSt) (m : Ax) : (s.modPort p f).ax m = s.ax m := rfl
@[simp] theorem State.modPort_dreg (p : Port) (f : PortSt → PortSt) (b : Nat) : (s.modPort p f).dreg b = s.dreg b := rfl
@[simp] theorem State.modPort_eng (p : Port) (f : PortSt → PortSt) (d : Eng) : (s.modPort p f).eng d = s.eng d := rfl
@[simp] theorem State.modPort_bus (p : Port) (f : PortSt → PortSt) (y : Bus) : (s.modPort p f).bus y = s.bus y := rfl
@[simp] theorem State.modPort_dget (p : Port) (f : PortSt → PortSt) (g : Fld) : (s.modPort p f).dget g = s.dget g := rfl
@[simp] theorem State.modEng_ax (e : Eng) (f : Engine → Engine) (m : Ax) : (s.modEng e f).ax m = s.ax m := rfl
@[simp] theorem State.modEng_dreg (e : Eng) (f : Engine → Engine) (b : Nat) : (s.modEng e f).dreg b = s.dreg b := rfl
@[simp] theorem State.modEng_port (e : Eng) (f : Engine → Engine) (q : Port) : (s.modEng e f).port q = s.port q := rfl
@[simp] theorem State.modEng_bus (e : Eng) (f : Engine → Engine) (y : Bus) : (s.modEng e f).bus y = s.bus y := rfl
@[simp] theorem State.modEng_dget (e : Eng) (f : Engine → Engine) (g : Fld) : (s.modEng e f).dget g = s.dget g := rfl
@[simp] theorem State.modBus_ax (x : Bus) (f : BusSt → BusSt) (m : Ax) : (s.modBus x f).ax m = s.ax m := rfl
@[simp] theorem State.modBus_dreg (x : Bus) (f : BusSt → BusSt) (b : Nat) : (s.modBus x f).dreg b = s.dreg b := rfl
@[simp] theorem State.modBus_port (x : Bus) (f : BusSt → BusSt) (q : Port) : (s.modBus x f).port q = s.port q := rfl
@[simp] theorem State.modBus_eng (x : Bus) (f : BusSt → BusSt) (d : Eng) : (s.modBus x f).eng d = s.eng d := rfl
@[simp] theorem State.modBus_dget (x : Bus) (f : BusSt → BusSt) (g : Fld) : (s.modBus x f).dget g = s.dget g := rfl
@[simp] theorem State.modStore_ax (f : Store → Store) (m : Ax) : (s.modStore f).ax m = s.ax m := rfl
@[simp] theorem State.modStore_dreg (f : Store → Store) (b : Nat) : (s.modStore f).dreg b = s.dreg b := rfl
@[simp] theorem State.modStore_port (f : Store → Store) (q : Port) : (s.modStore f).port q = s.port q := rfl
@[simp] theorem State.modStore_eng (f : Store → Store) (d : Eng) : (s.modStore f).eng d = s.eng d := rfl
@[simp] theorem State.modStore_bus (f : Store → Store) (y : Bus) : (s.modStore f).bus y = s.bus y := rfl
@[simp] theorem State.modStore_dget (f : Store → Store) (g : Fld) : (s.modStore f).dget g = s.dget g := rfl
@[simp] theorem State.modPins_ax (f : Pins → Pins) (m : Ax) : (s.modPins f).ax m = s.ax m := rfl
@[simp] theorem State.modPins_dreg (f : Pins → Pins) (b : Nat) : (s.modPins f).dreg b = s.dreg b := rfl
@[simp] theorem State.modPins_port (f : Pins → Pins) (q : Port) : (s.modPins f).port q = s.port q := rfl
@[simp] theorem State.modPins_eng (f : Pins → Pins) (d : Eng) : (s.modPins f).eng d = s.eng d := rfl
@[simp] theorem State.modPins_bus (f : Pins → Pins) (y : Bus) : (s.modPins f).bus y = s.bus y := rfl
@[simp] theorem State.modPins_dget (f : Pins → Pins) (g : Fld) : (s.modPins f).dget g = s.dget g := rfl
@[simp] theorem State.modPool_ax (f : Pool → Pool) (m : Ax) : (s.modPool f).ax m = s.ax m := rfl
@[simp] theorem State.modPool_dreg (f : Pool → Pool) (b : Nat) : (s.modPool f).dreg b = s.dreg b := rfl
@[simp] theorem State.modPool_port (f : Pool → Pool) (q : Port) : (s.modPool f).port q = s.port q := rfl
@[simp] theorem State.modPool_eng (f : Pool → Pool) (d : Eng) : (s.modPool f).eng d = s.eng d := rfl
@[simp] theorem State.modPool_bus (f : Pool → Pool) (y : Bus) : (s.modPool f).bus y = s.bus y := rfl
@[simp] theorem State.modPool_dget (f : Pool → Pool) (g : Fld) : (s.modPool f).dget g = s.dget g := rfl
@[simp] theorem State.aput_dreg (n : Ax) (f : Fld) (v : Nat) (b : Nat) : (s.aput n f v).dreg b = s.dreg b := rfl
@[simp] theorem State.aput_port (n : Ax) (f : Fld) (v : Nat) (q : Port) : (s.aput n f v).port q = s.port q := rfl
@[simp] theorem State.aput_eng (n : Ax) (f : Fld) (v : Nat) (d : Eng) : (s.aput n f v).eng d = s.eng d := rfl
@[simp] theorem State.aput_bus (n : Ax) (f : Fld) (v : Nat) (y : Bus) : (s.aput n f v).bus y = s.bus y := rfl
@[simp] theorem State.aput_dget (n : Ax) (f : Fld) (v : Nat) (g : Fld) : (s.aput n f v).dget g = s.dget g := rfl
@[simp] theorem State.dput_ax (f : Fld) (v : Nat) (m : Ax) : (s.dput f v).ax m = s.ax m := rfl
@[simp] theorem State.dput_port (f : Fld) (v : Nat) (q : Port) : (s.dput f v).port q = s.port q := rfl
@[simp] theorem State.dput_eng (f : Fld) (v : Nat) (d : Eng) : (s.dput f v).eng d = s.eng d := rfl
@[simp] theorem State.dput_bus (f : Fld) (v : Nat) (y : Bus) : (s.dput f v).bus y = s.bus y := rfl
@[simp] theorem State.dinc_ax (f : Fld) (m : Ax) : (s.dinc f).ax m = s.ax m := rfl
@[simp] theorem State.dinc_port (f : Fld) (q : Port) : (s.dinc f).port q = s.port q := rfl
@[simp] theorem State.dinc_eng (f : Fld) (d : Eng) : (s.dinc f).eng d = s.eng d := rfl
@[simp] theorem State.dinc_bus (f : Fld) (y : Bus) : (s.dinc f).bus y = s.bus y := rfl
@[simp] theorem State.ainc_dreg (n : Ax) (f : Fld) (b : Nat) : (s.ainc n f).dreg b = s.dreg b := rfl
@[simp] theorem State.ainc_port (n : Ax) (f : Fld) (q : Port) : (s.ainc n f).port q = s.port q := rfl
@[simp] theorem State.ainc_eng (n : Ax) (f : Fld) (d : Eng) : (s.ainc n f).eng d = s.eng d := rfl
@[simp] theorem State.ainc_bus (n : Ax) (f : Fld) (y : Bus) : (s.ainc n f).bus y = s.bus y := rfl
@[simp] theorem State.ainc_dget (n : Ax) (f : Fld) (g : Fld) : (s.ainc n f).dget g = s.dget g := rfl

end Sys2Proof.Machine
end

