-- ==== Sys2Proof/Laws/Ops.lean ====
section
/-! SUPPORT. What the named operations over word maps, fields and the indexed parts of State do: a read after a write, and
the canonical form. -/

namespace Sys2Proof.Machine

open Sys2Proof

/-! ### Word maps -/

theorem WMap.lookup_ins_same (a : Nat) (v : W64) (m : WMap) : (WMap.ins a v m).lookup a = some v := by
  induction m with
  | nil => simp [WMap.ins]
  | cons e t ih =>
    obtain ⟨k, w⟩ := e
    simp only [WMap.ins]
    split
    · simp [List.lookup]
    · split
      · simp [List.lookup]
      · have : (a == k) = false := by simp_all
        simp [List.lookup, this, ih]

theorem WMap.lookup_ins_ne {a b : Nat} (h : b ≠ a) (v : W64) (m : WMap) :
    (WMap.ins a v m).lookup b = m.lookup b := by
  have hb : (b == a) = false := by simpa using h
  induction m with
  | nil => simp [WMap.ins, List.lookup, hb]
  | cons e t ih =>
    obtain ⟨k, w⟩ := e
    simp only [WMap.ins]
    split
    · simp [List.lookup, hb]
    · split
      · rename_i h1 h2
        subst h2
        simp [List.lookup, hb]
      · simp [List.lookup, ih]

theorem WMap.lookup_del_same (a : Nat) (m : WMap) : (WMap.del a m).lookup a = none := by
  induction m with
  | nil => rfl
  | cons e t ih =>
    obtain ⟨k, w⟩ := e
    simp only [WMap.del]
    split
    · exact ih
    · rename_i h
      have : (a == k) = false := by simpa using fun x => h x.symm
      simp [List.lookup, this, ih]

theorem WMap.lookup_del_ne {a b : Nat} (h : b ≠ a) (m : WMap) : (WMap.del a m).lookup b = m.lookup b := by
  induction m with
  | nil => rfl
  | cons e t ih =>
    obtain ⟨k, w⟩ := e
    simp only [WMap.del]
    split
    · rename_i hk
      subst hk
      have : (b == k) = false := by simpa using h
      simp [List.lookup, this, ih]
    · simp [List.lookup, ih]

/-- A read after a write to the same word gives the value written. -/
@[simp] theorem WMap.get_set_same (d : Nat → W64) (m : WMap) (a : Nat) (v : W64) :
    WMap.get d (WMap.set d m a v) a = v := by
  simp only [WMap.get, WMap.set]
  split
  · rename_i h
    simp [WMap.lookup_del_same, h]
  · simp [WMap.lookup_ins_same]

/-- A write leaves every other word alone. -/
theorem WMap.get_set_ne (d : Nat → W64) (m : WMap) {a b : Nat} (h : b ≠ a) (v : W64) :
    WMap.get d (WMap.set d m a v) b = WMap.get d m b := by
  simp only [WMap.get, WMap.set]
  split
  · simp [WMap.lookup_del_ne h]
  · simp [WMap.lookup_ins_ne h]

theorem WMap.mem_ins {a : Nat} {v : W64} {m : WMap} {e : Nat × W64} (h : e ∈ WMap.ins a v m) : e = (a, v) ∨ e ∈ m := by
  induction m with
  | nil => simpa [WMap.ins] using h
  | cons x t ih =>
    obtain ⟨k, w⟩ := x
    simp only [WMap.ins] at h
    split at h
    · simpa using h
    · split at h
      · rcases List.mem_cons.1 h with h | h
        · exact .inl h
        · exact .inr (List.mem_cons_of_mem _ h)
      · rcases List.mem_cons.1 h with h | h
        · exact .inr (by simp [h])
        · rcases ih h with h | h
          · exact .inl h
          · exact .inr (List.mem_cons_of_mem _ h)

theorem WMap.mem_del {a : Nat} {m : WMap} {e : Nat × W64} (h : e ∈ WMap.del a m) : e ∈ m := by
  induction m with
  | nil => exact h
  | cons x t ih =>
    obtain ⟨k, w⟩ := x
    simp only [WMap.del] at h
    split at h
    · exact List.mem_cons_of_mem _ (ih h)
    · rcases List.mem_cons.1 h with h | h
      · simp [h]
      · exact List.mem_cons_of_mem _ (ih h)

theorem WMap.wf_cons {d : Nat → W64} {k : Nat} {w : W64} {t : WMap} :
    WMap.wf d ((k, w) :: t) = true ↔ w ≠ d k ∧ (∀ e ∈ t, k < e.1) ∧ WMap.wf d t = true := by
  simp [WMap.wf, and_assoc]

theorem WMap.wf_ins {d : Nat → W64} {a : Nat} {v : W64} (h : v ≠ d a) :
    ∀ {m : WMap}, WMap.wf d m = true → WMap.wf d (WMap.ins a v m) = true
  | [], _ => by simp [WMap.ins, WMap.wf, h]
  | (k, w) :: t, hm => by
    obtain ⟨h1, h2, h3⟩ := WMap.wf_cons.1 hm
    simp only [WMap.ins]
    split
    · rename_i hk
      refine WMap.wf_cons.2 ⟨h, ?_, hm⟩
      intro e he
      rcases List.mem_cons.1 he with he | he
      · simpa [he] using hk
      · exact hk.trans (h2 e he)
    · split
      · rename_i hk
        subst hk
        exact WMap.wf_cons.2 ⟨h, h2, h3⟩
      · rename_i hk hne
        refine WMap.wf_cons.2 ⟨h1, ?_, WMap.wf_ins h h3⟩
        intro e he
        rcases WMap.mem_ins he with he | he
        · simp only [he]; omega
        · exact h2 e he

theorem WMap.wf_del {d : Nat → W64} {a : Nat} : ∀ {m : WMap}, WMap.wf d m = true → WMap.wf d (WMap.del a m) = true
  | [], _ => rfl
  | (k, w) :: t, hm => by
    obtain ⟨h1, h2, h3⟩ := WMap.wf_cons.1 hm
    simp only [WMap.del]
    split
    · exact WMap.wf_del h3
    · exact WMap.wf_cons.2 ⟨h1, fun e he => h2 e (WMap.mem_del he), WMap.wf_del h3⟩

/-- A write keeps the canonical form. -/
theorem WMap.wf_set {d : Nat → W64} {m : WMap} (hm : WMap.wf d m = true) (a : Nat) (v : W64) :
    WMap.wf d (WMap.set d m a v) = true := by
  simp only [WMap.set]
  split
  · exact WMap.wf_del hm
  · rename_i h
    exact WMap.wf_ins h hm

/-! ### Fields -/

theorem Fld.mask_getLsbD (f : Fld) (i : Nat) :
    f.mask.getLsbD i = (decide (i < 64) && decide (f.lo ≤ i) && decide (i < f.lo + f.w)) := by
  simp only [Fld.mask, BitVec.getLsbD_shiftLeft, BitVec.getLsbD_ofNat, Nat.testBit_two_pow_sub_one]
  by_cases h1 : i < 64
  · by_cases h2 : f.lo ≤ i
    · have e : (i - f.lo < f.w) = (i < f.lo + f.w) := by simp only [eq_iff_iff]; omega
      have l : i - f.lo < 64 := by omega
      simp [h1, h2, e, l]
    · have l : i < f.lo := by omega
      simp [h1, h2, l]
  · simp [h1]

/-- Bit i of a word with a field replaced. -/
theorem Fld.put_getLsbD (f : Fld) (w : W64) (v i : Nat) (h : i < 64) :
    (f.put w v).getLsbD i = if f.lo ≤ i ∧ i < f.lo + f.w then v.testBit (i - f.lo) else w.getLsbD i := by
  simp only [Fld.put, BitVec.getLsbD_or, BitVec.getLsbD_and, BitVec.getLsbD_not, Fld.mask_getLsbD,
    BitVec.getLsbD_shiftLeft, BitVec.getLsbD_ofNat, h]
  by_cases h2 : f.lo ≤ i
  · have l : i - f.lo < 64 := by omega
    by_cases h3 : i < f.lo + f.w <;> simp [h2, h3, l]
  · simp [h2]

theorem Fld.testBit_get (f : Fld) (w : W64) (i : Nat) :
    (f.get w).testBit i = (decide (i < f.w) && w.getLsbD (f.lo + i)) := by
  simp only [Fld.get, Nat.testBit_mod_two_pow, Nat.testBit_shiftRight, BitVec.getLsbD]

/-- A field just written reads as the value, modulo its width. -/
theorem Fld.get_put_same (f : Fld) (w : W64) (v : Nat) (h : f.lo + f.w ≤ 64) : f.get (f.put w v) = v % 2 ^ f.w := by
  apply Nat.eq_of_testBit_eq
  intro i
  rw [Fld.testBit_get, Nat.testBit_mod_two_pow]
  by_cases hi : i < f.w
  · rw [Fld.put_getLsbD _ _ _ _ (by omega)]
    simp [hi]
  · simp [hi]

/-- A field that the written one does not overlap keeps its value. -/
theorem Fld.get_put_ne (f g : Fld) (w : W64) (v : Nat) (h : g.lo + g.w ≤ f.lo ∨ f.lo + f.w ≤ g.lo) (hg : g.lo + g.w ≤ 64) :
    g.get (f.put w v) = g.get w := by
  apply Nat.eq_of_testBit_eq
  intro i
  rw [Fld.testBit_get, Fld.testBit_get]
  by_cases hi : i < g.w
  · rw [Fld.put_getLsbD _ _ _ _ (by omega), if_neg (by omega)]
  · simp [hi]

theorem Fld.get_lt (f : Fld) (w : W64) : f.get w < 2 ^ f.w := Nat.mod_lt _ (by positivity)

/-! ### The indexed parts of State -/

@[simp] theorem State.modAx_ax_same (s : State) (n : Ax) (f : Axis → Axis) : (s.modAx n f).ax n = f (s.ax n) := by
  simp [State.modAx, State.ax]
theorem State.modAx_ax_ne (s : State) {n m : Ax} (h : m ≠ n) (f : Axis → Axis) : (s.modAx n f).ax m = s.ax m := by
  have : (n : Nat) ≠ m := fun e => h (Fin.ext e.symm)
  simp [State.modAx, State.ax, this]

@[simp] theorem State.modPort_port_same (s : State) (p : Port) (f : PortSt → PortSt) : (s.modPort p f).port p = f (s.port p) := by
  simp [State.modPort, State.port]
theorem State.modPort_port_ne (s : State) {p q : Port} (h : q ≠ p) (f : PortSt → PortSt) : (s.modPort p f).port q = s.port q := by
  have : (p : Nat) ≠ q := fun e => h (Fin.ext e.symm)
  simp [State.modPort, State.port, this]

@[simp] theorem State.modEng_eng_same (s : State) (e : Eng) (f : Engine → Engine) : (s.modEng e f).eng e = f (s.eng e) := by
  simp [State.modEng, State.eng]
theorem State.modEng_eng_ne (s : State) {e d : Eng} (h : d ≠ e) (f : Engine → Engine) : (s.modEng e f).eng d = s.eng d := by
  have : (e : Nat) ≠ d := fun x => h (Fin.ext x.symm)
  simp [State.modEng, State.eng, this]

@[simp] theorem State.modBus_bus_same (s : State) (x : Bus) (f : BusSt → BusSt) : (s.modBus x f).bus x = f (s.bus x) := by
  simp [State.modBus, State.bus]
theorem State.modBus_bus_ne (s : State) {x y : Bus} (h : y ≠ x) (f : BusSt → BusSt) : (s.modBus x f).bus y = s.bus y := by
  have : (x : Nat) ≠ y := fun e => h (Fin.ext e.symm)
  simp [State.modBus, State.bus, this]

@[simp] theorem State.setDreg_dreg_same (s : State) (a : Nat) (v : W64) : (s.setDreg a v).dreg a = v := by
  simp [State.setDreg, State.dreg]
theorem State.setDreg_dreg_ne (s : State) {a b : Nat} (h : b ≠ a) (v : W64) : (s.setDreg a v).dreg b = s.dreg b := by
  simp [State.setDreg, State.dreg, WMap.get_set_ne _ _ h]

/-- A device field just written reads as the value, modulo its width. -/
theorem State.dput_dget_same (s : State) (f : Fld) (v : Nat) (h : f.lo + f.w ≤ 64) : (s.dput f v).dget f = v % 2 ^ f.w := by
  simp [State.dput, State.dget, Fld.get_put_same _ _ _ h]
/-- A field of another register keeps its value. -/
theorem State.dput_dget_reg (s : State) (f g : Fld) (v : Nat) (h : g.a ≠ f.a) : (s.dput f v).dget g = s.dget g := by
  simp [State.dput, State.dget, State.setDreg_dreg_ne _ h]
/-- Another field of the same register keeps its value. -/
theorem State.dput_dget_fld (s : State) (f g : Fld) (v : Nat) (ha : g.a = f.a)
    (h : g.lo + g.w ≤ f.lo ∨ f.lo + f.w ≤ g.lo) (hg : g.lo + g.w ≤ 64) : (s.dput f v).dget g = s.dget g := by
  simp [State.dput, State.dget, ha, Fld.get_put_ne f g _ _ h hg]

@[simp] theorem Axis.setReg_reg_same (a : Axis) (o : Nat) (v : W64) : (a.setReg o v).reg o = v := by
  simp [Axis.setReg, Axis.reg]
theorem Axis.setReg_reg_ne (a : Axis) {o q : Nat} (h : q ≠ o) (v : W64) : (a.setReg o v).reg q = a.reg q := by
  simp [Axis.setReg, Axis.reg, WMap.get_set_ne _ _ h]
theorem Axis.put_get_same (a : Axis) (f : Fld) (v : Nat) (h : f.lo + f.w ≤ 64) : (a.put f v).get f = v % 2 ^ f.w := by
  simp [Axis.put, Axis.get, Fld.get_put_same _ _ _ h]
theorem Axis.put_get_reg (a : Axis) (f g : Fld) (v : Nat) (h : g.a ≠ f.a) : (a.put f v).get g = a.get g := by
  simp [Axis.put, Axis.get, Axis.setReg_reg_ne _ h]
theorem Axis.put_get_fld (a : Axis) (f g : Fld) (v : Nat) (ha : g.a = f.a)
    (h : g.lo + g.w ≤ f.lo ∨ f.lo + f.w ≤ g.lo) (hg : g.lo + g.w ≤ 64) : (a.put f v).get g = a.get g := by
  simp [Axis.put, Axis.get, ha, Fld.get_put_ne f g _ _ h hg]

/-! ### What a saturating counter does -/

theorem State.dinc_dget (s : State) (f : Fld) (h : f.lo + f.w ≤ 64) :
    (s.dinc f).dget f = min (s.dget f + 1) (2 ^ f.w - 1) := by
  have h2 : 0 < 2 ^ f.w := by positivity
  have h3 := Fld.get_lt f (s.dreg f.a)
  simp only [State.dinc, State.dget, State.setDreg_dreg_same, satField, Fld.get_put_same _ _ _ h]
  exact Nat.mod_eq_of_lt (by omega)
theorem Axis.inc_get (a : Axis) (f : Fld) (h : f.lo + f.w ≤ 64) :
    (a.setReg f.a (satField f (a.reg f.a))).get f = min (a.get f + 1) (2 ^ f.w - 1) := by
  have h2 : 0 < 2 ^ f.w := by positivity
  have h3 := Fld.get_lt f (a.reg f.a)
  simp only [Axis.get, Axis.setReg_reg_same, satField, Fld.get_put_same _ _ _ h]
  exact Nat.mod_eq_of_lt (by omega)

end Sys2Proof.Machine
end

