-- ==== Sys2Proof/Laws/Shared.lean ====
section
/-! SUPPORT. What the shared operations over State can do: which fields each may change, and how the gates at the pins come about.
A proof cites these and does not unfold the operation. -/

namespace Sys2Proof.Machine

open Sys2Proof

variable (s : State)

/-! ### Ports -/

theorem State.irqPulse_only (p : Port) (b : Nat) : s.irqPulse p b = { s with ports := (s.irqPulse p b).ports } := by
  unfold State.irqPulse; split <;> rfl

theorem State.completeWith_only (p : Port) (tag : W16) (st : Byte) (axis : BitVec 4) (data : List W64) (wrote : Option W16) :
    s.completeWith p tag st axis data wrote = { s with ports := (s.completeWith p tag st axis data wrote).ports } := by
  unfold State.completeWith State.irqPulse; split <;> rfl

theorem State.complete_only (p : Port) (tag : W16) (st : Byte) (axis : BitVec 4) (data : List W64) :
    s.complete p tag st axis data = { s with ports := (s.complete p tag st axis data).ports } :=
  s.completeWith_only p tag st axis data none

theorem State.notifyPort_only (p : Port) (n : Ax) (code : W16) (v : W32) :
    s.notifyPort p n code v = { s with ports := (s.notifyPort p n code v).ports, dev := (s.notifyPort p n code v).dev } := by
  unfold State.notifyPort State.irqPulse; (repeat' split) <;> rfl

/-! ### Counters and the fault record -/

theorem State.presentLog_only (typ : Nat) (t : W64) (bs : List Byte) :
    s.presentLog typ t bs = { s with dev := (s.presentLog typ t bs).dev, store := (s.presentLog typ t bs).store } := by
  unfold State.presentLog; (repeat' split) <;> rfl

theorem State.count_only (code unit : Nat) :
    s.count code unit = { s with axes := (s.count code unit).axes, dev := (s.count code unit).dev, store := (s.count code unit).store } := by
  unfold State.count; dsimp only; (repeat' split) <;> rfl

theorem State.detect_only (code unit detail : Nat) :
    s.detect code unit detail = { s with dev := (s.detect code unit detail).dev, store := (s.detect code unit detail).store } := by
  unfold State.detect; exact (State.presentLog_only _ _ _ _).trans rfl

/-! ### Events and halts -/

theorem State.haltNow_only (n : Ax) :
    s.haltNow n = { s with engines := (s.haltNow n).engines, axes := (s.haltNow n).axes } := by
  unfold State.haltNow; split <;> rfl

theorem State.endWait_only (n : Ax) (c : Nat) :
    s.endWait n c = { s with engines := (s.endWait n c).engines, axes := (s.endWait n c).axes } := by
  unfold State.endWait State.haltNow; dsimp only; (repeat' split) <;> rfl

theorem State.raiseEv_only (n : Ax) (b : Nat) :
    s.raiseEv n b = { s with engines := (s.raiseEv n b).engines, axes := (s.raiseEv n b).axes } := by
  unfold State.raiseEv; dsimp only
  split
  · split
    · split
      · exact (State.endWait_only _ _ _).trans rfl
      · rfl
    · rfl
  · rfl

/-! ### The gate outputs -/

/-- A set of gates built by a fold over all gates holds a gate exactly when its condition holds. -/
theorem gateSet_getLsbD (c : Gate → Bool) (x : Gate) :
    (allGates.foldl (fun m y => if c y then m ||| ((1 : BitVec 6) <<< y.val) else m) (0 : BitVec 6)).getLsbD x.val = c x := by
  have h : ∀ b : BitVec 6,
      allGates.foldl (fun (m : BitVec 6) (y : Gate) => if b.getLsbD y.val then m ||| ((1 : BitVec 6) <<< y.val) else m) 0 = b := by
    decide
  have e : ∀ y : Gate, (BitVec.ofFnLE c).getLsbD y.val = c y := by intro y; simp [y.isLt]
  have := congrArg (fun v : BitVec 6 => v.getLsbD x.val) (h (BitVec.ofFnLE c))
  simpa only [e] using this

/-- Windbreak issues a turn-on only while the opposite gate is commanded off and has been confirmed below 1.5 V (R219). -/
theorem Axis.windbreak_iss (a : Axis) (t : Nat) (want : BitVec 6) (x : Gate) (h : (a.windbreak t want).gd.iss.getLsbD x.val = true) :
    (a.gd.iss.getLsbD x.val = true ∧ want.getLsbD x.val = true) ∨
    (want.getLsbD (gatePartner x).val = false ∧ a.gd.low.getLsbD (gatePartner x).val = true ∧
      a.gd.vgs.getLsbD (gatePartner x).val = false) := by
  unfold Axis.windbreak at h
  simp only [BitVec.getLsbD_or, Bool.or_eq_true] at h
  rcases h with h | h
  · left; simpa only [BitVec.getLsbD_and, Bool.and_eq_true] using h
  · right
    rw [gateSet_getLsbD] at h
    simp only [Bool.and_eq_true, Bool.not_eq_true'] at h
    exact ⟨h.1.1.2, h.1.2, h.2⟩

/-- The gates at the pins are issued turn-ons that stages 5 and 6 let through. -/
theorem State.settleAt_on (n : Ax) (t : Nat) (u : Bool) (g : Gate) (h : ((s.settleAt n t u).ax n).gd.on.getLsbD g.val = true) :
    ((s.ax n).windbreak t (s.wanted n)).gd.iss.getLsbD g.val = true := by
  unfold State.settleAt State.atPins at h
  simp only [State.modAx_ax_same, BitVec.getLsbD_and, Bool.and_eq_true] at h
  exact h.1

theorem State.settleAt_only (n : Ax) (t : Nat) (u : Bool) : s.settleAt n t u = { s with axes := (s.settleAt n t u).axes } := rfl

theorem State.settleAt_ax_ne {n m : Ax} (h : m ≠ n) (t : Nat) (u : Bool) : (s.settleAt n t u).ax m = s.ax m := by
  unfold State.settleAt State.atPins
  rw [State.modAx_ax_ne _ h, State.modAx_ax_ne _ h]

/-- Settling changes nothing of the axis but its gate-drive channels and its pulse island. -/
theorem State.settleAt_ax (n : Ax) (t : Nat) (u : Bool) :
    (s.settleAt n t u).ax n = { s.ax n with gd := ((s.settleAt n t u).ax n).gd, pt := ((s.settleAt n t u).ax n).pt } := by
  unfold State.settleAt State.atPins
  simp only [State.modAx_ax_same]
  rfl

theorem State.settleAll_only : s.settleAll = { s with axes := s.settleAll.axes } := by
  have h : ∀ (l : List Ax) (s : State), l.foldl (fun s n => s.settle n) s = { s with axes := (l.foldl (fun s n => s.settle n) s).axes } := by
    intro l
    induction l with
    | nil => intro s; rfl
    | cons n l ih => intro s; rw [List.foldl_cons, ih (s.settle n)]; rfl
  exact h allAx s

/-! ### Entering OASIS -/

theorem State.enterOasis_of_oasis {n : Ax} (h : (s.ax n).st = .oasis) (cause : Nat) : s.enterOasis n cause = s := by
  unfold State.enterOasis; rw [if_pos h]

end Sys2Proof.Machine
end

