-- ==== Sys2Proof/WellFormed.lean ====
section
/-! DEFINITION. Which commands the manual's formats allow: the bounds that the types of the operands do not carry. -/

namespace Sys2Proof

/-- The apertures of one interval are at most four (R143); its bus conversions are at least one (R154). -/
def Adc.wf (x : Adc) : Bool := decide (x.cur.length ≤ 4) && decide (1 ≤ x.bus.length)

/-- The registers of a WRITE, counted less one in the six bits of CNT (R336, R338). -/
def writeWf (vs : List W64) : Bool := decide (1 ≤ vs.length ∧ vs.length ≤ 64)

/-- The words of a LOAD_DATA or USER_DATA chunk (R345, R370). -/
def chunkWf (ws : List W64) : Bool := decide (1 ≤ ws.length ∧ ws.length ≤ 1023)

/-- The words of an MBWRITE: 1 to 16 less the first (R338). -/
def mbWf (first : BitVec 4) (vs : List W64) : Bool := decide (1 ≤ vs.length ∧ first.toNat + vs.length ≤ 16)

/-- A CAN frame: an 11-bit identifier unless extended, at most 8 bytes unless FD, at most 64, no remote FD frame (R343). -/
def canWf (ident : BitVec 29) (ext fd remote : Bool) (data : List Byte) : Bool :=
  (ext || decide (ident.toNat < 2 ^ 11)) && decide (data.length ≤ if fd then 64 else 8) && !(fd && remote)

/-- A torn fuse word stopped before the last of the words of its command, at most six (R382, R383). -/
def FuseEnd.wf : FuseEnd → Bool
  | .ok => true
  | .torn d _ _ => decide (d < 6)

/-- A command within its format. Where no bound is listed, the operand types bound every field. The meanings take ill-formed
commands too, as the rules answer them (BAD_FRAME, or a discarded packet). -/
def Instr.wf : Instr → Bool
  | .tickBoundary _ adc => adc.wf
  | .fuseReread cs => decide (cs.length ≤ 256)
  | .spiFrame _ bits => decide (0 < bits.length)
  | .write _ _ _ vs => writeWf vs
  | .mbwrite _ _ _ first _ vs => mbWf first vs
  | .loadData _ _ _ ws => chunkWf ws
  | .userData _ _ _ ws => chunkWf ws
  | .canFrame i x f r d => canWf i x f r d
  | .fuseCommandEnd r => r.wf
  | _ => true

end Sys2Proof
end

