-- ==== Sys2Proof/Tests/Slice0.lean ====
section
/-! SUPPORT. Small tests: what the well-formedness checks refuse, one step on a few states, and for every statement a concrete
state and operands that meet its hypotheses, clause by clause. -/

namespace Sys2Proof.Tests

set_option Elab.async false
set_option maxRecDepth 20000
set_option linter.unusedVariables false
set_option linter.unnecessarySeqFocus false

open Sys2Proof Sys2Proof.Machine

/-- A booted device: every port up in G3, port 0 service-permitted, with every function permission, level OWN on every axis, and
the owner of every axis; the islands of every axis run. -/
def up : State :=
  let s := allPorts.foldl (fun s p => (s.dput (HOST_PCFG_GEN p.val) 3).dput (HOST_PCFG_EN p.val) 1) State.reset
  let s := (((s.dput SYS_BOOT_STEP 7).dput (HOST_PCFG_SVC 0) 1).dput (HOST_PERM_FUNC 0) 63).dput (HOST_PERM_AXIS 0) 0xAAAA
  { allAx.foldl (fun s n => s.setIsl n islRun) (s.dput HOST_OWN_OWNER 0) with clk := 40000000 }

/-- up with one change of axis 0. -/
def ax (f : Axis → Axis) : State := up.modAx 0 f

/-- s with fields of the device registers set. -/
def dv (s : State) (l : List (Fld × Nat)) : State := l.foldl (fun s x => s.dput x.1 x.2) s

/-- s with fields of axis 0 set. -/
def af (s : State) (l : List (Fld × Nat)) : State := l.foldl (fun s x => s.aput 0 x.1 x.2) s

/-- up with axis 0 in a state. -/
def inSt (s : State) (st : AxSt) : State := s.modAx 0 (fun a => { a with st := st })

/-- up with engine 0 in a tick of axis 0, a program of WCET 64 loaded. -/
def tick : State := af (ax (fun a => { a with run := { a.run with running := true, cyc := 2 } })) [(AX_WCET_WCET, 64)]

/-- up with a program loaded on axis 0 and no tick running. -/
def loaded : State := af up [(AX_WCET_WCET, 64)]

/-- s with port p changed. -/
def pt (s : State) (p : Port) (f : PortSt → PortSt) : State := s.modPort p f

/-- An instruction word's fields. -/
def fw (mod dst imm : Nat) : Fields := { dst := BitVec.ofNat 6 dst, a := 0, b := 1, mod := BitVec.ofNat 6 mod, imm := BitVec.ofNat 32 imm }

/-- A completion record. -/
def comp (c : Nat) : Completion := { tag := 1, status := 0, axis := 15, data := [], time := 0, cseq := BitVec.ofNat 16 c, wrote := none, sent := true }

/-- A command in flight. -/
def cmd (tag : W16) (o : Op) (started : Bool) : Cmd := { tag := tag, axes := 0, op := o, rest := none, wrote := none, started := started, at_ := 0 }

/-- The words of a small Caravan for axis 0. -/
def mini : List W64 := [0xCA7A010100000000, 8, 0x0100000000010000, 0x0800000000000000, 0, 0, 0, 0]

/-- s with the gate drive of axis 0 changed. -/
def gdr (s : State) (f : Drive → Drive) : State := s.modAx 0 (fun a => { a with gd := f a.gd })

/-- s with the position logic of axis 0 changed. -/
def psn (s : State) (f : Pos → Pos) : State := s.modAx 0 (fun a => { a with pos := f a.pos })

/-- s with the pulse island of axis 0 changed. -/
def pls (s : State) (f : Pulse → Pulse) : State := s.modAx 0 (fun a => { a with pt := f a.pt })

/-- s with the one command c in flight on port p. -/
def serve (p : Port) (c : Cmd) (s : State) : State := s.modPort p (fun q => { q with cmds := [c] })

/-- A USER stream of 16 bytes of port 0 under tag 77, last served at t. -/
def strm (ws : List W64) (t : Nat) : Stream :=
  { port := 0, tag := 77, blob := 5, total := 16, next := 0, words := ws, last := t, waiting := false }

/-- A load of axis 0 by port 0 under tag 77, last served at t. -/
def lod (store : Bool) (ws : List W64) (t : Nat) : Load :=
  { port := 0, tag := 77, mask := 1, store := store, next := 0, words := ws, last := t, began := 3, waiting := false }

/-- A record. -/
def rec1 : Record := { typ := 1, flags := 0, seq := 9, time := 4, payload := [1, 2] }

/-- up with the Cistern in a state, with 1024 blocks. -/
def cisSt (st : Nat) : State := dv up [(CISTERN_STAT_STATE, st), (CISTERN_GEOM_BLKS0, 1024), (CISTERN_GEOM_LOGMB, 16),
  (CISTERN_GEOM_USERMB, 8), (CISTERN_STAT_RESV, 4), (CISTERN_ADM_HOLDER, 7)]

/-- s with the store changed. -/
def stor (s : State) (f : Store → Store) : State := { s with store := f s.store }

/-- s with the fuse words changed. -/
def fus (s : State) (f : Fuses → Fuses) : State := { s with fuses := f s.fuses }

/-- tick with the one entry x in the commit buffer. -/
def buf1 (x : Effect) : State := tick.modAx 0 (fun a => { a with run := { a.run with buf := [{ seq := 0, pc := 0, eff := x }] } })

/-- A sensor suspected broken since the start of time. -/
def sus : Sensor := { held := none, past := [], warn := false, rwarn := false, thr := false, rthr := false, since := some 0, hold := false }

/-- One aperture of three zero codes. -/
def adc0 : Adc := { cur := [(0, 0, 0)], term := (0, 0, 0), bus := [], ain := [] }

/-! ### Witnesses

For the statement Obligations.X, hypX names the hypotheses of its clauses in the order in which the statement gives them (clause is
the number of the clause, from 0, where it has several), and the theorems witness_X show, for each clause, operands and a state that
meet all of its hypotheses together. -/

/-- The hypotheses of the clauses of EngineDataFrame. -/
def hypEngineDataFrame (n : Ax) (e : Eng) (s : State) : Prop :=
  ∃ r ∈ ([(.vadd, 1, 1), (.vsub, 1, 1), (.vmul, 1, 1), (.cmul, 1, 1), (.clarke, 1, 1), (.iclarke, 1, 2), (.rot, 4, 1),
       (.cross, 1, 1), (.dot, 1, 1), (.mag, 4, 1), (.atan2, 4, 1), (.integ, 1, 1), (.hyst, 1, 1), (.sect, 1, 1), (.swt, 1, 1),
       (.lim, 1, 1), (.pi, 1, 1), (.filt, 1, 1), (.lut1, 1, 1), (.lut2, 1, 1), (.ld, 1, 1), (.ior, 1, 1), (.samp, 1, 4),
       (.pred, 1, 1)] : List ((Ax → Fields → Instr) × Nat × Nat)), s.ready n = some e
theorem witness_EngineDataFrame :
    hypEngineDataFrame 0 0 tick := by
  unfold hypEngineDataFrame; decide +kernel

/-- The hypotheses of the clauses of LaneArithmetic. -/
def hypLaneArithmetic (clause : Nat) (n : Ax) (e : Eng) (i : Fields) (s : State) : Prop :=
  match clause with
  | 0 => s.ready n = some e ∧ wmOf i ≠ 3 ∧ i.mod.getLsbD 2 = false
  | 1 => s.ready n = some e ∧ wmOf i ≠ 3 ∧ i.mod.getLsbD 2 = true
  | _ => False
theorem witness_LaneArithmetic :
    hypLaneArithmetic 0 0 0 (fw 0 3 0x40) tick ∧
    hypLaneArithmetic 1 0 0 (fw 5 31 0x40) tick := by
  refine ⟨?_, ?_⟩ <;> unfold hypLaneArithmetic <;> simp only [] <;> decide +kernel

/-- The hypotheses of the clauses of ComplexProducts. -/
def hypComplexProducts (n : Ax) (e : Eng) (i : Fields) (s : State) : Prop :=
  s.ready n = some e ∧ wmOf i ≠ 3
theorem witness_ComplexProducts :
    hypComplexProducts 0 0 (fw 0 3 0x40) tick := by
  unfold hypComplexProducts; decide +kernel

/-- The hypotheses of the clauses of ClarkeTransforms. -/
def hypClarkeTransforms (clause : Nat) (n : Ax) (e : Eng) (i : Fields) (s : State) : Prop :=
  match clause with
  | 0 => s.ready n = some e ∧ i.mod.getLsbD 2 = false
  | 1 => s.ready n = some e ∧ i.mod.getLsbD 2 = true
  | 2 => s.ready n = some e ∧ i.dst.toNat ≤ 30
  | 3 => s.ready n = some e ∧ 30 < i.dst.toNat
  | _ => False
theorem witness_ClarkeTransforms :
    hypClarkeTransforms 0 0 0 (fw 0 3 0x40) tick ∧
    hypClarkeTransforms 1 0 0 (fw 5 31 0x40) tick ∧
    hypClarkeTransforms 2 0 0 (fw 0 3 0x40) tick ∧
    hypClarkeTransforms 3 0 0 (fw 5 31 0x40) tick := by
  refine ⟨?_, ?_, ?_, ?_⟩ <;> unfold hypClarkeTransforms <;> simp only [] <;> decide +kernel

/-- The hypotheses of the clauses of RootRounding. -/
def hypRootRounding (b : Int) (d : Nat) : Prop :=
  0 < d ∧ b.natAbs < 2 ^ 100
theorem witness_RootRounding :
    hypRootRounding 0 1 := by
  unfold hypRootRounding; decide +kernel

/-- The hypotheses of the clauses of RotAndAngle. -/
def hypRotAndAngle (n : Ax) (e : Eng) (s : State) : Prop :=
  s.ready n = some e
theorem witness_RotAndAngle :
    hypRotAndAngle 0 0 tick := by
  unfold hypRotAndAngle; decide +kernel

/-- The hypotheses of the clauses of FiltersAndClamp. -/
def hypFiltersAndClamp (n : Ax) (e : Eng) (i : Fields) (s : State) : Prop :=
  let tgt := i.mod.toNat / 4 % 8
  s.ready n = some e ∧ wmOf i ≠ 3 ∧ tgt < 4
theorem witness_FiltersAndClamp :
    hypFiltersAndClamp 0 0 (fw 0 3 0x40) tick := by
  unfold hypFiltersAndClamp; decide +kernel

/-- The hypotheses of the clauses of ReservedModifiers. -/
def hypReservedModifiers (clause : Nat) (n : Ax) (e : Eng) (i : Fields) (s : State) : Prop :=
  match clause with
  | 0 => ∃ r ∈ ([(.vadd, .vk), (.vsub, .vk), (.vmul, .vk), (.cmul, .v 31), (.filt, .v 31), (.lim, .vk)] :
          List ((Ax → Fields → Instr) × Cls)), s.ready n = some e ∧ wmOf i = 3
  | 1 => s.ready n = some e ∧ 4 ≤ i.mod.toNat / 4 % 8
  | _ => False
theorem witness_ReservedModifiers :
    hypReservedModifiers 0 0 0 (fw 3 30 0x40) tick ∧
    hypReservedModifiers 1 0 0 (fw 16 3 0) tick := by
  refine ⟨?_, ?_⟩ <;> unfold hypReservedModifiers <;> simp only [] <;> decide +kernel

/-- The hypotheses of the clauses of HystComparators. -/
def hypHystComparators (clause : Nat) (n : Ax) (e : Eng) (i : Fields) (s : State) : Prop :=
  match clause with
  | 0 => s.ready n = some e ∧ i.mod.getLsbD 0 = false
  | 1 => s.ready n = some e ∧ i.mod.getLsbD 0 = true
  | _ => False
theorem witness_HystComparators :
    hypHystComparators 0 0 0 (fw 0 3 0x40) tick ∧
    hypHystComparators 1 0 0 (fw 5 31 0x40) tick := by
  refine ⟨?_, ?_⟩ <;> unfold hypHystComparators <;> simp only [] <;> decide +kernel

/-- The hypotheses of the clauses of SectorAndTable. -/
def hypSectorAndTable (n : Ax) (e : Eng) (s : State) : Prop :=
  s.ready n = some e
theorem witness_SectorAndTable :
    hypSectorAndTable 0 0 tick := by
  unfold hypSectorAndTable; decide +kernel

/-- The hypotheses of the clauses of PiController. -/
def hypPiController (n : Ax) (e : Eng) (s : State) : Prop :=
  s.ready n = some e
theorem witness_PiController :
    hypPiController 0 0 tick := by
  unfold hypPiController; decide +kernel

/-- The hypotheses of the clauses of TableLookup. -/
def hypTableLookup (clause : Nat) (n : Ax) (e : Eng) (i : Fields) (s : State) : Prop :=
  let c := (s.eng e).core
  let en := (s.ax n).env n
  let x := (readSrc c en .vks i.a).1.x.toInt
  let b := i.imm.toNat % 8192
  let h := (s.ax n).view b
  let h2 := (s.ax n).view (b + 1)
  let d := x - lut0 h
  match clause with
  | 0 => s.ready n = some e ∧ i.dst.toNat < 32 ∧ (lutN h = 0 ∨ 0x1FFF < b + 1 + lutN h)
  | 1 => s.ready n = some e ∧ i.dst.toNat < 32 ∧ lutN h ≠ 0 ∧ b + 1 + lutN h ≤ 0x1FFF ∧ d < 0
  | 2 => s.ready n = some e ∧ i.dst.toNat < 32 ∧ lutN h ≠ 0 ∧ b + 1 + lutN h ≤ 0x1FFF ∧ d > lutN h * 2 ^ lutS h
  | 3 => s.ready n = some e ∧ i.dst.toNat < 32 ∧ lutN h ≠ 0 ∧ b + 1 + lutN h ≤ 0x1FFF ∧ 0 ≤ d ∧ d ≤ lutN h * 2 ^ lutS h
  | 4 => s.ready n = some e ∧ i.dst.toNat < 32 ∧ (lutN h = 0 ∨ 0x1FFF < b + 1 ∨ lutN h2 = 0 ∨ 0x1FFF < b + 2 + lutN h2 * (lutN h + 1) + lutN h)
  | 5 => s.ready n = some e ∧ i.dst.toNat < 32 ∧ lutN h ≠ 0 ∧ lutN h2 ≠ 0 ∧ b + 2 + lutN h2 * (lutN h + 1) + lutN h ≤ 0x1FFF
  | _ => False
theorem witness_TableLookup :
    hypTableLookup 0 0 0 (fw 0 3 0x100) (tick.modAx 0 (fun a => { a with d := [(0x100, 0x0), (0x101, 0x0)] })) ∧
    hypTableLookup 1 0 0 (fw 0 3 0x100) (tick.modAx 0 (fun a => { a with d := [(0x100, 0x100000000001), (0x101, 0x100000000001)] })) ∧
    hypTableLookup 2 0 0 (fw 0 3 0x100) (tick.modAx 0 (fun a => { a with d := [(0x100, 0x1000fffffffe), (0x101, 0x100000000000)] })) ∧
    hypTableLookup 3 0 0 (fw 0 3 0x100) (tick.modAx 0 (fun a => { a with d := [(0x100, 0x3ff00100000000), (0x101, 0x100100000000)] })) ∧
    hypTableLookup 4 0 0 (fw 0 3 0x100) (tick.modAx 0 (fun a => { a with d := [(0x100, 0x0), (0x101, 0x0)] })) ∧
    hypTableLookup 5 0 0 (fw 0 3 0x100) (tick.modAx 0 (fun a => { a with d := [(0x100, 0x3ff00100000000), (0x101, 0x100100000000)] })) := by
  refine ⟨?_, ?_, ?_, ?_, ?_, ?_⟩ <;> unfold hypTableLookup <;> simp only [] <;> decide +kernel

/-- The hypotheses of the clauses of EngineReads. -/
def hypEngineReads (clause : Nat) (n : Ax) (e : Eng) (i : Fields) (s : State) : Prop :=
  match clause with
  | 0 => s.ready n = some e ∧ i.mod.getLsbD 1 = false
  | 1 => s.ready n = some e ∧ i.dst.toNat ≤ 28
  | 2 => s.ready n = some e ∧ 28 < i.dst.toNat
  | _ => False
theorem witness_EngineReads :
    hypEngineReads 0 0 0 (fw 0 3 0x40) tick ∧
    hypEngineReads 1 0 0 (fw 0 3 0x40) tick ∧
    hypEngineReads 2 0 0 (fw 0 29 0x40) tick := by
  refine ⟨?_, ?_, ?_⟩ <;> unfold hypEngineReads <;> simp only [] <;> decide +kernel

/-- The hypotheses of the clauses of CommitEntries. -/
def hypCommitEntries (clause : Nat) (n : Ax) (e : Eng) (i : Fields) (s : State) : Prop :=
  match clause with
  | 0 => s.ready n = some e ∧ i.mod.getLsbD 1 = true
  | 1 => s.ready n = some e ∧ i.mod.setWidth 2 = (3 : BitVec 2)
  | 2 => s.ready n = some e ∧ i.mod.setWidth 2 ≠ (3 : BitVec 2)
  | _ => False
theorem witness_CommitEntries :
    hypCommitEntries 0 0 0 (fw 2 28 0x40) tick ∧
    hypCommitEntries 1 0 0 (fw 3 30 0x40) tick ∧
    hypCommitEntries 2 0 0 (fw 2 28 0x40) tick := by
  refine ⟨?_, ?_, ?_⟩ <;> unfold hypCommitEntries <;> simp only [] <;> decide +kernel

/-- The hypotheses of the clauses of CallAndReturn. -/
def hypCallAndReturn (n : Ax) (e : Eng) (s : State) : Prop :=
  s.ready n = some e
theorem witness_CallAndReturn :
    hypCallAndReturn 0 0 tick := by
  unfold hypCallAndReturn; decide +kernel

/-- The hypotheses of the clauses of Branching. -/
def hypBranching (clause : Nat) (n : Ax) (e : Eng) (i : Fields) (s : State) : Prop :=
  let c := (s.eng e).core
  let r := (s.ax n).run
  let k : Nat := i.imm.toNat % 1024
  let mask : Byte := (i.imm >>> 16).setWidth 8
  match clause with
  | 0 => s.ready n = some e ∧ 1 ≤ k
  | 1 => s.ready n = some e ∧ fEvents c.f &&& mask ≠ 0
  | 2 => s.ready n = some e ∧ fEvents c.f &&& mask = 0
  | 3 => ∃ w ∈ r.wait, r.running = true ∧ (s.ax n).engine = some e ∧ w.2.2 + w.2.1 ≤ s.clk
  | 4 => ∃ w ∈ r.wait, r.running = true ∧ (s.ax n).engine = some e ∧ s.clk < w.2.2 + w.2.1
  | _ => False
theorem witness_Branching :
    hypBranching 0 0 0 (fw 0 3 0x40) tick ∧
    hypBranching 1 0 0 (fw 0 3 0x10040) (tick.modEng 0 (fun g => { g with core := { g.core with f := 0xFFFFFFFF } })) ∧
    hypBranching 2 0 0 (fw 0 3 0x40) tick ∧
    hypBranching 3 0 0 (fw 0 3 0x40) (tick.modAx 0 (fun a => { a with run := { a.run with wait := some (1, 0, 40000000) } })) ∧
    hypBranching 4 0 0 (fw 0 3 0x40) (tick.modAx 0 (fun a => { a with run := { a.run with wait := some (1, 4095, 40000000) } })) := by
  refine ⟨?_, ?_, ?_, ?_, ?_⟩ <;> unfold hypBranching <;> simp only [] <;> decide +kernel

/-- The hypotheses of the clauses of TickEnd. -/
def hypTickEnd (clause : Nat) (n : Ax) (e : Eng) (k : Nat) (pc : BitVec 13) (ad : W16) (o : Fin 512) (m : Ax) (h : Option Bool) (v : W64) (b : W64) (x : W32) (y : W32) (z : W32) (mode : BitVec 2) (vec : BitVec 3) (neg : Bool) (pr : Option W64) (s : State) : Prop :=
  let a := s.ax n
  let r := a.run
  let one := fun (x : Effect) => r.buf = [{ seq := k, pc := pc, eff := x }]
  match clause with
  | 0 => ∃ w ∈ engineRead a ad.toNat, s.ready n = some e ∧ one (.st ad h v) ∧ storeKept ad.toNat = true
  | 1 => ∃ p : Port, s.ready n = some e ∧ one (.sig ad x) ∧ s.owner n = p.val ∧ (s.port p).notes.length < 32
  | 2 => s.ready n = some e ∧ one (.trc ad v b) ∧ (s.dget CISTERN_TRCFG_EN).testBit n.val = true ∧ ad.getLsbD 11 = true ∧ s.cis ≠ cisNone ∧ s.store.stage.length < 32768 ∧ s.load = none
  | 3 => s.ready n = some e ∧ one (.shr o.val h v) ∧ o.val / 64 = n.val ∧ o.val % 64 ≠ 0
  | 4 => s.ready n = some e ∧ one (.shr o.val h v) ∧ ((o.val / 64 ≠ n.val ∨ o.val % 64 = 0))
  | 5 => s.ready n = some e ∧ one (.iow ad v) ∧ place (unalias n ad.toNat) = .axis n o.val ∧ s.islOk n o.val = true ∧ o.val ∉ [AX_WCET, AX_MBCTL, AX_TLSTAT, AX_SPD, AX_PTSTAT]
  | 6 => s.ready n = some e ∧ one (.iow ad v) ∧ place (unalias n ad.toNat) = .axis m o.val ∧ m ≠ n
  | 7 => s.ready n = some e ∧ one (.apply mode vec neg x y z pr)
  | _ => False
theorem witness_TickEnd_1 :
    hypTickEnd 0 0 0 0 0 0x100 0 0 none 5 0 0 0 0 0 0 true none (buf1 (.st 0x100 none 5)) ∧
    hypTickEnd 1 0 0 0 0 7 0 0 none 0 0 9 0 0 0 0 true none (buf1 (.sig 7 9)) ∧
    hypTickEnd 2 0 0 0 0 0x801 0 0 none 5 6 0 0 0 0 0 true none
      (dv (buf1 (.trc 0x801 5 6)) [(CISTERN_TRCFG_EN, 1), (CISTERN_STAT_STATE, 2)]) ∧
    hypTickEnd 3 0 0 0 0 1 1 0 none 5 0 0 0 0 0 0 true none (buf1 (.shr 1 none 5)) ∧
    hypTickEnd 4 0 0 0 0 1 64 0 none 5 0 0 0 0 0 0 true none (buf1 (.shr 64 none 5)) ∧
    hypTickEnd 5 0 0 0 0 0x10A1 0xA1 0 none 5 0 0 0 0 0 0 true none (buf1 (.iow 0x10A1 5)) := by
  refine ⟨?_, ?_, ?_, ?_, ?_, ?_⟩ <;> unfold hypTickEnd <;> simp only [] <;> decide +kernel
theorem witness_TickEnd_2 :
    hypTickEnd 6 0 0 0 0 0x12A1 0xA1 1 none 5 0 0 0 0 0 0 true none (buf1 (.iow 0x12A1 5)) ∧
    hypTickEnd 7 0 0 0 0 1 0 0 none 0 0 3 4 5 1 2 true none (buf1 (.apply 1 2 true 3 4 5 none)) := by
  refine ⟨?_, ?_⟩ <;> unfold hypTickEnd <;> simp only [] <;> decide +kernel

/-- The hypotheses of the clauses of TickStarts. -/
def hypTickStarts (clause : Nat) (n : Ax) (e : Eng) (s : State) : Prop :=
  let a := s.ax n
  match clause with
  | 0 => s.onBoundary n 0 = true ∧ s.ptIsl n = islRun ∧ s.alive = true ∧ a.halted = true
  | 1 => s.onBoundary n 0 = true ∧ s.ptIsl n = islRun ∧ s.alive = true ∧ a.halted = false ∧ a.get AX_PTSTAT_FROZEN = 1
  | 2 => s.onBoundary n 0 = true ∧ s.ptIsl n = islRun ∧ s.alive = true ∧ a.halted = false ∧ a.get AX_PTSTAT_FROZEN = 0 ∧ NoCommands s ∧ a.get AX_STATEREQ_REQ = 0 ∧ a.uv2Req = false ∧ a.stallReq = false ∧ a.escExit = false ∧ s.ticks n = true ∧ a.engine = some e ∧ a.run.running = false ∧ s.recovering n = false
  | _ => False
theorem witness_TickStarts :
    hypTickStarts 0 0 0 (up.modAx 0 (fun a => { a with halted := true })) ∧
    hypTickStarts 1 0 0 (af up [(AX_PTSTAT_FROZEN, 1)]) ∧
    hypTickStarts 2 0 0 loaded := by
  refine ⟨?_, ?_, ?_⟩ <;> unfold hypTickStarts <;> simp only [] <;> decide +kernel

/-- The hypotheses of the clauses of ArmingAndLeaving. -/
def hypArmingAndLeaving (clause : Nat) (n : Ax) (u : BitVec 14) (v : BitVec 14) (w : BitVec 14) (s : State) : Prop :=
  let a := s.ax n
  let good := fun (x : BitVec 14) => decide (-256 ≤ x.toInt ∧ x.toInt ≤ 256)
  match clause with
  | 0 => a.st = .arming ∧ a.gd.arm.step = 4
  | 1 => (a.st ≠ .arming ∨ a.gd.arm.step ≠ 4)
  | 2 => good u && good v && good w
  | 3 => (good u && good v && good w) = false ∧ a.st ≠ .oasis
  | 4 => a.st = .arming ∧ a.gd.arm.step = 1 ∧ a.gd.arm.at_ + 2 * msTicks < s.clk
  | 5 => a.st = .disarm ∧ a.since + 10 * usTicks ≤ s.clk ∧ a.gd.fallAt + 10 * usTicks ≤ s.clk ∧ a.gd.vgs = 0 ∧ a.held = false
  | 6 => a.st = .disarm ∧ a.since + 10 * usTicks ≤ s.clk ∧ a.gd.fallAt + 10 * usTicks ≤ s.clk ∧ a.gd.vgs = 0 ∧ a.held = true ∧ s.enableRefusal n = none
  | 7 => a.st = .decel ∧ a.since + a.get AX_SMCFG_STOPTMO * msTicks ≤ s.clk
  | 8 => a.st = .catching ∧ a.since + a.get AX_CATCH_TMO * msTicks < s.clk
  | _ => False
theorem witness_ArmingAndLeaving_1 :
    hypArmingAndLeaving 0 0 0xFF00 256 0 (inSt (gdr up (fun d => { d with arm := { d.arm with step := 4 } })) .arming) ∧
    hypArmingAndLeaving 1 0 0xFF00 256 0 (inSt up .arming) ∧
    hypArmingAndLeaving 2 0 0xFF00 256 0 (inSt up .arming) ∧
    hypArmingAndLeaving 3 0 257 256 0 (inSt up .arming) ∧
    hypArmingAndLeaving 4 0 0xFF00 256 0 (inSt (gdr up (fun d => { d with arm := { d.arm with step := 1, at_ := 0 } })) .arming) ∧
    hypArmingAndLeaving 5 0 0xFF00 256 0 (inSt up .disarm) := by
  refine ⟨?_, ?_, ?_, ?_, ?_, ?_⟩ <;> unfold hypArmingAndLeaving <;> simp only [] <;> decide +kernel
theorem witness_ArmingAndLeaving_2 :
    hypArmingAndLeaving 6 0 0xFF00 256 0
      ((inSt (af loaded [(AX_OASIS_OPT,
      0)]) .disarm).modAx 0 (fun a => { a with held := true, gd := { a.gd with vgs := 0, fallAt := 0 } })) ∧
    hypArmingAndLeaving 7 0 0xFF00 256 0 (inSt (af up [(AX_SMCFG_STOPTMO, 0)]) .decel) ∧
    hypArmingAndLeaving 8 0 0xFF00 256 0 (inSt (af up [(AX_CATCH_TMO, 0)]) .catching) := by
  refine ⟨?_, ?_, ?_⟩ <;> unfold hypArmingAndLeaving <;> simp only [] <;> decide +kernel

/-- The hypotheses of the clauses of StateRequests. -/
def hypStateRequests (clause : Nat) (n : Ax) (s : State) : Prop :=
  let a := s.ax n
  let q := a.get AX_STATEREQ_REQ
  let lost := (s.recentLosses n).length + 1
  match clause with
  | 0 => s.onBoundary n 0 = true ∧ s.ticks n = true ∧ NoCommands s ∧ a.uv2Req = false ∧ a.stallReq = false ∧ a.escExit = false ∧ q = 1 ∧ ((a.st = .starting ∨ a.st = .catching))
  | 1 => s.onBoundary n 0 = true ∧ s.ticks n = true ∧ NoCommands s ∧ a.uv2Req = false ∧ a.stallReq = false ∧ a.escExit = false ∧ q = 2 ∧ a.st = .catching
  | 2 => s.onBoundary n 0 = true ∧ s.ticks n = true ∧ NoCommands s ∧ a.uv2Req = false ∧ a.stallReq = false ∧ a.escExit = false ∧ q = 3 ∧ ((a.st = .starting ∨ a.st = .running)) ∧ min 7 lost < a.get AX_CATCH_LOSSMAX
  | 3 => s.onBoundary n 0 = true ∧ s.ticks n = true ∧ NoCommands s ∧ a.uv2Req = false ∧ a.stallReq = false ∧ a.escExit = false ∧ q = 3 ∧ ((a.st = .starting ∨ a.st = .running)) ∧ a.get AX_CATCH_LOSSMAX ≤ min 7 lost
  | 4 => s.onBoundary n 0 = true ∧ s.ticks n = true ∧ NoCommands s ∧ a.uv2Req = false ∧ a.stallReq = false ∧ a.escExit = false ∧ q = 4 ∧ ((a.st = .starting ∨ a.st = .running ∨ a.st = .catching))
  | 5 => s.onBoundary n 0 = true ∧ s.ticks n = true ∧ NoCommands s ∧ a.uv2Req = false ∧ a.stallReq = false ∧ a.escExit = false ∧ q = 5 ∧ a.st = .decel
  | 6 => s.onBoundary n 0 = true ∧ s.ticks n = true ∧ NoCommands s ∧ a.uv2Req = false ∧ a.stallReq = false ∧ a.escExit = false ∧ q = 6 ∧ a.st ≠ .oasis
  | 7 => s.onBoundary n 0 = true ∧ s.ticks n = true ∧ NoCommands s ∧ a.uv2Req = false ∧ a.stallReq = false ∧ a.escExit = false ∧ ((q = 7 ∨ (1 ≤ q ∧ q ≤ 5 ∧ (a.st = .off ∨ a.st = .arming ∨ a.st = .disarm ∨ a.st = .oasis))))
  | _ => False
theorem witness_StateRequests_1 :
    hypStateRequests 0 0 (inSt (af loaded [(AX_STATEREQ_REQ, 1)]) .starting) ∧
    hypStateRequests 1 0 (inSt (af loaded [(AX_STATEREQ_REQ, 2)]) .catching) ∧
    hypStateRequests 2 0 (inSt (af loaded [(AX_STATEREQ_REQ, 3), (AX_CATCH_LOSSMAX, 2)]) .starting) ∧
    hypStateRequests 3 0 (inSt (af loaded [(AX_STATEREQ_REQ, 3), (AX_CATCH_LOSSMAX, 0)]) .running) ∧
    hypStateRequests 4 0 (inSt (af loaded [(AX_STATEREQ_REQ, 4)]) .running) ∧
    hypStateRequests 5 0 (inSt (af loaded [(AX_STATEREQ_REQ, 5)]) .decel) := by
  refine ⟨?_, ?_, ?_, ?_, ?_, ?_⟩ <;> unfold hypStateRequests <;> simp only [] <;> decide +kernel
theorem witness_StateRequests_2 :
    hypStateRequests 6 0 (inSt (af loaded [(AX_STATEREQ_REQ, 6)]) .decel) ∧
    hypStateRequests 7 0 (inSt (af loaded [(AX_STATEREQ_REQ, 7)]) .running) := by
  refine ⟨?_, ?_⟩ <;> unfold hypStateRequests <;> simp only [] <;> decide +kernel

/-- The hypotheses of the clauses of StallActions. -/
def hypStallActions (n : Ax) (s : State) : Prop :=
  let a := s.ax n
  a.st = .running ∧ a.get AX_STALL_TICKS ≠ 0 ∧ a.get AX_STALL_TICKS ≤ a.get AX_SPD_STCNT
theorem witness_StallActions :
    hypStallActions 0 (inSt (af up [(AX_STALL_TICKS, 1), (AX_SPD_STCNT, 1)]) .running) := by
  unfold hypStallActions; decide +kernel

/-- The hypotheses of the clauses of HallEvents. -/
def hypHallEvents (clause : Nat) (n : Ax) (c : BitVec 3) (q : Fin 6) (o : Fin 6) (s : State) : Prop :=
  let a := s.ax n
  let mode := a.get AX_PCFG_MODE
  let since := match a.pos.pend with | some x => if x.1 = c then x.2 else s.clk | none => s.clk
  let stable := since + 40 * a.get AX_PCFG_HFILT ≤ s.clk
  match clause with
  | 0 => (mode = 0 ∨ ¬stable)
  | 1 => mode ≠ 0 ∧ stable ∧ a.hallSector c = some q ∧ a.pos.sector = none
  | 2 => mode ≠ 0 ∧ stable ∧ a.hallSector c = some q ∧ a.pos.sector = some o ∧ q = o + 1
  | 3 => mode ≠ 0 ∧ stable ∧ a.hallSector c = some q ∧ a.pos.sector = some o ∧ o = q + 1
  | 4 => mode ≠ 0 ∧ stable ∧ a.hallSector c = some q ∧ a.pos.sector = some o ∧ q = o
  | 5 => mode ≠ 0 ∧ stable ∧ a.hallSector c = some q ∧ a.pos.sector = some o ∧ q ≠ o ∧ q ≠ o + 1 ∧ o ≠ q + 1
  | 6 => mode ≠ 0 ∧ stable ∧ a.hallSector c = none ∧ (¬(mode = 2 ∧ c = 0))
  | 7 => mode = 2 ∧ stable ∧ c = 0
  | 8 => a.pos.hinv = true ∧ a.pos.hinvHit = false ∧ a.get AX_PCFG_INVTMO ≠ 0 ∧ mode ≠ 0 ∧ a.pos.hinvAt + a.get AX_PCFG_INVTMO * msTicks < s.clk
  | 9 => a.pos.stopped = false ∧ a.pos.method = false ∧ a.pos.edgeAt + a.get AX_SPDCFG_PTMO * msTicks ≤ s.clk
  | 10 => s.ticks n = false ∧ s.recovering n = false ∧ a.pos.refAt + 10 * usTicks ≤ s.clk
  | 11 => (s.ticks n = true ∨ s.recovering n = true ∨ s.clk < a.pos.refAt + 10 * usTicks)
  | _ => False
theorem witness_HallEvents_1 :
    hypHallEvents 0 0 1 0 0 ((af up [(AX_PCFG_MODE, 1), (AX_PCFG_INVTMO,
      1)]).modAx 0 (fun a => { a with pos := { a.pos with hinv := true, stopped := false } })) ∧
    hypHallEvents 1 0 1 0 0 (psn (af up [(AX_PCFG_MODE, 1), (AX_PCFG_HFILT, 0)]) (fun x => { x with sector := none })) ∧
    hypHallEvents 2 0 3 1 0 (psn (af up [(AX_PCFG_MODE, 1), (AX_PCFG_HFILT, 0)]) (fun x => { x with sector := some 0 })) ∧
    hypHallEvents 3 0 1 0 1 (psn (af up [(AX_PCFG_MODE, 1), (AX_PCFG_HFILT, 0)]) (fun x => { x with sector := some 1 })) ∧
    hypHallEvents 4 0 1 0 0 (psn (af up [(AX_PCFG_MODE, 1), (AX_PCFG_HFILT, 0)]) (fun x => { x with sector := some 0 })) ∧
    hypHallEvents 5 0 3 1 5 (psn (af up [(AX_PCFG_MODE, 1), (AX_PCFG_HFILT, 0)]) (fun x => { x with sector := some 5 })) := by
  refine ⟨?_, ?_, ?_, ?_, ?_, ?_⟩ <;> unfold hypHallEvents <;> simp only [] <;> decide +kernel
theorem witness_HallEvents_2 :
    hypHallEvents 6 0 0 0 0 (psn (af up [(AX_PCFG_MODE, 1), (AX_PCFG_HFILT, 0)]) (fun x => { x with sector := none })) ∧
    hypHallEvents 7 0 0 0 0 (psn (af up [(AX_PCFG_MODE, 2), (AX_PCFG_HFILT, 0)]) (fun x => { x with sector := some 0 })) ∧
    hypHallEvents 8 0 1 0 0 ((af up [(AX_PCFG_MODE, 1), (AX_PCFG_INVTMO,
      1)]).modAx 0 (fun a => { a with pos := { a.pos with hinv := true, stopped := false } })) ∧
    hypHallEvents 9 0 1 0 0 ((af up [(AX_PCFG_MODE, 1), (AX_PCFG_INVTMO,
      1)]).modAx 0 (fun a => { a with pos := { a.pos with hinv := true, stopped := false } })) ∧
    hypHallEvents 10 0 1 0 0 ((af up [(AX_PCFG_MODE, 1), (AX_PCFG_INVTMO,
      1)]).modAx 0 (fun a => { a with pos := { a.pos with hinv := true, stopped := false } })) ∧
    hypHallEvents 11 0 1 0 0 (psn (af up [(AX_PCFG_MODE, 1), (AX_PCFG_HFILT, 0)]) (fun x => { x with refAt := up.clk })) := by
  refine ⟨?_, ?_, ?_, ?_, ?_, ?_⟩ <;> unfold hypHallEvents <;> simp only [] <;> decide +kernel

/-- The hypotheses of the clauses of EncoderEvents. -/
def hypEncoderEvents (clause : Nat) (k : Chan) (n : Ax) (ab : BitVec 2) (word : BitVec 40) (crc : Byte) (t0 : Nat) (s : State) : Prop :=
  let q := s.enc[k]
  let mode := s.dget (ENC_CFG_MODE k.val)
  let since := match q.pend with | some x => if x.1 = ab then x.2 else s.clk | none => s.clk
  let passed := mode = 1 ∧ since + s.dget (ENC_CFG_FILT k.val) ≤ s.clk
  let d := (quadIndex ab + 4 - quadIndex q.ab) % 4
  let len := s.dget (ENC_SSI_WLEN k.val)
  let v := word.toNat % 2 ^ len
  let cw := s.dget (ENC_CRC_CRCW k.val)
  let crcv := ssiCrc cw (s.dget (ENC_CRC_POLY k.val)) (bitsMsb v len) (s.dget (ENC_CRC_INIT k.val) % 2 ^ cw)
  let crcv := if s.dget (ENC_CRC_INV k.val) = 1 then 2 ^ cw - 1 - crcv else crcv
  let bad := cw ≠ 0 ∧ crcv ≠ crc.toNat % 2 ^ cw
  let flag := s.dget (ENC_SSI_ERREN k.val) = 1 ∧ v.testBit (s.dget (ENC_SSI_ERRPOS k.val)) = decide (s.dget (ENC_SSI_ERRPOL k.val) = 1)
  let tmo := s.dget (ENC_SSI_TMO k.val) * usTicks
  let due := s.dget (ENC_SSI_TRIG k.val) = 1 ∧ s.encAxis k = some n ∧ s.onBoundary n (s.dget (ENC_CRC_TOFF k.val)) = true ∧ mode = 2
  match clause with
  | 0 => ¬passed
  | 1 => passed ∧ (q.seen = false ∨ d = 0)
  | 2 => passed ∧ q.seen = true ∧ (d = 1 ∨ d = 3)
  | 3 => passed ∧ q.seen = true ∧ d = 2
  | 4 => mode = 1 ∧ q.ab = 3
  | 5 => (mode ≠ 1 ∨ q.ab ≠ 3)
  | 6 => due ∧ q.reqAt = none ∧ q.hold = false
  | 7 => due ∧ q.reqAt ≠ none
  | 8 => ((due ∧ q.reqAt = none ∧ q.hold = true) ∨ s.dget (ENC_SSI_TRIG k.val) ≠ 1 ∨ s.encAxis k = none ∨ mode ≠ 2 ∨ (s.encAxis k = some n ∧ s.onBoundary n (s.dget (ENC_CRC_TOFF k.val)) = false))
  | 9 => q.reqAt = some t0 ∧ t0 + tmo < s.clk
  | 10 => q.reqAt = some t0 ∧ (t0 + tmo < s.clk ∨ s.clk < t0 + s.ssiLeast k)
  | 11 => q.reqAt = some t0 ∧ s.clk ≤ t0 + tmo ∧ t0 + s.ssiLeast k ≤ s.clk ∧ (bad ∨ flag)
  | 12 => q.reqAt = some t0 ∧ s.clk ≤ t0 + tmo ∧ t0 + s.ssiLeast k ≤ s.clk ∧ ¬bad ∧ ¬flag
  | _ => False
theorem witness_EncoderEvents_1 :
    hypEncoderEvents 0 0 0 0 0 0 0 { (dv up [(ENC_CFG_MODE 0, 1)]) with enc := up.enc.set 0 { up.enc[0] with ab := 3, seen := true } } ∧
    hypEncoderEvents 1 0 0 0 0 0 0
      { (dv up [(ENC_CFG_MODE 0, 1), (ENC_CFG_FILT 0, 0)]) with enc := up.enc.set 0 { up.enc[0] with seen := true, ab := 0 } } ∧
    hypEncoderEvents 2 0 0 1 0 0 0
      { (dv up [(ENC_CFG_MODE 0, 1), (ENC_CFG_FILT 0, 0)]) with enc := up.enc.set 0 { up.enc[0] with seen := true, ab := 0 } } ∧
    hypEncoderEvents 3 0 0 3 0 0 0
      { (dv up [(ENC_CFG_MODE 0, 1), (ENC_CFG_FILT 0, 0)]) with enc := up.enc.set 0 { up.enc[0] with seen := true, ab := 0 } } ∧
    hypEncoderEvents 4 0 0 0 0 0 0 { (dv up [(ENC_CFG_MODE 0, 1)]) with enc := up.enc.set 0 { up.enc[0] with ab := 3, seen := true } } ∧
    hypEncoderEvents 5 0 0 0 0 0 0
      { (dv (af up [(AX_PCFG_MODE, 2)]) [(ENC_CFG_MODE 0, 2), (ENC_CFG_AXEN 0, 1), (ENC_CFG_AXIS 0, 0), (ENC_SSI_TRIG 0, 1), (ENC_CRC_TOFF 0, 0), (ENC_SSI_TMO 0, 99)]) with enc := up.enc.set 0 { up.enc[0] with ab := 0, seen := true, reqAt := some 0, illegal := false, good := false } } := by
  refine ⟨?_, ?_, ?_, ?_, ?_, ?_⟩ <;> unfold hypEncoderEvents <;> simp only [] <;> decide +kernel
theorem witness_EncoderEvents_2 :
    hypEncoderEvents 6 0 0 0 0 0 0
      (dv (af up [(AX_PCFG_MODE, 2)]) [(ENC_CFG_MODE 0, 2), (ENC_CFG_AXEN 0, 1), (ENC_CFG_AXIS 0, 0), (ENC_SSI_TRIG 0, 1),
      (ENC_CRC_TOFF 0, 0)]) ∧
    hypEncoderEvents 7 0 0 0 0 0 0
      { (dv (af up [(AX_PCFG_MODE, 2)]) [(ENC_CFG_MODE 0, 2), (ENC_CFG_AXEN 0, 1), (ENC_CFG_AXIS 0, 0), (ENC_SSI_TRIG 0, 1), (ENC_CRC_TOFF 0, 0), (ENC_SSI_TMO 0, 99)]) with enc := up.enc.set 0 { up.enc[0] with ab := 0, seen := true, reqAt := some 0, illegal := false, good := false } } ∧
    hypEncoderEvents 8 0 0 0 0 0 0 { (dv up [(ENC_CFG_MODE 0, 1)]) with enc := up.enc.set 0 { up.enc[0] with ab := 3, seen := true } } ∧
    hypEncoderEvents 9 0 0 0 0 0 0
      { (dv (af up [(AX_PCFG_MODE, 2)]) [(ENC_CFG_MODE 0, 2), (ENC_CFG_AXEN 0, 1), (ENC_CFG_AXIS 0, 0), (ENC_SSI_TRIG 0, 1), (ENC_CRC_TOFF 0, 0), (ENC_SSI_TMO 0, 99)]) with enc := up.enc.set 0 { up.enc[0] with ab := 0, seen := true, reqAt := some 0, illegal := false, good := false } } ∧
    hypEncoderEvents 10 0 0 0 0 0 0
      { (dv (af up [(AX_PCFG_MODE, 2)]) [(ENC_CFG_MODE 0, 2), (ENC_CFG_AXEN 0, 1), (ENC_CFG_AXIS 0, 0), (ENC_SSI_TRIG 0, 1), (ENC_CRC_TOFF 0, 0), (ENC_SSI_TMO 0, 99)]) with enc := up.enc.set 0 { up.enc[0] with ab := 0, seen := true, reqAt := some 0, illegal := false, good := false } } ∧
    hypEncoderEvents 11 0 0 0 0 1 39990000
      { (dv up [(ENC_CFG_MODE 0, 2), (ENC_SSI_WLEN 0, 16), (ENC_CRC_CRCW 0, 4), (ENC_SSI_TMO 0, 200)]) with enc := up.enc.set 0 { up.enc[0] with reqAt := some 39990000 } } := by
  refine ⟨?_, ?_, ?_, ?_, ?_, ?_⟩ <;> unfold hypEncoderEvents <;> simp only [] <;> decide +kernel
theorem witness_EncoderEvents_3 :
    hypEncoderEvents 12 0 0 0 0 0 39990000
      { (dv up [(ENC_CFG_MODE 0, 2), (ENC_SSI_WLEN 0, 16), (ENC_CRC_CRCW 0, 4), (ENC_SSI_TMO 0, 200)]) with enc := up.enc.set 0 { up.enc[0] with reqAt := some 39990000 } } := by
  unfold hypEncoderEvents; simp only [] <;> decide +kernel

/-- The hypotheses of the clauses of ProbesAndEmulation. -/
def hypProbesAndEmulation (clause : Nat) (j : Chan) (m : Emu) (rising : Bool) (t0 : Nat) (value : Nat) (time : W64) (s : State) : Prop :=
  let filt := s.dget (PRB_CFG_FILT j.val)
  let p := s.prb[j]
  let q := s.emu[m]
  let src : Ax := ⟨(EMU_CFG_AXIS m.val).get q.cfg % 8, by omega⟩
  let due := (EMU_CFG_EN m.val).get q.cfg = 1 ∧ q.todo ≠ 0 ∧ q.next ≤ s.clk ∧ s.ticks src = true
  let lines := (EMU_CFG_LINES m.val).get q.cfg
  match clause with
  | 0 => p.pend = none ∧ p.level = some rising
  | 1 => p.pend = some (!rising, t0, value, time)
  | 2 => p.pend = none ∧ p.level ≠ some rising ∧ filt ≠ 0
  | 3 => p.pend = some (rising, t0, value, time) ∧ s.clk < t0 + filt
  | 4 => p.pend = none ∧ p.level ≠ some rising ∧ filt = 0
  | 5 => p.pend = some (rising, t0, value, time) ∧ t0 + filt ≤ s.clk
  | 6 => due
  | 7 => ¬due
  | 8 => (EMU_CFG_EN m.val).get q.cfg = 1 ∧ lines ≠ 0
  | _ => False
theorem witness_ProbesAndEmulation_1 :
    hypProbesAndEmulation 0 0 0 true 5 6 7 { up with prb := up.prb.set 0 { level := some true, pend := none } } ∧
    hypProbesAndEmulation 1 0 0 true 5 6 7 { up with prb := up.prb.set 0 { level := some true, pend := some (false, 5, 6, 7) } } ∧
    hypProbesAndEmulation 2 0 0 true 5 6 7 (dv up [(PRB_CFG_EDGE 0, 1)]) ∧
    hypProbesAndEmulation 3 0 0 true 40000000 6 7
      { (dv up [(PRB_CFG_FILT 0, 9)]) with prb := up.prb.set 0 { level := some false, pend := some (true, 40000000, 6, 7) } } ∧
    hypProbesAndEmulation 4 0 0 true 5 6 7
      { (dv up [(PRB_CFG_FILT 0, 0)]) with prb := up.prb.set 0 { level := some false, pend := none } } ∧
    hypProbesAndEmulation 5 0 0 false 5 6 7 { up with prb := up.prb.set 0 { level := some true, pend := some (false, 5, 6, 7) } } := by
  refine ⟨?_, ?_, ?_, ?_, ?_, ?_⟩ <;> unfold hypProbesAndEmulation <;> simp only [] <;> decide +kernel
theorem witness_ProbesAndEmulation_2 :
    hypProbesAndEmulation 6 0 0 true 5 6 7
      { loaded with emu := Vector.replicate 2 { num := 0, todo := 1, last := 0, ref := none, gap := 0, next := 40000000, cfg := (EMU_CFG_EN 0).put 0 1, fresh := false } } ∧
    hypProbesAndEmulation 7 0 0 true 5 6 7 (dv up [(PRB_CFG_EDGE 0, 1)]) ∧
    hypProbesAndEmulation 8 0 0 true 5 6 7
      { up with emu := up.emu.set 0 { up.emu[0] with cfg := (EMU_CFG_LINES 0).put ((EMU_CFG_EN 0).put 0 1) 3 } } := by
  refine ⟨?_, ?_, ?_⟩ <;> unfold hypProbesAndEmulation <;> simp only [] <;> decide +kernel

/-- The hypotheses of the clauses of PulseEvents. -/
def hypPulseEvents (clause : Nat) (n : Ax) (k : Chan) (uv : Int) (s : State) : Prop :=
  let a := s.ax n
  let r := a.pt.loaded.getD Req.none
  let t0 := 32 * s.clk
  let m := a.reg AX_PTMCTL
  let w := a.pt.cmp[k]
  let tgt := (AX_PTCMP_TGT k.val).get w
  let live := a.get AX_PTSTAT_FROZEN = 0 ∧ s.ptIsl n = islRun
  let acts := live ∧ a.lastEdge + 32 * a.get AX_SNSCFG_TSET ≤ t0 ∧ a.ampAbove a.boundLevel 29 uv = true
  let due := live ∧ s.onBoundary n ((AX_PTCMP_OFS k.val).get w) = true
  match clause with
  | 0 => acts ∧ r.mode = 0 ∧ t0 < a.pt.activeEnd
  | 1 => acts ∧ r.mode ≠ 0
  | 2 => (¬acts ∨ (r.mode = 0 ∧ a.pt.activeEnd ≤ t0))
  | 3 => s.onBoundary n 0 = true ∧ a.pt.stepReq = true ∧ a.get AX_PTSTAT_FROZEN = 0 ∧ AX_PTMCTL_SRC.get m ≠ 1
  | 4 => (s.onBoundary n 0 = false ∨ a.pt.stepReq = false ∨ a.get AX_PTSTAT_FROZEN ≠ 0)
  | 5 => due ∧ tgt = 1
  | 6 => due ∧ 2 ≤ tgt
  | 7 => (¬due ∨ tgt = 0)
  | 8 => s.clk % 400000 = 0 ∧ a.pt.window ≠ s.clk / 400000
  | 9 => (s.clk % 400000 ≠ 0 ∨ a.pt.window = s.clk / 400000)
  | _ => False
theorem witness_PulseEvents_1 :
    hypPulseEvents 0 0 0 9000000
      ((af up [(AX_PTSTAT_FROZEN, 0)]).modAx 0 (fun a => { a with pt := { a.pt with activeEnd := 1280000001 } })) ∧
    hypPulseEvents 1 0 0 9000000 (pls up (fun q => { q with loaded := some { Req.none with mode := 1 } })) ∧
    hypPulseEvents 2 0 0 0 ((af up [(AX_PTSTAT_FROZEN, 0)]).modAx 0 (fun a => { a with pt := { a.pt with activeEnd := 1280000001 } })) ∧
    hypPulseEvents 3 0 0 9000000
      (ax (fun a => { a with pt := { a.pt with stepReq := true }, regs := [(AX_PTMCTL, AX_PTMCTL_SRC.put (axReset AX_PTMCTL) 2)] })) ∧
    hypPulseEvents 4 0 0 9000000
      ((af up [(AX_PTSTAT_FROZEN, 0)]).modAx 0 (fun a => { a with pt := { a.pt with activeEnd := 1280000001 } })) ∧
    hypPulseEvents 5 0 0 9000000
      ((af up [(AX_PTSTAT_FROZEN,
      0)]).modAx 0 (fun a => { a with pt := { a.pt with cmp := a.pt.cmp.set 0 ((AX_PTCMP_TGT 0).put ((AX_PTCMP_OFS 0).put 0 0) 1)
      } })) := by
  refine ⟨?_, ?_, ?_, ?_, ?_, ?_⟩ <;> unfold hypPulseEvents <;> simp only [] <;> decide +kernel
theorem witness_PulseEvents_2 :
    hypPulseEvents 6 0 0 9000000
      ((af up [(AX_PTSTAT_FROZEN,
      0)]).modAx 0 (fun a => { a with pt := { a.pt with cmp := a.pt.cmp.set 0 ((AX_PTCMP_TGT 0).put ((AX_PTCMP_OFS 0).put 0 0) 2)
      } })) ∧
    hypPulseEvents 7 0 0 9000000
      ((af up [(AX_PTSTAT_FROZEN, 0)]).modAx 0 (fun a => { a with pt := { a.pt with activeEnd := 1280000001 } })) ∧
    hypPulseEvents 8 0 0 9000000
      ((af up [(AX_PTSTAT_FROZEN, 0)]).modAx 0 (fun a => { a with pt := { a.pt with activeEnd := 1280000001 } })) ∧
    hypPulseEvents 9 0 0 9000000 { up with clk := 40000001 } := by
  refine ⟨?_, ?_, ?_, ?_⟩ <;> unfold hypPulseEvents <;> simp only [] <;> decide +kernel

/-- The hypotheses of the clauses of GateOutputs. -/
def hypGateOutputs (clause : Nat) (n : Ax) (g : Gate) (p : Phase) (v : Nat) (s : State) : Prop :=
  let a := s.ax n
  let y := gatePartner g
  let blocked := a.gd.on.getLsbD y.val = true ∨ a.gd.vgs.getLsbD y.val = true
  let issues := a.gd.pend.getLsbD g.val = true ∧ a.gd.iss.getLsbD y.val = false
  let off := a.gd.on.getLsbD g.val = false
  let late := a.gd.edgeAt[g] + a.wbtmo g ≤ 32 * s.clk
  let level := 1000 * (6 + a.get AX_GDCFG_VGSON)
  let fails1 := ¬off ∧ late ∧ v ≤ level
  let fails2 := ¬off ∧ a.gd.edgeAt[g] + 1280 < 32 * s.clk ∧ v < level
  let bst := g.val % 2 = 0 ∧ (a.get AX_GDSTAT_BSTLOW).testBit (gatePhase g).val = true
  let known := (a.get AX_GDSTAT_STKOFF).testBit g.val
  let lapped := a.gd.overlap.getLsbD p.val
  match clause with
  | 0 => blocked
  | 1 => ¬blocked ∧ ¬issues
  | 2 => ¬blocked ∧ issues
  | 3 => (¬off ∨ ¬late ∨ a.gd.low.getLsbD g.val = true)
  | 4 => ¬off
  | 5 => off ∧ late ∧ a.gd.low.getLsbD g.val = false ∧ a.gd.stkOn.getLsbD g.val = true
  | 6 => off ∧ late ∧ a.gd.low.getLsbD g.val = false ∧ a.gd.stkOn.getLsbD g.val = false
  | 7 => fails1 ∧ bst
  | 8 => fails1 ∧ ¬bst ∧ known = false
  | 9 => fails2 ∧ g.val % 2 = 0
  | 10 => fails2 ∧ g.val % 2 = 1 ∧ known = false
  | 11 => (¬fails1 ∨ (¬bst ∧ known = true))
  | 12 => (¬fails2 ∨ (g.val % 2 = 1 ∧ known = true))
  | 13 => lapped = false
  | 14 => lapped = true ∧ a.gd.overlapAt[p] + usTicks < s.clk
  | 15 => (lapped = false ∨ s.clk ≤ a.gd.overlapAt[p] + usTicks)
  | _ => False
theorem witness_GateOutputs_1 :
    hypGateOutputs 0 0 0 0 0 (inSt (ax (fun a => { a with gd := { a.gd with on := 2, pend := 0, vgs := 0 } })) .running) ∧
    hypGateOutputs 1 0 0 0 0 (inSt (ax (fun a => { a with gd := { a.gd with on := 0, pend := 2, vgs := 0 } })) .running) ∧
    hypGateOutputs 2 0 1 0 0 (inSt (ax (fun a => { a with gd := { a.gd with on := 0, pend := 2, vgs := 0 } })) .running) ∧
    hypGateOutputs 3 0 1 0 0 (inSt (ax (fun a => { a with gd := { a.gd with on := 0, pend := 2, vgs := 0 } })) .running) ∧
    hypGateOutputs 4 0 1 0 0 (inSt (ax (fun a => { a with gd := { a.gd with on := 2, pend := 0, vgs := 0 } })) .running) ∧
    hypGateOutputs 5 0 0 0 0 (gdr (up) (fun d => { d with low := 0, edgeAt := Vector.replicate 6 0, stkOn := 1 })) := by
  refine ⟨?_, ?_, ?_, ?_, ?_, ?_⟩ <;> unfold hypGateOutputs <;> simp only [] <;> decide +kernel
theorem witness_GateOutputs_2 :
    hypGateOutputs 6 0 1 0 0 (gdr (up) (fun d => { d with low := 0, edgeAt := Vector.replicate 6 0, stkOn := 0 })) ∧
    hypGateOutputs 7 0 0 0 0 (gdr (af up [(AX_GDSTAT_BSTLOW, 1)]) (fun d => { d with on := 1, edgeAt := Vector.replicate 6 0 })) ∧
    hypGateOutputs 8 0 1 0 0 (inSt (ax (fun a => { a with gd := { a.gd with on := 2, pend := 0, vgs := 0 } })) .running) ∧
    hypGateOutputs 9 0 0 0 0 (gdr (up) (fun d => { d with on := 1 })) ∧
    hypGateOutputs 10 0 1 0 0 (inSt (ax (fun a => { a with gd := { a.gd with on := 2, pend := 0, vgs := 0 } })) .running) ∧
    hypGateOutputs 11 0 1 0 0 (inSt (ax (fun a => { a with gd := { a.gd with on := 0, pend := 2, vgs := 0 } })) .running) := by
  refine ⟨?_, ?_, ?_, ?_, ?_, ?_⟩ <;> unfold hypGateOutputs <;> simp only [] <;> decide +kernel
theorem witness_GateOutputs_3 :
    hypGateOutputs 12 0 1 0 0 (inSt (ax (fun a => { a with gd := { a.gd with on := 0, pend := 2, vgs := 0 } })) .running) ∧
    hypGateOutputs 13 0 1 0 0 (inSt (ax (fun a => { a with gd := { a.gd with on := 0, pend := 2, vgs := 0 } })) .running) ∧
    hypGateOutputs 14 0 1 0 0 (inSt (ax (fun a => { a with gd := { a.gd with overlap := 1 } })) .running) ∧
    hypGateOutputs 15 0 1 0 0 (inSt (ax (fun a => { a with gd := { a.gd with on := 0, pend := 2, vgs := 0 } })) .running) := by
  refine ⟨?_, ?_, ?_, ?_⟩ <;> unfold hypGateOutputs <;> simp only [] <;> decide +kernel

/-- The hypotheses of the clauses of TripsAndSafe. -/
def hypTripsAndSafe (clause : Nat) (n : Ax) (g : Gate) (p : Phase) (k : Chan) (v : Nat) (uv : Int) (hard : Bool) (terms : List Terminals) (s : State) : Prop :=
  let a := s.ax n
  let vds := 100 + 100 * (if g.val % 2 = 0 then a.get AX_GDVDS_VDSTHH else a.get AX_GDVDS_VDSTHL)
  let desat := a.get AX_GDVDS_VDSEN = 1 ∧ a.gd.on.getLsbD g.val = true ∧ (a.get AX_GDSTAT_DESATG).testBit g.val = false ∧
    a.gd.edgeAt[g] + 128 * (a.get AX_GDVDS_VDSBLK + a.get AX_GDVDS_VDSFLT) ≤ 32 * s.clk ∧ vds < v
  let clear := a.lastEdge + 128 * a.get AX_GDTRIP_TRBLK ≤ 32 * s.clk
  let sees := a.get AX_SNSCFG_MODE = 1 ∨ a.gd.on.getLsbD (lowGate p).val = true
  let oc := if hard then AX_GDSTAT_OCH else AX_GDSTAT_OCB
  let over1 := sees ∧ a.ampAbove (a.get AX_GDTRIP_OCLVL) 14 uv = true
  let acts := (a.get oc).testBit p.val = false ∧
    (if hard then sees ∧ a.ampAbove (a.get AX_GDTRIP_OCHARD) 14 uv = true else over1 ∧ clear)
  let enabled := (a.get AX_GDTRIP_TPEN).testBit k.val = true ∧ (a.get AX_GDSTAT_TPIN).testBit k.val = false ∧
    ((a.get AX_GDTRIP_TPBLK).testBit k.val = false ∨ clear)
  let was := s.pins.trip.getLsbD k.val
  let bit : BitVec 4 := (1 : BitVec 4) <<< k.val
  let th := 5000 + 250 * a.get AX_GDCFG_BSTUV
  let held := match a.gd.hold with | some x => decide (s.clk < x + a.get AX_OASIS_OASHOLD * usTicks) | none => true
  let short := a.st = .oasis ∧ s.oasisOpt n = 3 ∧ a.gd.hold = none ∧ a.since + a.get AX_OASIS_AUTOWIN * msTicks ≤ s.clk ∧
    terms ≠ [] ∧ keptMax terms < 25 * a.get AX_OASIS_SCEMF
  match clause with
  | 0 => desat
  | 1 => ¬desat
  | 2 => acts
  | 3 => ¬acts
  | 4 => ∃ b : Bool, was = b
  | 5 => was = false ∧ enabled ∧ a.get AX_GDTRIP_TPFLT = 0
  | 6 => was = false ∧ s.pins.trip = 0 ∧ (a.get AX_GDTRIP_TPFLT ≠ 0 ∨ ¬enabled)
  | 7 => was = true ∧ s.pins.trip = bit
  | 8 => was = true ∧ enabled ∧ s.pins.tripAt[k] + 40 * a.get AX_GDTRIP_TPFLT ≤ s.clk
  | 9 => s.pins.vgdUv = false
  | 10 => s.pins.vgdUv = true
  | 11 => v < th ∧ a.highWanted p = true
  | 12 => (th ≤ v ∨ a.highWanted p = false)
  | 13 => held = false
  | 14 => held = true
  | 15 => short
  | 16 => ¬short
  | _ => False
theorem witness_TripsAndSafe_1 :
    hypTripsAndSafe 0 0 0 0 0 9000 0 false []
      (af (inSt (ax (fun a => { a with gd := { a.gd with on := 3, pend := 0, vgs := 0 } })) .running) [(AX_GDVDS_VDSEN, 1),
      (AX_GDTRIP_TPEN, 1)]) ∧
    hypTripsAndSafe 1 0 0 0 0 0 0 false []
      (af (inSt (ax (fun a => { a with gd := { a.gd with on := 3, pend := 0, vgs := 0 } })) .running) [(AX_GDVDS_VDSEN, 1),
      (AX_GDTRIP_TPEN, 1)]) ∧
    hypTripsAndSafe 2 0 0 0 0 0 900000000 false []
      (af (inSt (ax (fun a => { a with gd := { a.gd with on := 3, pend := 0, vgs := 0 } })) .running) [(AX_GDVDS_VDSEN, 1),
      (AX_GDTRIP_TPEN, 1)]) ∧
    hypTripsAndSafe 3 0 0 0 0 0 0 false []
      (af (inSt (ax (fun a => { a with gd := { a.gd with on := 3, pend := 0, vgs := 0 } })) .running) [(AX_GDVDS_VDSEN, 1),
      (AX_GDTRIP_TPEN, 1)]) ∧
    hypTripsAndSafe 4 0 0 0 0 0 0 false []
      (af (inSt (ax (fun a => { a with gd := { a.gd with on := 3, pend := 0, vgs := 0 } })) .running) [(AX_GDVDS_VDSEN, 1),
      (AX_GDTRIP_TPEN, 1)]) ∧
    hypTripsAndSafe 5 0 0 0 0 0 0 false [] (af up [(AX_GDTRIP_TPEN, 1), (AX_GDTRIP_TPFLT, 0)]) := by
  refine ⟨?_, ?_, ?_, ?_, ?_, ?_⟩ <;> unfold hypTripsAndSafe <;> simp only [] <;> decide +kernel
theorem witness_TripsAndSafe_2 :
    hypTripsAndSafe 6 0 0 0 0 0 0 false []
      (af (inSt (ax (fun a => { a with gd := { a.gd with on := 3, pend := 0, vgs := 0 } })) .running) [(AX_GDVDS_VDSEN, 1),
      (AX_GDTRIP_TPEN, 1)]) ∧
    hypTripsAndSafe 7 0 0 0 0 0 0 false []
      { (af up [(AX_GDTRIP_TPEN, 1), (AX_GDTRIP_TPFLT, 1)]) with pins := { up.pins with trip := 1 } } ∧
    hypTripsAndSafe 8 0 0 0 0 0 0 false []
      { (af up [(AX_GDTRIP_TPEN, 1), (AX_GDTRIP_TPFLT, 1)]) with pins := { up.pins with trip := 1 } } ∧
    hypTripsAndSafe 9 0 0 0 0 0 0 false []
      (af (inSt (ax (fun a => { a with gd := { a.gd with on := 3, pend := 0, vgs := 0 } })) .running) [(AX_GDVDS_VDSEN, 1),
      (AX_GDTRIP_TPEN, 1)]) ∧
    hypTripsAndSafe 10 0 0 0 0 0 0 false [] { up with pins := { up.pins with vgdUv := true } } ∧
    hypTripsAndSafe 11 0 0 0 0 0 0 false []
      (af (inSt (ax (fun a => { a with gd := { a.gd with on := 3, pend := 0, vgs := 0 } })) .running) [(AX_GDVDS_VDSEN, 1),
      (AX_GDTRIP_TPEN, 1)]) := by
  refine ⟨?_, ?_, ?_, ?_, ?_, ?_⟩ <;> unfold hypTripsAndSafe <;> simp only [] <;> decide +kernel
theorem witness_TripsAndSafe_3 :
    hypTripsAndSafe 12 0 0 0 0 9000 0 false []
      (af (inSt (ax (fun a => { a with gd := { a.gd with on := 3, pend := 0, vgs := 0 } })) .running) [(AX_GDVDS_VDSEN, 1),
      (AX_GDTRIP_TPEN, 1)]) ∧
    hypTripsAndSafe 13 0 0 0 0 0 0 false [] (ax (fun a => { a with gd := { a.gd with hold := some 0 } })) ∧
    hypTripsAndSafe 14 0 0 0 0 0 0 false []
      (af (inSt (ax (fun a => { a with gd := { a.gd with on := 3, pend := 0, vgs := 0 } })) .running) [(AX_GDVDS_VDSEN, 1),
      (AX_GDTRIP_TPEN, 1)]) ∧
    hypTripsAndSafe 15 0 0 0 0 0 0 false [(1, 1, 1)]
      (inSt ((af up [(AX_OASIS_AUTOWIN, 100), (AX_OASIS_SCEMF,
      1)]).modAx 0 (fun a => { a with gd := { a.gd with opt := 3 } })) .oasis) ∧
    hypTripsAndSafe 16 0 0 0 0 0 0 false []
      (af (inSt (ax (fun a => { a with gd := { a.gd with on := 3, pend := 0, vgs := 0 } })) .running) [(AX_GDVDS_VDSEN, 1),
      (AX_GDTRIP_TPEN, 1)]) := by
  refine ⟨?_, ?_, ?_, ?_, ?_⟩ <;> unfold hypTripsAndSafe <;> simp only [] <;> decide +kernel

/-- The hypotheses of the clauses of EngineStops. -/
def hypEngineStops (clause : Nat) (n : Ax) (e : Eng) (s : State) : Prop :=
  let r := (s.ax n).run
  let c := r.cyc + (match r.wait with | some (_, w, t0) => min w (s.clk - t0) | none => 0)
  let lim := s.aget n AX_WCET_WCET + 16
  let runs := (s.ax n).engine = some e ∧ (s.eng e).pool = .active ∧ r.running = true
  let stands := (s.ax n).engine = none ∨ ((s.ax n).engine = some e ∧ ((s.eng e).pool ≠ .active ∨ r.running = false))
  let listed := listedOpcode (opcOf ((s.ax n).pword (s.eng e).core.pc.toNat))
  match clause with
  | 0 => runs ∧ lim ≤ c
  | 1 => runs ∧ r.seq = 0
  | 2 => s.ready n = some e ∧ listed = false
  | 3 => stands
  | 4 => (stands ∨ c < lim)
  | 5 => (stands ∨ r.seq ≠ 0)
  | 6 => (s.ready n = none ∨ (s.ready n = some e ∧ listed = true))
  | _ => False
theorem witness_EngineStops_1 :
    hypEngineStops 0 0 0 (tick.modAx 0 (fun a => { a with run := { a.run with cyc := 80 } })) ∧
    hypEngineStops 1 0 0 tick ∧
    hypEngineStops 2 0 0 tick ∧
    hypEngineStops 3 0 0 up ∧
    hypEngineStops 4 0 0 tick ∧
    hypEngineStops 5 0 0 up := by
  refine ⟨?_, ?_, ?_, ?_, ?_, ?_⟩ <;> unfold hypEngineStops <;> simp only [] <;> decide +kernel
theorem witness_EngineStops_2 :
    hypEngineStops 6 0 0 up := by
  unfold hypEngineStops; simp only [] <;> decide +kernel

/-- The hypotheses of the clauses of PoolAndMemories. -/
def hypPoolAndMemories (clause : Nat) (e : Eng) (n : Ax) (m : MemId) (w : W16) (s : State) : Prop :=
  let a := s.ax n
  let other := allEng.any (fun g => g != e && s.freeSpare .spare g)
  let due := s.freeSpare .spare e = true ∧ s.pool.testAt + s.dget ENGINE_STCTL_PERIOD * msTicks ≤ s.clk ∧
    ¬(s.pool.lastTest = some e ∧ other = true)
  let bank := m = .p n ∨ m = .d n
  let word := s.scrubCount m % (memPlace m).2
  match clause with
  | 0 => due
  | 1 => ¬due
  | 2 => (s.eng e).pool = .selftest
  | 3 => (s.eng e).pool ≠ .selftest
  | 4 => bank ∧ a.withdrawn = true
  | 5 => w.toNat / 4 < s.store.stage.length
  | 6 => s.store.stage.length ≤ w.toNat / 4
  | 7 => s.scrubDue m = false
  | 8 => s.scrubDue m = true ∧ s.scrubbed m = false
  | 9 => s.scrubDue m = true ∧ bank ∧ a.withdrawn = false
  | 10 => s.scrubDue m = true ∧ s.scrubbed m = true ∧ word < 2 ^ 16
  | 11 => s.pool.restart = true
  | 12 => s.pool.restart = false
  | _ => False
theorem witness_PoolAndMemories_1 :
    hypPoolAndMemories 0 9 0 (.p 0) 0 { up with pool := { up.pool with restart := true } } ∧
    hypPoolAndMemories 1 8 0 (.p 0) 0 (up.modEng 8 (fun g => { g with pool := .selftest })) ∧
    hypPoolAndMemories 2 8 0 (.p 0) 0 (up.modEng 8 (fun g => { g with pool := .selftest })) ∧
    hypPoolAndMemories 3 9 0 (.p 0) 0 { up with pool := { up.pool with restart := true } } ∧
    hypPoolAndMemories 4 9 0 (.p 0) 0 (up.modAx 0 (fun a => { a with withdrawn := true })) ∧
    hypPoolAndMemories 5 9 0 (.p 0) 0 (stor up (fun c => { c with stage := [(1, 0, 2, 3, 4)] })) := by
  refine ⟨?_, ?_, ?_, ?_, ?_, ?_⟩ <;> unfold hypPoolAndMemories <;> simp only [] <;> decide +kernel
theorem witness_PoolAndMemories_2 :
    hypPoolAndMemories 6 9 0 (.p 0) 0 { up with pool := { up.pool with restart := true } } ∧
    hypPoolAndMemories 7 9 0 (.p 0) 0 { up with pool := { up.pool with restart := true } } ∧
    hypPoolAndMemories 8 9 0 (.p 0) 0
      (({ up with pool := { up.pool with scrubAt := some 0 } }).modAx 0 (fun a => { a with withdrawn := true })) ∧
    hypPoolAndMemories 9 9 0 (.p 0) 0 { up with pool := { up.pool with scrubAt := some 0 } } ∧
    hypPoolAndMemories 10 9 0 (.p 0) 0 { up with pool := { up.pool with scrubAt := some 0 } } ∧
    hypPoolAndMemories 11 9 0 (.p 0) 0 { up with pool := { up.pool with restart := true } } := by
  refine ⟨?_, ?_, ?_, ?_, ?_, ?_⟩ <;> unfold hypPoolAndMemories <;> simp only [] <;> decide +kernel
theorem witness_PoolAndMemories_3 :
    hypPoolAndMemories 12 9 0 (.p 0) 0 (up.modEng 8 (fun g => { g with pool := .selftest })) := by
  unfold hypPoolAndMemories; simp only [] <;> decide +kernel

/-- The hypotheses of the clauses of BusComparators. -/
def hypBusComparators (clause : Nat) (x : Bus) (v : BitVec 10) (n : Ax) (thr : BusThr) (s : State) : Prop :=
  let a := s.ax n
  let oh := s.dget (BUS_OV_OVHYS x.val)
  let uh := s.dget (BUS_UV_UVHYS x.val)
  let gone := match thr with
    | .ov1 => decide (v.toNat + oh < s.dget (BUS_OV_OV1 x.val)) | .ov2 => decide (v.toNat + oh < s.dget (BUS_OV_OV2 x.val))
    | .ov3 => decide (v.toNat + oh < s.dget (BUS_OV_OV3 x.val)) | .uv1 => decide (s.dget (BUS_UV_UV1 x.val) + uh < v.toNat)
    | .uv2 => decide (s.dget (BUS_UV_UV2 x.val) + uh < v.toNat)
  let y := s.busOf n
  let stood := match a.sense.regAt with | some t0 => decide (t0 + s.dget (BUS_ESC_ESCDLY y.val) * usTicks ≤ s.clk) | none => false
  let due := s.dget (BUS_STAT_OV1 y.val) = 1 ∧ a.st ≠ .oasis ∧ (a.gd.esc = true ∨ (s.chopperBad y = true ∧ stood = true))
  match clause with
  | 0 => s.dget (thrFld x thr) = 1 ∧ gone = true
  | 1 => (s.dget (thrFld x thr) = 0 ∨ gone = false)
  | 2 => due
  | 3 => ¬due
  | _ => False
theorem witness_BusComparators :
    hypBusComparators 0 0 0 0 .ov1 (dv up [(BUS_STAT_OV1 0, 1), (BUS_BRK_MODE 0, 0)]) ∧
    hypBusComparators 1 0 0 0 .uv1 (dv up [(BUS_STAT_OV1 0, 1), (BUS_BRK_MODE 0, 0)]) ∧
    hypBusComparators 2 0 0 0 .ov1
      ((dv up [(BUS_STAT_OV1 0, 1), (BUS_STAT_BRKFLT 0, 1)]).modAx 0 (fun a => { a with gd := { a.gd with esc := true } })) ∧
    hypBusComparators 3 0 0 0 .ov1 (dv up [(BUS_STAT_OV1 0, 1), (BUS_BRK_MODE 0, 0)]) := by
  refine ⟨?_, ?_, ?_, ?_⟩ <;> unfold hypBusComparators <;> simp only [] <;> decide +kernel

/-- The hypotheses of the clauses of BrakeEvents. -/
def hypBrakeEvents (clause : Nat) (x : Bus) (e : Nat) (s : State) : Prop :=
  let b := s.bus x
  match clause with
  | 0 => b.past = none
  | 1 => b.past ≠ none
  | 2 => (b.pulse = none ∨ (b.pulse = some e ∧ s.clk < e))
  | 3 => b.pulse = some e ∧ e ≤ s.clk
  | _ => False
theorem witness_BrakeEvents :
    hypBrakeEvents 0 0 5 (dv up [(BUS_BRK_MODE 0, 0)]) ∧
    hypBrakeEvents 1 0 5 { up with buses := up.buses.set 0 { (up.bus 0) with past := some (true, true) } } ∧
    hypBrakeEvents 2 0 5 (dv up [(BUS_BRK_MODE 0, 0)]) ∧
    hypBrakeEvents 3 0 5 { up with buses := up.buses.set 0 { (up.bus 0) with pulse := some 5 } } := by
  refine ⟨?_, ?_, ?_, ?_⟩ <;> unfold hypBrakeEvents <;> simp only [] <;> decide +kernel

/-- The hypotheses of the clauses of ThermalEvents. -/
def hypThermalEvents (clause : Nat) (i : Fin 12) (k : Ax) (short : Bool) (z : Sensor) (lvl : W64) (rat : W64) (e : Int) (s : State) : Prop :=
  let due := match s.therm.at_ with | some t => decide (t + 100 * usTicks ≤ s.clk) | none => true
  let thr : Int := 8 * (THERM_LVL_THR 0).get lvl
  let full : Int := 8 * (THERM_LVL_FULL 0).get lvl
  let long := fun (q : Sensor) => match q.since with | some t => decide (t + tenMs ≤ s.clk) | none => false
  let broken := s.tsSusp i.val = true ∧ long s.therm.ts[i] = true
  let code := s.dget (THERM_NTC_CODE k.val)
  let limit := s.ntcOn k.val = true ∧ s.ntcDeclared k.val = false ∧ (if short then code ≤ 25 else 4070 ≤ code) ∧ long s.therm.ntc[k] = true
  let back := s.ntcDeclared k.val = true ∧ 25 < code ∧ code < 4070 ∧ long s.therm.ntc[k] = true
  match clause with
  | 0 => due = true
  | 1 => due = false
  | 2 => (THERM_RATE_MODE 0).get rat = 0 ∧ z.held = none ∧ e ≤ thr
  | 3 => (THERM_RATE_MODE 0).get rat = 0 ∧ z.held = none ∧ thr < e ∧ full ≤ e
  | 4 => (THERM_RATE_MODE 0).get rat = 0 ∧ z.held = none ∧ thr < e ∧ e < full
  | 5 => broken
  | 6 => ¬broken
  | 7 => limit
  | 8 => ¬limit
  | 9 => back
  | 10 => ¬back
  | _ => False
theorem witness_ThermalEvents_1 :
    hypThermalEvents 0 0 0 true (up.therm.ts[0]) 0 0 0
      { (dv up [(THERM_TS_SUSP 0, 1), (THERM_NTCCFG_NEN, 1), (THERM_NTC_CODE 0, 25)]) with therm := { up.therm with ts := up.therm.ts.set 0 sus, ntc := up.therm.ntc.set 0 sus } } ∧
    hypThermalEvents 1 0 0 true (up.therm.ts[0]) 0 0 0 { up with therm := { up.therm with at_ := some up.clk } } ∧
    hypThermalEvents 2 0 0 true (up.therm.ts[0]) 0 0 0
      { (dv up [(THERM_TS_SUSP 0, 1), (THERM_NTCCFG_NEN, 1), (THERM_NTC_CODE 0, 25)]) with therm := { up.therm with ts := up.therm.ts.set 0 sus, ntc := up.therm.ntc.set 0 sus } } ∧
    hypThermalEvents 3 0 0 true (up.therm.ts[0]) 0 0 1000
      { (dv up [(THERM_TS_SUSP 0, 1), (THERM_NTCCFG_NEN, 1), (THERM_NTC_CODE 0, 25)]) with therm := { up.therm with ts := up.therm.ts.set 0 sus, ntc := up.therm.ntc.set 0 sus } } ∧
    hypThermalEvents 4 0 0 true (up.therm.ts[0]) ((THERM_LVL_THR 0).put ((THERM_LVL_FULL 0).put 0 100) 80) 0 700
      { (dv up [(THERM_TS_SUSP 0, 1), (THERM_NTCCFG_NEN, 1), (THERM_NTC_CODE 0, 25)]) with therm := { up.therm with ts := up.therm.ts.set 0 sus, ntc := up.therm.ntc.set 0 sus } } ∧
    hypThermalEvents 5 0 0 true (up.therm.ts[0]) 0 0 0
      { (dv up [(THERM_TS_SUSP 0, 1), (THERM_NTCCFG_NEN, 1), (THERM_NTC_CODE 0, 25)]) with therm := { up.therm with ts := up.therm.ts.set 0 sus, ntc := up.therm.ntc.set 0 sus } } := by
  refine ⟨?_, ?_, ?_, ?_, ?_, ?_⟩ <;> unfold hypThermalEvents <;> simp only [] <;> decide +kernel
theorem witness_ThermalEvents_2 :
    hypThermalEvents 6 0 0 true (up.therm.ts[0]) 0 0 0
      { (dv up [(THERM_NTCCFG_NEN, 1), (THERM_NTC_OPEN 0, 1), (THERM_NTC_CODE 0, 26)]) with therm := { up.therm with ts := up.therm.ts.set 0 sus, ntc := up.therm.ntc.set 0 sus } } ∧
    hypThermalEvents 7 0 0 true (up.therm.ts[0]) 0 0 0
      { (dv up [(THERM_TS_SUSP 0, 1), (THERM_NTCCFG_NEN, 1), (THERM_NTC_CODE 0, 25)]) with therm := { up.therm with ts := up.therm.ts.set 0 sus, ntc := up.therm.ntc.set 0 sus } } ∧
    hypThermalEvents 8 0 0 true (up.therm.ts[0]) 0 0 0
      { (dv up [(THERM_NTCCFG_NEN, 1), (THERM_NTC_OPEN 0, 1), (THERM_NTC_CODE 0, 26)]) with therm := { up.therm with ts := up.therm.ts.set 0 sus, ntc := up.therm.ntc.set 0 sus } } ∧
    hypThermalEvents 9 0 0 true (up.therm.ts[0]) 0 0 0
      { (dv up [(THERM_NTCCFG_NEN, 1), (THERM_NTC_OPEN 0, 1), (THERM_NTC_CODE 0, 26)]) with therm := { up.therm with ts := up.therm.ts.set 0 sus, ntc := up.therm.ntc.set 0 sus } } ∧
    hypThermalEvents 10 0 0 true (up.therm.ts[0]) 0 0 0
      { (dv up [(THERM_TS_SUSP 0, 1), (THERM_NTCCFG_NEN, 1), (THERM_NTC_CODE 0, 25)]) with therm := { up.therm with ts := up.therm.ts.set 0 sus, ntc := up.therm.ntc.set 0 sus } } := by
  refine ⟨?_, ?_, ?_, ?_, ?_⟩ <;> unfold hypThermalEvents <;> simp only [] <;> decide +kernel

/-- The hypotheses of the clauses of ClockEvents. -/
def hypClockEvents (clause : Nat) (s : State) : Prop :=
  let bad := s.dget SYS_CLKSTAT_STBY_BAD
  let act := s.dget SYS_CLKSTAT_ACTIVE
  let good := bad = 1 ∧ s.pins.pllAt.getD (1 - act) 0 + tenMs ≤ s.clk
  let back := s.dget SYS_CLKSTAT_REF_SRC = 1 ∧ s.dget SYS_CLKCTL_REF_RET = 1
  match clause with
  | 0 => s.pins.noClock = false ∧ bad = 0
  | 1 => s.pins.noClock = false ∧ bad = 1
  | 2 => good ∧ s.pins.noClock = false
  | 3 => good ∧ s.pins.noClock = true
  | 4 => ¬good
  | 5 => s.pins.hresAt + 2 * usTicks ≤ s.clk
  | 6 => s.clk < s.pins.hresAt + 2 * usTicks
  | 7 => s.dget SYS_CLKSTAT_REF_SRC = 0
  | 8 => s.dget SYS_CLKSTAT_REF_SRC = 1
  | 9 => back
  | 10 => ¬back
  | _ => False
theorem witness_ClockEvents_1 :
    hypClockEvents 0 (dv up [(SYS_CLKSTAT_STBY_BAD, 0), (SYS_CLKSTAT_REF_SRC, 0), (SYS_CLKCTL_REF_RET, 0)]) ∧
    hypClockEvents 1 (dv up [(SYS_CLKSTAT_STBY_BAD, 1), (SYS_CLKSTAT_REF_SRC, 1), (SYS_CLKCTL_REF_RET, 1)]) ∧
    hypClockEvents 2 (dv up [(SYS_CLKSTAT_STBY_BAD, 1), (SYS_CLKSTAT_REF_SRC, 1), (SYS_CLKCTL_REF_RET, 1)]) ∧
    hypClockEvents 3 { (dv up [(SYS_CLKSTAT_STBY_BAD, 1)]) with pins := { up.pins with noClock := true } } ∧
    hypClockEvents 4 (dv up [(SYS_CLKSTAT_STBY_BAD, 0), (SYS_CLKSTAT_REF_SRC, 0), (SYS_CLKCTL_REF_RET, 0)]) ∧
    hypClockEvents 5 (dv up [(SYS_CLKSTAT_STBY_BAD, 0), (SYS_CLKSTAT_REF_SRC, 0), (SYS_CLKCTL_REF_RET, 0)]) := by
  refine ⟨?_, ?_, ?_, ?_, ?_, ?_⟩ <;> unfold hypClockEvents <;> simp only [] <;> decide +kernel
theorem witness_ClockEvents_2 :
    hypClockEvents 6 { up with pins := { up.pins with hresAt := up.clk } } ∧
    hypClockEvents 7 (dv up [(SYS_CLKSTAT_STBY_BAD, 0), (SYS_CLKSTAT_REF_SRC, 0), (SYS_CLKCTL_REF_RET, 0)]) ∧
    hypClockEvents 8 (dv up [(SYS_CLKSTAT_STBY_BAD, 1), (SYS_CLKSTAT_REF_SRC, 1), (SYS_CLKCTL_REF_RET, 1)]) ∧
    hypClockEvents 9 (dv up [(SYS_CLKSTAT_STBY_BAD, 1), (SYS_CLKSTAT_REF_SRC, 1), (SYS_CLKCTL_REF_RET, 1)]) ∧
    hypClockEvents 10 (dv up [(SYS_CLKSTAT_STBY_BAD, 0), (SYS_CLKSTAT_REF_SRC, 0), (SYS_CLKCTL_REF_RET, 0)]) := by
  refine ⟨?_, ?_, ?_, ?_, ?_⟩ <;> unfold hypClockEvents <;> simp only [] <;> decide +kernel

/-- The hypotheses of the clauses of IslandsAndCrossings. -/
def hypIslandsAndCrossings (clause : Nat) (n : Ax) (p : Port) (tag : W16) (s : State) : Prop :=
  let a := s.ax n
  let q := s.port p
  let idle := (s.dget SYS_ISLGATE_AXGATE).testBit n.val = true ∧ a.st = .off ∧ a.pt.offSince + msTicks ≤ s.clk
  let known := q.cmds.any (fun c => c.tag == tag)
  match clause with
  | 0 => idle
  | 1 => ¬idle
  | 2 => known = true
  | 3 => known = false
  | _ => False
theorem witness_IslandsAndCrossings :
    hypIslandsAndCrossings 0 0 0 0 (dv up [(SYS_ISLGATE_AXGATE, 1)]) ∧
    hypIslandsAndCrossings 1 0 0 0 (pt up 0 (fun q => { q with cmds := [cmd 0 .fuse true] })) ∧
    hypIslandsAndCrossings 2 0 0 0 (pt up 0 (fun q => { q with cmds := [cmd 0 .fuse true] })) ∧
    hypIslandsAndCrossings 3 0 0 0 (dv up [(SYS_ISLGATE_AXGATE, 1)]) := by
  refine ⟨?_, ?_, ?_, ?_⟩ <;> unfold hypIslandsAndCrossings <;> simp only [] <;> decide +kernel

/-- The hypotheses of the clauses of TimeBase. -/
def hypTimeBase (clause : Nat) (t0 : Nat) (s : State) : Prop :=
  let en := s.dget SYS_TIMESET_PPS_EN = 1
  let st := s.dget SYS_TIMESTAT_STATE
  let dly := s.dget SYS_TIMESET_PPS_DLY
  let er := phaseError ((s.time.toNat : Int) - dly)
  let far := er.natAbs
  match clause with
  | 0 => ¬en
  | 1 => en ∧ st = 0
  | 2 => en ∧ st = 1
  | 3 => en ∧ 2 ≤ st ∧ 1000000 < far
  | 4 => en ∧ 2 ≤ st ∧ st ≤ 4 ∧ far ≤ 1000000
  | 5 => s.tm.lastEdge = some t0 ∧ t0 + 1500 * msTicks < s.clk ∧ (st = 2 ∨ st = 3)
  | 6 => (s.tm.lastEdge = none ∨ (s.tm.lastEdge = some t0 ∧ s.clk ≤ t0 + 1500 * msTicks) ∨ (st ≠ 2 ∧ st ≠ 3))
  | _ => False
theorem witness_TimeBase_1 :
    hypTimeBase 0 0 (dv up [(SYS_TIMESET_PPS_EN, 0)]) ∧
    hypTimeBase 1 0 (dv up [(SYS_TIMESET_PPS_EN, 1)]) ∧
    hypTimeBase 2 0 (dv up [(SYS_TIMESET_PPS_EN, 1), (SYS_TIMESTAT_STATE, 1)]) ∧
    hypTimeBase 3 0
      { dv up [(SYS_TIMESET_PPS_EN, 1), (SYS_TIMESTAT_STATE, 2)] with tm := { up.tm with acc := 1000001 * unitsPerNs, lastEdge := some 0 } } ∧
    hypTimeBase 4 0
      { { dv up [(SYS_TIMESET_PPS_EN, 1), (SYS_TIMESTAT_STATE, 2)] with tm := { up.tm with acc := 0 * unitsPerNs, lastEdge := some 0 } } with clk := 600000001 } ∧
    hypTimeBase 5 0
      { { dv up [(SYS_TIMESET_PPS_EN, 1), (SYS_TIMESTAT_STATE, 2)] with tm := { up.tm with acc := 0 * unitsPerNs, lastEdge := some 0 } } with clk := 600000001 } := by
  refine ⟨?_, ?_, ?_, ?_, ?_, ?_⟩ <;> unfold hypTimeBase <;> simp only [] <;> decide +kernel
theorem witness_TimeBase_2 :
    hypTimeBase 6 0 (dv up [(SYS_TIMESET_PPS_EN, 1)]) := by
  unfold hypTimeBase; simp only [] <;> decide +kernel

/-- The hypotheses of the clauses of TimeRegisters. -/
def hypTimeRegisters (clause : Nat) (p : Port) (s : State) : Prop :=
  let back := s.dget SYS_CLKSTAT_REF_SRC = 1 ∧ s.pins.xinBad = false
  let ret := back ∧ s.dget SYS_CLKCTL_REF_RET = 1
  match clause with
  | 0 => Calm s p ∧ s.func p fnTime = true ∧ s.dget SYS_TIMESTAT_STATE = 0
  | 1 => Calm s p ∧ s.func p fnTime = true ∧ s.dget SYS_TIMESTAT_STATE ≠ 0
  | 2 => Calm s p ∧ s.func p fnTime = false
  | 3 => Calm s p ∧ s.isSvc p = true ∧ s.dget SYS_CLKSTAT_STBY_BAD = 0
  | 4 => Calm s p ∧ s.isSvc p = true ∧ s.dget SYS_CLKSTAT_STBY_BAD = 1 ∧ ret
  | 5 => Calm s p ∧ s.isSvc p = true ∧ s.dget SYS_CLKSTAT_STBY_BAD = 1 ∧ ¬ret
  | 6 => Calm s p ∧ s.isSvc p = true ∧ back
  | 7 => Calm s p ∧ s.isSvc p = true ∧ ¬back
  | 8 => Calm s p ∧ s.isSvc p = false
  | _ => False
theorem witness_TimeRegisters_1 :
    hypTimeRegisters 0 0 up ∧
    hypTimeRegisters 1 0 (dv up [(SYS_TIMESTAT_STATE, 1)]) ∧
    hypTimeRegisters 2 0 (dv up [(HOST_PERM_FUNC 0, 0)]) ∧
    hypTimeRegisters 3 0 up ∧
    hypTimeRegisters 4 0 (dv up [(SYS_CLKSTAT_STBY_BAD, 1), (SYS_CLKSTAT_REF_SRC, 1), (SYS_CLKCTL_REF_RET, 1)]) ∧
    hypTimeRegisters 5 0 (dv up [(SYS_CLKSTAT_STBY_BAD, 1)]) := by
  refine ⟨?_, ?_, ?_, ?_, ?_, ?_⟩ <;> unfold hypTimeRegisters <;> simp only [] <;> decide +kernel
theorem witness_TimeRegisters_2 :
    hypTimeRegisters 6 0 (dv up [(SYS_CLKSTAT_STBY_BAD, 1), (SYS_CLKSTAT_REF_SRC, 1), (SYS_CLKCTL_REF_RET, 1)]) ∧
    hypTimeRegisters 7 0 up ∧
    hypTimeRegisters 8 0 (dv up [(HOST_PCFG_SVC 0, 0)]) := by
  refine ⟨?_, ?_, ?_⟩ <;> unfold hypTimeRegisters <;> simp only [] <;> decide +kernel

/-- The hypotheses of the clauses of BusRegisters. -/
def hypBusRegisters (clause : Nat) (p : Port) (x : Bus) (uv : Bool) (v : W64) (s : State) : Prop :=
  let a := if uv then BUS_UV x.val else BUS_OV x.val
  let accepted := s.isSvc p = true ∨ ∀ n : Ax, OnBus s x n → s.owner n = p.val
  match clause with
  | 0 => ∃ o : Fin 16, accepted
  | 1 => ∃ o : Fin 16, ¬ accepted
  | 2 => Calm s p ∧ ¬ accepted
  | 3 => Calm s p ∧ accepted ∧ s.dget (BUS_STAT_OV1 x.val) = 1
  | 4 => Calm s p ∧ accepted ∧ s.dget (BUS_STAT_OV1 x.val) = 0
  | 5 => Calm s p ∧ accepted ∧ s.devRangeOk a v = true ∧ uv = false
  | 6 => Calm s p ∧ accepted ∧ s.devRangeOk a v = true ∧ uv = true
  | 7 => Calm s p ∧ accepted ∧ s.devRangeOk a v = false
  | 8 => Calm s p ∧ accepted ∧ s.testable x = true
  | 9 => Calm s p ∧ accepted ∧ s.testable x = false
  | _ => False
theorem witness_BusRegisters_1 :
    hypBusRegisters 0 0 0 false (devReset (BUS_OV 0)) up ∧
    hypBusRegisters 1 0 0 false (devReset (BUS_OV 0)) (dv up [(HOST_PCFG_SVC 0, 0), (HOST_OWN_OWNER, 1)]) ∧
    hypBusRegisters 2 0 0 false (devReset (BUS_OV 0)) (dv up [(HOST_PCFG_SVC 0, 0), (HOST_OWN_OWNER, 1)]) ∧
    hypBusRegisters 3 0 0 false (devReset (BUS_OV 0)) (dv up [(BUS_STAT_OV1 0, 1)]) ∧
    hypBusRegisters 4 0 0 false (devReset (BUS_OV 0)) up ∧
    hypBusRegisters 5 0 0 false (devReset (BUS_OV 0)) up := by
  refine ⟨?_, ?_, ?_, ?_, ?_, ?_⟩ <;> unfold hypBusRegisters <;> simp only [] <;> decide +kernel
theorem witness_BusRegisters_2 :
    hypBusRegisters 6 0 0 true (up.dreg (BUS_UV 0)) up ∧
    hypBusRegisters 7 0 0 false 0 up ∧
    hypBusRegisters 8 0 0 false (devReset (BUS_OV 0)) (dv up [(BUS_BRK_MODE 0, 1), (BUS_STAT_VBUS 0, 801), (BUS_STAT_OV1 0, 0)]) ∧
    hypBusRegisters 9 0 0 false (devReset (BUS_OV 0)) up := by
  refine ⟨?_, ?_, ?_, ?_⟩ <;> unfold hypBusRegisters <;> simp only [] <;> decide +kernel

/-- The hypotheses of the clauses of AxisRegisters. -/
def hypAxisRegisters (clause : Nat) (p : Port) (n : Ax) (one : Bool) (v : W64) (s : State) : Prop :=
  let a := s.ax n
  let per := AX_TICK_PERIOD.get v
  let o := if one then AX_BASE1 else AX_BASE0
  let c := AX_CATCH_CLR.put (s.readAx n AX_CATCH) 1
  let own := Calm s p ∧ s.owns p n = true
  let fits := a.loaded = false ∨ a.get AX_WCET_WCET ≤ wcetLimit per
  match clause with
  | 0 => own ∧ a.st = .off ∧ ((per < 400 ∨ 40000 < per))
  | 1 => own ∧ a.st = .off ∧ 400 ≤ per ∧ per ≤ 40000 ∧ fits
  | 2 => own ∧ a.st = .off ∧ 400 ≤ per ∧ per ≤ 40000 ∧ ¬fits
  | 3 => own ∧ s.islOk n o = true ∧ a.st ≠ .off
  | 4 => own ∧ s.islOk n o = true ∧ a.st = .off ∧ a.rangeOk o v = false
  | 5 => own ∧ s.islOk n o = true ∧ a.st = .off ∧ a.rangeOk o v = true
  | 6 => own ∧ s.islOk n o = false
  | 7 => own ∧ a.rangeOk AX_CATCH c = true
  | 8 => own ∧ a.rangeOk AX_CATCH c = false
  | 9 => own ∧ s.func p fnClear = true
  | 10 => own ∧ s.func p fnClear = false
  | 11 => Calm s p ∧ s.owns p n = false
  | _ => False
theorem witness_AxisRegisters_1 :
    hypAxisRegisters 0 0 0 false (axReset AX_BASE0) up ∧
    hypAxisRegisters 1 0 0 false (AX_TICK_PERIOD.put 0 400) up ∧
    hypAxisRegisters 2 0 0 false (AX_TICK_PERIOD.put 0 400) (af loaded [(AX_WCET_WCET, 6401)]) ∧
    hypAxisRegisters 3 0 0 false (AX_TICK_PERIOD.put 0 400) (inSt up .running) ∧
    hypAxisRegisters 4 0 0 false (AX_TICK_PERIOD.put 0 400) up ∧
    hypAxisRegisters 5 0 0 false (axReset AX_BASE0) up := by
  refine ⟨?_, ?_, ?_, ?_, ?_, ?_⟩ <;> unfold hypAxisRegisters <;> simp only [] <;> decide +kernel
theorem witness_AxisRegisters_2 :
    hypAxisRegisters 6 0 0 false (AX_TICK_PERIOD.put 0 400) (up.setIsl 0 islStopped) ∧
    hypAxisRegisters 7 0 0 false (AX_TICK_PERIOD.put 0 400) up ∧
    hypAxisRegisters 8 0 0 false (AX_TICK_PERIOD.put 0 400) (af up [(AX_CATCH_LOSSMAX, 0), (AX_CATCH_TMO, 0)]) ∧
    hypAxisRegisters 9 0 0 false (AX_TICK_PERIOD.put 0 400) up ∧
    hypAxisRegisters 10 0 0 false (AX_TICK_PERIOD.put 0 400) (dv up [(HOST_PERM_FUNC 0, 0)]) ∧
    hypAxisRegisters 11 0 0 false (AX_TICK_PERIOD.put 0 400) (up.setOwner 0 7) := by
  refine ⟨?_, ?_, ?_, ?_, ?_, ?_⟩ <;> unfold hypAxisRegisters <;> simp only [] <;> decide +kernel

/-- The hypotheses of the clauses of EncoderRegisters. -/
def hypEncoderRegisters (clause : Nat) (p : Port) (k : Chan) (r : Fin 4) (m : Emu) (v : W64) (s : State) : Prop :=
  let a := ENC_CFG k.val + r.val
  let b := EMU_CFG m.val
  let l := s.namedAxes a v
  let e := s.namedAxes b v
  let all := fun (x : List Ax) => (∀ n ∈ x, s.owner n = p.val) ∧ (x = [] → ∃ n : Ax, s.owner n = p.val)
  let busy := ∃ n ∈ l, (s.ax n).st ≠ .off
  match clause with
  | 0 => Calm s p ∧ all l ∧ busy
  | 1 => Calm s p ∧ all l ∧ ¬busy ∧ s.devRangeOk a v = false
  | 2 => Calm s p ∧ all l ∧ ¬busy ∧ s.devRangeOk a v = true
  | 3 => Calm s p ∧ ¬(all l)
  | 4 => Calm s p ∧ all e ∧ s.devRangeOk b v = false
  | 5 => Calm s p ∧ all e ∧ s.devRangeOk b v = true
  | 6 => Calm s p ∧ ¬(all e)
  | _ => False
theorem witness_EncoderRegisters_1 :
    hypEncoderRegisters 0 0 0 0 0 (devReset (ENC_CFG 0)) (inSt (dv up [(ENC_CFG_AXEN 0, 1), (ENC_CFG_AXIS 0, 0)]) .running) ∧
    hypEncoderRegisters 1 0 0 0 0 (-1) up ∧
    hypEncoderRegisters 2 0 0 0 0 (devReset (ENC_CFG 0)) up ∧
    hypEncoderRegisters 3 0 0 0 0 ((ENC_CFG_AXEN 0).put 0 1) (up.setOwner 0 7) ∧
    hypEncoderRegisters 4 0 0 0 0 (-1) up ∧
    hypEncoderRegisters 5 0 0 0 0 (devReset (ENC_CFG 0)) up := by
  refine ⟨?_, ?_, ?_, ?_, ?_, ?_⟩ <;> unfold hypEncoderRegisters <;> simp only [] <;> decide +kernel
theorem witness_EncoderRegisters_2 :
    hypEncoderRegisters 6 0 0 0 0 (devReset (ENC_CFG 0)) (up.setOwner 0 7) := by
  unfold hypEncoderRegisters; simp only [] <;> decide +kernel

/-- The hypotheses of the clauses of DeviceRegisters. -/
def hypDeviceRegisters (clause : Nat) (p : Port) (k : Port) (tag : W16) (a : W16) (v : W64) (s : State) : Prop :=
  let lv := reduceLevels ((HOST_PERM_AXIS k.val).get v) (s.dget (HOST_PERM_ACEIL k.val))
  let low := allAx.filter (fun n => s.owns k n && decide ((lv >>> (2 * n.val)) % 4 < 2))
  let moves := low.any (fun n => (s.ax n).st != .off && (s.ax n).st != .oasis)
  let three := allAx.any (fun n => ((HOST_PERM_AXIS k.val).get v >>> (2 * n.val)) % 4 == 3)
  let svc := Calm s p ∧ s.isSvc p = true
  let plain := Calm s p ∧ s.isSvc p = false
  let r := s.writeReg p (s.assignTag p tag).1 a.toNat v
  let status := match r.2 with | .done st => some st | _ => none
  let idle := (s.port 3).rx = [] ∧ (s.port 3).tx = []
  let sent := match s.bdivBy with
    | some (q, g) => (s.port q).cmds.all (fun c => c.tag != g) && (s.port q).ring.all (fun c => c.tag != g || c.sent)
    | none => true
  let due := idle ∧ sent = true
  match clause with
  | 0 => Calm s p ∧ 0x2800 ≤ a.toNat
  | 1 => Calm s p ∧ s.gen p = 2 ∧ 0x800 ≤ a.toNat ∧ a.toNat < 0xA00
  | 2 => ∃ st : Byte, Calm s p ∧ a.toNat < 0x2800 ∧ (¬(s.gen p = 2 ∧ 0x800 ≤ a.toNat ∧ a.toNat < 0xA00)) ∧ s.writePerm p a.toNat v = some st
  | 3 => ∃ st : Byte, Calm s p ∧ a.toNat < 0x2800 ∧ (¬(s.gen p = 2 ∧ 0x800 ≤ a.toNat ∧ a.toNat < 0xA00)) ∧ s.writePerm p a.toNat v = none ∧ s.regReady a.toNat v = true ∧ status = some st
  | 4 => svc ∧ 0xA00 ≤ a.toNat ∧ a.toNat < 0xB00 ∧ s.devRangeOk a.toNat v = true
  | 5 => svc ∧ 0xA00 ≤ a.toNat ∧ a.toNat < 0xB00 ∧ s.devRangeOk a.toNat v = false
  | 6 => svc ∧ s.func p fnClear = true
  | 7 => Calm s p ∧ (s.isSvc p = false ∨ s.func p fnClear = false)
  | 8 => svc ∧ moves = false ∧ three = false
  | 9 => svc ∧ moves = true
  | 10 => svc ∧ moves = false ∧ three = true
  | 11 => svc ∧ k ≠ p
  | 12 => svc ∧ k = p
  | 13 => plain ∧ k ≠ p
  | 14 => plain ∧ k = p
  | 15 => due
  | 16 => ¬due
  | _ => False
theorem witness_DeviceRegisters_1 :
    hypDeviceRegisters 0 0 1 1 0x2800 (devReset 0xA00) up ∧
    hypDeviceRegisters 1 0 1 1 0x800 (devReset 0xA00) (dv up [(HOST_PCFG_GEN 0, 2)]) ∧
    hypDeviceRegisters 2 0 1 1 0x800 (devReset 0xA00) (dv up [(HOST_PERM_FUNC 0, 0)]) ∧
    hypDeviceRegisters 3 0 1 1 0xA00 (devReset 0xA00) up ∧
    hypDeviceRegisters 4 0 1 1 0xA00 (devReset 0xA00) up ∧
    hypDeviceRegisters 5 0 1 1 0xA24 (devReset 0xA00) up := by
  refine ⟨?_, ?_, ?_, ?_, ?_, ?_⟩ <;> unfold hypDeviceRegisters <;> simp only [] <;> decide +kernel
theorem witness_DeviceRegisters_2 :
    hypDeviceRegisters 6 0 1 1 0xA00 (devReset 0xA00) up ∧
    hypDeviceRegisters 7 0 1 1 0xA00 (devReset 0xA00) (dv up [(HOST_PERM_FUNC 0, 0)]) ∧
    hypDeviceRegisters 8 0 1 1 0xA00 (devReset 0xA00) up ∧
    hypDeviceRegisters 9 0 1 1 0xA00 (devReset 0xA00) (inSt (dv up [(HOST_OWN_OWNER, 0o11111111), (HOST_PERM_AXIS 1, 0xAAAA)]) .running) ∧
    hypDeviceRegisters 10 0 1 1 0xA00 (-1) up ∧
    hypDeviceRegisters 11 0 1 1 0xA00 (devReset 0xA00) up := by
  refine ⟨?_, ?_, ?_, ?_, ?_, ?_⟩ <;> unfold hypDeviceRegisters <;> simp only [] <;> decide +kernel
theorem witness_DeviceRegisters_3 :
    hypDeviceRegisters 12 0 0 1 0xA00 (devReset 0xA00) up ∧
    hypDeviceRegisters 13 0 1 1 0xA00 (devReset 0xA00) (dv up [(HOST_PCFG_SVC 0, 0)]) ∧
    hypDeviceRegisters 14 0 0 1 0xA00 (devReset 0xA00) (dv up [(HOST_PCFG_SVC 0, 0)]) ∧
    hypDeviceRegisters 15 0 1 1 0xA00 (devReset 0xA00) up ∧
    hypDeviceRegisters 16 0 1 1 0xA00 (devReset 0xA00)
      { up with bdivBy := some (0, 5), ports := up.ports.set 0 { up.ports[0] with cmds := [cmd 5 .fuse true] } } := by
  refine ⟨?_, ?_, ?_, ?_, ?_⟩ <;> unfold hypDeviceRegisters <;> simp only [] <;> decide +kernel

/-- The hypotheses of the clauses of Ownership. -/
def hypOwnership (clause : Nat) (p : Port) (n : Ax) (s : State) : Prop :=
  let own := decide (2 ≤ s.permLevel p n)
  let rest := decide ((s.ax n).st = .off ∨ (s.ax n).st = .oasis)
  match clause with
  | 0 => Calm s p ∧ own = true ∧ ((s.owner n = 7 ∨ s.owner n = p.val))
  | 1 => Calm s p ∧ own = true ∧ s.owner n ≠ 7 ∧ s.owner n ≠ p.val
  | 2 => Calm s p ∧ own = false
  | 3 => Calm s p ∧ s.owner n = p.val ∧ rest = true
  | 4 => Calm s p ∧ s.owner n = p.val ∧ rest = false
  | 5 => Calm s p ∧ s.isSvc p = true ∧ own = true ∧ rest = true
  | 6 => Calm s p ∧ (s.isSvc p = false ∨ own = false ∨ rest = false)
  | _ => False
theorem witness_Ownership_1 :
    hypOwnership 0 0 0 up ∧
    hypOwnership 1 0 0 (dv up [(HOST_OWN_OWNER, 0o11111111)]) ∧
    hypOwnership 2 0 0 (dv up [(HOST_PERM_AXIS 0, 0x5555)]) ∧
    hypOwnership 3 0 0 up ∧
    hypOwnership 4 0 0 (inSt up .running) ∧
    hypOwnership 5 0 0 up := by
  refine ⟨?_, ?_, ?_, ?_, ?_, ?_⟩ <;> unfold hypOwnership <;> simp only [] <;> decide +kernel
theorem witness_Ownership_2 :
    hypOwnership 6 0 0 (dv up [(HOST_PERM_AXIS 0, 0x5555)]) := by
  unfold hypOwnership; simp only [] <;> decide +kernel

/-- The hypotheses of the clauses of StateCommands. -/
def hypStateCommands (clause : Nat) (p : Port) (n : Ax) (s : State) : Prop :=
  let a := s.ax n
  let busy := a.st = .arming ∨ a.st = .starting ∨ a.st = .running ∨ a.st = .catching
  let lacks := a.loaded = false ∨ a.engine = none
  let under := s.dget (BUS_STAT_UV2 (s.busOf n).val) = 1 ∨ s.dget THERM_STAT_SHUT = 1
  let on := ¬lacks ∧ ¬under
  let runs := s.ticks n = true
  match clause with
  | 0 => Calm s p ∧ s.owns p n = true ∧ lacks
  | 1 => Calm s p ∧ s.owns p n = true ∧ ¬lacks ∧ under
  | 2 => Calm s p ∧ s.owns p n = true ∧ on ∧ a.st = .oasis
  | 3 => Calm s p ∧ s.owns p n = true ∧ on ∧ busy
  | 4 => Calm s p ∧ s.owns p n = true ∧ on ∧ a.st = .disarm
  | 5 => Calm s p ∧ s.owns p n = true ∧ on ∧ a.st = .off ∧ ¬runs
  | 6 => Calm s p ∧ s.owns p n = true ∧ on ∧ a.st = .decel ∧ ¬runs
  | 7 => Calm s p ∧ s.owns p n = true ∧ on ∧ ((a.st = .off ∨ a.st = .decel)) ∧ runs
  | 8 => Calm s p ∧ s.owns p n = true ∧ a.st = .arming ∧ ¬runs
  | 9 => Calm s p ∧ s.owns p n = true ∧ busy ∧ a.st ≠ .arming ∧ ¬runs
  | 10 => Calm s p ∧ s.owns p n = true ∧ busy ∧ runs
  | 11 => Calm s p ∧ s.owns p n = true ∧ (a.st = .decel ∨ a.st = .disarm)
  | 12 => Calm s p ∧ s.owns p n = true ∧ (a.st = .off ∨ a.st = .oasis)
  | 13 => Calm s p ∧ s.owns p n = true ∧ a.st ≠ .oasis
  | 14 => Calm s p ∧ s.owns p n = true ∧ a.st = .oasis ∧ s.clearRefused n = true
  | 15 => Calm s p ∧ s.owns p n = true ∧ a.st = .oasis ∧ s.clearRefused n = false ∧ runs
  | 16 => Calm s p ∧ s.owns p n = true ∧ a.st = .oasis ∧ s.clearRefused n = false ∧ ¬runs
  | 17 => Calm s p ∧ s.owns p n = false
  | _ => False
theorem witness_StateCommands_1 :
    hypStateCommands 0 0 0 up ∧
    hypStateCommands 1 0 0 (dv loaded [(BUS_STAT_UV2 0, 1)]) ∧
    hypStateCommands 2 0 0 (inSt (loaded) .oasis) ∧
    hypStateCommands 3 0 0 (inSt (loaded) .arming) ∧
    hypStateCommands 4 0 0 (inSt (loaded) .disarm) ∧
    hypStateCommands 5 0 0 (inSt ((af up [(AX_WCET_WCET, 64)]).setIsl 0 islStopped) .off) := by
  refine ⟨?_, ?_, ?_, ?_, ?_, ?_⟩ <;> unfold hypStateCommands <;> simp only [] <;> decide +kernel
theorem witness_StateCommands_2 :
    hypStateCommands 6 0 0 (inSt ((af up [(AX_WCET_WCET, 64)]).setIsl 0 islStopped) .decel) ∧
    hypStateCommands 7 0 0 (inSt (loaded) .decel) ∧
    hypStateCommands 8 0 0 (inSt (up) .arming) ∧
    hypStateCommands 9 0 0 (inSt (up) .starting) ∧
    hypStateCommands 10 0 0 (inSt (loaded) .arming) ∧
    hypStateCommands 11 0 0 (inSt (loaded) .decel) := by
  refine ⟨?_, ?_, ?_, ?_, ?_, ?_⟩ <;> unfold hypStateCommands <;> simp only [] <;> decide +kernel
theorem witness_StateCommands_3 :
    hypStateCommands 12 0 0 up ∧
    hypStateCommands 13 0 0 up ∧
    hypStateCommands 14 0 0 (inSt ({ loaded with pins := { up.pins with safeLow := true } }) .oasis) ∧
    hypStateCommands 15 0 0 (inSt (loaded) .oasis) ∧
    hypStateCommands 16 0 0 (inSt (up) .oasis) ∧
    hypStateCommands 17 0 0 (up.setOwner 0 7) := by
  refine ⟨?_, ?_, ?_, ?_, ?_, ?_⟩ <;> unfold hypStateCommands <;> simp only [] <;> decide +kernel

/-- The hypotheses of the clauses of Mailbox. -/
def hypMailbox (clause : Nat) (p : Port) (n : Ax) (w : BitVec 4) (vs : List W64) (s : State) : Prop :=
  let free := Calm s p ∧ s.owns p n = true ∧ s.mbFree n = true
  let held := Calm s p ∧ s.owns p n = true ∧ s.mbFree n = false
  let fits := vs ≠ [] ∧ w.toNat + vs.length ≤ 16
  match clause with
  | 0 => free ∧ s.gen p = 3 ∧ fits
  | 1 => held ∧ s.gen p = 3 ∧ fits
  | 2 => Calm s p ∧ s.gen p = 3 ∧ ¬fits
  | 3 => s.gen p ≠ 3
  | 4 => Calm s p ∧ s.owns p n = false ∧ s.gen p = 3 ∧ fits
  | 5 => s.mbFree n = false
  | _ => False
theorem witness_Mailbox :
    hypMailbox 0 0 0 15 [0] up ∧
    hypMailbox 1 0 0 15 [0] (ax (fun a => { a with mb := { a.mb with copyUntil := 40000001 } })) ∧
    hypMailbox 2 0 0 15 [0, 0] up ∧
    hypMailbox 3 0 0 15 [0] (dv up [(HOST_PCFG_GEN 0, 2)]) ∧
    hypMailbox 4 0 0 15 [0] (up.setOwner 0 7) ∧
    hypMailbox 5 0 0 15 [0] (ax (fun a => { a with mb := { a.mb with copyUntil := 40000001 } })) := by
  refine ⟨?_, ?_, ?_, ?_, ?_, ?_⟩ <;> unfold hypMailbox <;> simp only [] <;> decide +kernel

/-- The hypotheses of the clauses of Debug. -/
def hypDebug (clause : Nat) (p : Port) (n : Ax) (e : Eng) (s : State) : Prop :=
  let a := s.ax n
  let m := s.dbgAxis
  let may := Calm s p ∧ s.func p fnDebug = true ∧ s.debugFuse n = true
  let mayNot := Calm s p ∧ (s.func p fnDebug = false ∨ s.debugFuse n = false)
  let stopped := a.run.running = true ∧ a.run.wait = none ∧ a.halted = false ∧ s.atBreakpoint n = true
  match clause with
  | 0 => may ∧ a.engine = some e ∧ a.halted = false ∧ a.run.wait = none
  | 1 => may ∧ a.halted = false ∧ (a.run.wait ≠ none ∨ a.engine = none)
  | 2 => may ∧ a.engine = some e ∧ a.halted = true ∧ a.run.running = true
  | 3 => may ∧ a.engine = some e ∧ a.halted = true ∧ a.run.running = false
  | 4 => may ∧ (a.halted = false ∨ a.engine = none)
  | 5 => may ∧ a.halted = true ∧ a.run.running = true ∧ a.run.wait = none
  | 6 => may ∧ (a.halted = false ∨ a.run.running = false ∨ a.run.wait ≠ none)
  | 7 => mayNot
  | 8 => Calm s p ∧ s.func p fnDebug = true ∧ s.debugFuse m = true ∧ (s.ax m).halted = true ∧ (s.ax m).engine = some e
  | 9 => Calm s p ∧ s.func p fnDebug = true ∧ s.debugFuse m = true ∧ ((s.ax m).halted = false ∨ (s.ax m).engine = none)
  | 10 => Calm s p ∧ (s.func p fnDebug = false ∨ s.debugFuse m = false)
  | 11 => a.engine = some e ∧ stopped
  | 12 => ¬stopped
  | _ => False
theorem witness_Debug_1 :
    hypDebug 0 0 0 0 (dv (tick) [(FUSE_FLD_VALUE 13, 0x100)]) ∧
    hypDebug 1 0 0 0 (dv (tick.modAx 0 (fun a => { a with run := { a.run with wait := some (1, 9, 40000000) } })) [(FUSE_FLD_VALUE
      13, 0x100)]) ∧
    hypDebug 2 0 0 0 (dv (tick.modAx 0 (fun a => { a with halted := true })) [(FUSE_FLD_VALUE 13, 0x100)]) ∧
    hypDebug 3 0 0 0 (dv ((loaded.modAx 0 (fun a => { a with halted := true }))) [(FUSE_FLD_VALUE 13, 0x100)]) ∧
    hypDebug 4 0 0 0 (dv (tick) [(FUSE_FLD_VALUE 13, 0x100)]) ∧
    hypDebug 5 0 0 0 (dv (tick.modAx 0 (fun a => { a with halted := true })) [(FUSE_FLD_VALUE 13, 0x100)]) := by
  refine ⟨?_, ?_, ?_, ?_, ?_, ?_⟩ <;> unfold hypDebug <;> simp only [] <;> decide +kernel
theorem witness_Debug_2 :
    hypDebug 6 0 0 0 (dv (tick) [(FUSE_FLD_VALUE 13, 0x100)]) ∧
    hypDebug 7 0 0 0 (dv tick [(ENGINE_BKPT_EN 0, 1), (ENGINE_BKPT_AXIS 0, 0), (ENGINE_BKPT_PC 0, 0)]) ∧
    hypDebug 8 0 0 0 (dv (tick.modAx 0 (fun a => { a with halted := true })) [(FUSE_FLD_VALUE 13, 0x100)]) ∧
    hypDebug 9 0 0 0 (dv (tick) [(FUSE_FLD_VALUE 13, 0x100)]) ∧
    hypDebug 10 0 0 0 (dv tick [(ENGINE_BKPT_EN 0, 1), (ENGINE_BKPT_AXIS 0, 0), (ENGINE_BKPT_PC 0, 0)]) ∧
    hypDebug 11 0 0 0 (dv tick [(ENGINE_BKPT_EN 0, 1), (ENGINE_BKPT_AXIS 0, 0), (ENGINE_BKPT_PC 0, 0)]) := by
  refine ⟨?_, ?_, ?_, ?_, ?_, ?_⟩ <;> unfold hypDebug <;> simp only [] <;> decide +kernel
theorem witness_Debug_3 :
    hypDebug 12 0 0 0 (dv (tick) [(FUSE_FLD_VALUE 13, 0x100)]) := by
  unfold hypDebug; simp only [] <;> decide +kernel

/-- The hypotheses of the clauses of RefusalsAndTimeouts. -/
def hypRefusalsAndTimeouts (clause : Nat) (p : Port) (tag : W16) (n : Ax) (c : Cmd) (s : State) : Prop :=
  let q := s.port p
  let heard := s.portUp p = true ∧ s.pins.warning = false ∧ s.pins.standby = none
  let fresh := s.gen p ≠ 3 ∨ s.tagUsed p tag = false
  let due := fun (x : Cmd) => x.started = false ∧ x.at_ + s.dget (HOST_PCFG_SGL p.val) * usTicks ≤ s.clk ∧ s.pool.restart = false
  match clause with
  | 0 => s.portUp p = false
  | 1 => s.portUp p = true ∧ s.pins.warning = true
  | 2 => s.portUp p = true ∧ s.pins.warning = false ∧ s.pins.standby ≠ none
  | 3 => heard ∧ ¬fresh
  | 4 => heard ∧ fresh ∧ s.owns p n = false
  | 5 => heard ∧ fresh ∧ s.owns p n = true ∧ 16 ≤ q.slots
  | 6 => q.cmds = [c] ∧ c.tag = tag ∧ due c ∧ ((∀ k : Port, k ≠ p → (s.port k).cmds = [])) ∧ ((∀ m : Ax, s.aget m AX_MBCTL_PEND = 0))
  | 7 => q.cmds.find? (fun x => x.tag == tag) = some c ∧ ¬due c
  | 8 => q.cmds.all (fun x => x.tag != tag) = true
  | _ => False
theorem witness_RefusalsAndTimeouts_1 :
    hypRefusalsAndTimeouts 0 0 7 0 (cmd 7 .fuse false) State.reset ∧
    hypRefusalsAndTimeouts 1 0 7 0 (cmd 7 .fuse false) { up with pins := { up.pins with warning := true } } ∧
    hypRefusalsAndTimeouts 2 0 7 0 (cmd 7 .fuse false) { up with pins := { up.pins with standby := some (0, 9) } } ∧
    hypRefusalsAndTimeouts 3 0 1 0 { cmd 1 (.post 0) true with at_ := 40000000 }
      (serve 0 ({ cmd 1 (.post 0) true with at_ := 40000000 }) (dv up [(HOST_PCFG_SGL 0, 10)])) ∧
    hypRefusalsAndTimeouts 4 0 7 0 (cmd 7 .fuse false) (dv up [(HOST_OWN_OWNER, 1)]) ∧
    hypRefusalsAndTimeouts 5 0 7 0 (cmd 7 .fuse false) (pt up 0 (fun q => { q with cmds := List.replicate 16 (cmd 1 .fuse true) })) := by
  refine ⟨?_, ?_, ?_, ?_, ?_, ?_⟩ <;> unfold hypRefusalsAndTimeouts <;> simp only [] <;> decide +kernel
theorem witness_RefusalsAndTimeouts_2 :
    hypRefusalsAndTimeouts 6 0 7 0 (cmd 7 .fuse false) (pt up 0 (fun q => { q with cmds := [cmd 7 .fuse false] })) ∧
    hypRefusalsAndTimeouts 7 0 1 0 { cmd 1 (.post 0) true with at_ := 40000000 }
      (serve 0 ({ cmd 1 (.post 0) true with at_ := 40000000 }) (dv up [(HOST_PCFG_SGL 0, 10)])) ∧
    hypRefusalsAndTimeouts 8 0 7 0 { cmd 1 (.post 0) true with at_ := 40000000 }
      (serve 0 ({ cmd 1 (.post 0) true with at_ := 40000000 }) up) := by
  refine ⟨?_, ?_, ?_⟩ <;> unfold hypRefusalsAndTimeouts <;> simp only [] <;> decide +kernel

/-- The hypotheses of the clauses of G1Rows. -/
def hypG1Rows (clause : Nat) (w : BitVec 4) (v : W16) (a : BitVec 7) (i : Instr) (s : State) : Prop :=
  let q := s.port 0
  let n := s.g1Axis
  let reg := s.extReg 0
  let slice := s.extSlice 0
  let x := s.sliceValue 0 reg.toNat slice v
  let r := s.writeReg 0 q.nextTag reg.toNat x
  let perm := s.writePerm 0 reg.toNat x
  let out := fun (b : Nat) => ((s.ax n).dword (outWord (s.ax n).mb.outPage b) >>> 16) &&& 0xFFFF
  let value : Option W64 :=
    if a = 0x00 then some (s.readAx n AX_STATE &&& 0xFFFF)
    else if a = 0x02 then some ((s.readAx n AX_GDSTAT >>> 16) &&& 0xFFFF)
    else if 0x20 ≤ a.toNat ∧ a.toNat < 0x40 then some (out (a.toNat - 0x20))
    else if a = 0x70 then some (q.exta.setWidth 64)
    else if a = 0x71 then some ((s.readReg (some 0) reg.toNat >>> (16 * slice.toNat)) &&& 0xFFFF)
    else if a = 0x7D then some (BitVec.ofNat 64 n.val)
    else if a = 0x7E then some 0x0864
    else if a = 0x7F then none
    else some 0
  let ready := a ≠ 0x71 ∨ s.islOk n (reg.toNat - (0x1000 + 0x200 * n.val)) = true
  let up := s.gen 0 = 1 ∧ s.portUp 0 = true
  let calm := s.gen 0 = 1 ∧ Calm s 0
  match clause with
  | 0 => ¬up ∧ i ∈ [Instr.g1Nop, .exta v, .extd v, .g1MailboxWrite w v, .g1WindowRead a]
  | 1 => up ∧ q.inl ≠ []
  | 2 => up ∧ q.inl = [] ∧ q.ring = []
  | 3 => up ∧ q.inl = [] ∧ q.ring ≠ []
  | 4 => calm ∧ s.owns 0 n = false
  | 5 => calm ∧ perm ≠ none
  | 6 => calm ∧ perm = none ∧ (s.regReady reg.toNat x = false ∨ s.mayDrain = true) ∧ s.cycleEnd = false
  | 7 => ∃ st : Fin 15, calm ∧ perm = none ∧ s.regReady reg.toNat x = true ∧ s.mayDrain = false ∧ r.2 = .done (BitVec.ofNat 8 st.val)
  | 8 => calm ∧ s.owns 0 n = true ∧ s.mbFree n = true
  | 9 => calm ∧ s.owns 0 n = true ∧ s.mbFree n = false
  | 10 => calm ∧ s.permLevel 0 n ≠ 0 ∧ ready ∧ value ≠ none
  | 11 => calm ∧ s.permLevel 0 n ≠ 0 ∧ ¬ready
  | 12 => calm ∧ s.permLevel 0 n = 0 ∧ a ≠ 0x7F
  | 13 => up ∧ a = 0x7F
  | _ => False
theorem witness_G1Rows_1 :
    hypG1Rows 0 0 0 0 .g1Nop (dv up [(HOST_PCFG_GEN 0, 2)]) ∧
    hypG1Rows 1 0 0 0 .g1Nop (pt (dv up [(HOST_PCFG_GEN 0, 1)]) 0 (fun q => { q with inl := [comp 3] })) ∧
    hypG1Rows 2 0 0 0 .g1Nop (dv up [(HOST_PCFG_GEN 0, 1)]) ∧
    hypG1Rows 3 0 0 0 .g1Nop (pt (dv up [(HOST_PCFG_GEN 0, 1)]) 0 (fun q => { q with ring := [comp 3] })) ∧
    hypG1Rows 4 0 0 0 .g1Nop ((dv up [(HOST_PCFG_GEN 0, 1)]).setOwner 0 7) ∧
    hypG1Rows 5 0 0 0 .g1Nop ((dv up [(HOST_PCFG_GEN 0, 1)]).setOwner 0 7) := by
  refine ⟨?_, ?_, ?_, ?_, ?_, ?_⟩ <;> unfold hypG1Rows <;> simp only [] <;> decide +kernel
theorem witness_G1Rows_2 :
    hypG1Rows 6 0 0 0 .g1Nop ((dv up [(HOST_PCFG_GEN 0, 1)]).modAx 1 (fun a => { a with run := { a.run with running := true } })) ∧
    hypG1Rows 7 0 0 0 .g1Nop (dv up [(HOST_PCFG_GEN 0, 1)]) ∧
    hypG1Rows 8 0 0 0 .g1Nop (dv up [(HOST_PCFG_GEN 0, 1)]) ∧
    hypG1Rows 9 0 0 0 .g1Nop ((dv up [(HOST_PCFG_GEN 0, 1)]).modAx 0 (fun a => { a with mb := { a.mb with copyUntil := 50000000 } })) ∧
    hypG1Rows 10 0 0 0 .g1Nop (dv up [(HOST_PCFG_GEN 0, 1)]) ∧
    hypG1Rows 11 0 0 0x71 .g1Nop (pt ((dv up [(HOST_PCFG_GEN 0, 1)]).setIsl 0 islStopped) 0 (fun q => { q with exta := 0x045 })) := by
  refine ⟨?_, ?_, ?_, ?_, ?_, ?_⟩ <;> unfold hypG1Rows <;> simp only [] <;> decide +kernel
theorem witness_G1Rows_3 :
    hypG1Rows 12 0 0 0 .g1Nop (dv (dv up [(HOST_PCFG_GEN 0, 1)]) [(HOST_PERM_AXIS 0, 0)]) ∧
    hypG1Rows 13 0 0 0x7F .g1Nop (dv up [(HOST_PCFG_GEN 0, 1)]) := by
  refine ⟨?_, ?_⟩ <;> unfold hypG1Rows <;> simp only [] <;> decide +kernel

/-- The hypotheses of the clauses of G2Rows. -/
def hypG2Rows (clause : Nat) (p : Port) (n : Ax) (k : BitVec 2) (v : W16) (part : BitVec 2) (rep : Bool) (i : Instr) (s : State) : Prop :=
  let q := s.port p
  let a := q.addr.toNat
  let rd : Op := .rd q.addr 1 (some k)
  let wr : Op := .wrSlice q.addr k v
  let x := s.sliceValue p a k v
  let r := s.writeReg p q.nextTag a x
  let up := s.gen p = 2 ∧ s.portUp p = true
  let calm := s.gen p = 2 ∧ Calm s p
  let can := p = 2 ∧ up ∧ s.dget HOST_CANSTAT_STATE ≠ 2
  let inlFirst := ∀ c ∈ q.inl.head?, ∀ y ∈ q.ring.head?, later y.cseq c.cseq = false
  match clause with
  | 0 => ¬up ∧ i ∈ [Instr.poll p rep, .addr p v, .mbptr p n v, .mbwr p n v, .rd p k, .wr p k v, .ntf p part, .g2CanCompletionSent p]
  | 1 => up ∧ p.val < 2
  | 2 => up ∧ 2 ≤ p.val ∧ rep = true ∧ q.sentFrames ≠ []
  | 3 => up ∧ 2 ≤ p.val ∧ (rep = false ∨ q.sentFrames = [])
  | 4 => calm ∧ s.arrival p 0 rd = none ∧ s.readNow p rd ≠ none
  | 5 => calm ∧ s.arrival p 0 rd = none ∧ s.readNow p rd = none
  | 6 => calm ∧ s.arrival p 0 rd ≠ none
  | 7 => ∃ st : Fin 15, calm ∧ s.arrival p 0 wr = none ∧ s.regReady a x = true ∧ s.mayDrain = false ∧ r.2 = .done (BitVec.ofNat 8 st.val)
  | 8 => calm ∧ s.arrival p 0 wr = none ∧ (s.regReady a x = false ∨ s.mayDrain = true) ∧ s.cycleEnd = false
  | 9 => calm ∧ s.arrival p 0 wr ≠ none
  | 10 => calm ∧ s.owns p n = true ∧ s.mbFree n = true
  | 11 => calm ∧ s.owns p n = true ∧ s.mbFree n = false
  | 12 => calm ∧ s.owns p n = false
  | 13 => can ∧ q.again ≠ none
  | 14 => can ∧ q.again = none ∧ q.inl ≠ [] ∧ inlFirst
  | 15 => can ∧ q.again = none ∧ q.ring ≠ [] ∧ (q.inl = [] ∨ ¬inlFirst)
  | 16 => (¬can ∨ (q.again = none ∧ q.inl = [] ∧ q.ring = []))
  | _ => False
theorem witness_G2Rows_1 :
    hypG2Rows 0 0 0 0 0 0 false (.poll 0 false) (pt (dv up [(HOST_PCFG_GEN 2, 2)]) 2 (fun q => { q with inl := [comp 3] })) ∧
    hypG2Rows 1 0 0 0 0 0 true (.poll 0 false) (dv up [(HOST_PCFG_GEN 0, 2)]) ∧
    hypG2Rows 2 2 0 0 0 0 true (.poll 0 false)
      (pt (dv up [(HOST_PCFG_GEN 2,
      2)]) 2 (fun q => { q with sentFrames := [{ ident := 0, ext := false, fd := false, brs := false, data := [1, 2, 3, 4] }] })) ∧
    hypG2Rows 3 2 0 0 0 0 true (.poll 0 false) (pt (dv up [(HOST_PCFG_GEN 2, 2)]) 2 (fun q => { q with inl := [comp 3] })) ∧
    hypG2Rows 4 0 0 0 0 0 true (.poll 0 false) (dv up [(HOST_PCFG_GEN 0, 2)]) ∧
    hypG2Rows 5 0 0 0 0 0 true (.poll 0 false)
      (pt ((dv up [(HOST_PCFG_GEN 0, 2)]).setIsl 0 islStopped) 0 (fun q => { q with addr := 0x1045 })) := by
  refine ⟨?_, ?_, ?_, ?_, ?_, ?_⟩ <;> unfold hypG2Rows <;> simp only [] <;> decide +kernel
theorem witness_G2Rows_2 :
    hypG2Rows 6 0 0 0 0 0 true (.poll 0 false) (pt (dv up [(HOST_PCFG_GEN 0, 2)]) 0 (fun q => { q with addr := 0x800 })) ∧
    hypG2Rows 7 0 0 0 0 0 true (.poll 0 false) (dv up [(HOST_PCFG_GEN 0, 2)]) ∧
    hypG2Rows 8 0 0 0 0 0 true (.poll 0 false)
      (pt ((dv up [(HOST_PCFG_GEN 0,
      2)]).modAx 1 (fun a => { a with run := { a.run with running := true } })) 0 (fun q => { q with addr := 0x10A0 })) ∧
    hypG2Rows 9 2 0 0 0 0 true (.poll 0 false) (pt (dv up [(HOST_PCFG_GEN 2, 2)]) 2 (fun q => { q with inl := [comp 3] })) ∧
    hypG2Rows 10 0 0 0 0 0 true (.poll 0 false) (dv up [(HOST_PCFG_GEN 0, 2)]) ∧
    hypG2Rows 11 0 0 0 0 0 true (.poll 0 false)
      ((dv up [(HOST_PCFG_GEN 0, 2)]).modAx 0 (fun a => { a with mb := { a.mb with copyUntil := 50000000 } })) := by
  refine ⟨?_, ?_, ?_, ?_, ?_, ?_⟩ <;> unfold hypG2Rows <;> simp only [] <;> decide +kernel
theorem witness_G2Rows_3 :
    hypG2Rows 12 2 0 0 0 0 true (.poll 0 false) (pt (dv up [(HOST_PCFG_GEN 2, 2)]) 2 (fun q => { q with inl := [comp 3] })) ∧
    hypG2Rows 13 2 0 0 0 0 true (.poll 0 false) (pt (dv up [(HOST_PCFG_GEN 2, 2)]) 2 (fun q => { q with again := some (5, none) })) ∧
    hypG2Rows 14 2 0 0 0 0 true (.poll 0 false) (pt (dv up [(HOST_PCFG_GEN 2, 2)]) 2 (fun q => { q with inl := [comp 3] })) ∧
    hypG2Rows 15 2 0 0 0 0 true (.poll 0 false) (pt (dv up [(HOST_PCFG_GEN 2, 2)]) 2 (fun q => { q with ring := [comp 3] })) ∧
    hypG2Rows 16 0 0 0 0 0 true (.poll 0 false) (dv up [(HOST_PCFG_GEN 0, 2)]) := by
  refine ⟨?_, ?_, ?_, ?_, ?_⟩ <;> unfold hypG2Rows <;> simp only [] <;> decide +kernel

/-- The hypotheses of the clauses of G3Rows. -/
def hypG3Rows (clause : Nat) (p : Port) (tag : W16) (a : W16) (cseq : W16) (nseq : W16) (crw : Bool) (nrw : Bool) (cnt : BitVec 6) (vs : List W64) (v : W64) (w : W64) (c : Completion) (l1 : List Completion) (i : Instr) (s : State) : Prop :=
  let rd : Op := .rd a (cnt.toNat + 1) none
  let wr : Op := .wr a vs
  let r := s.writeRegs p tag none a.toNat vs
  let ended := match r.2 with | .fin st ws => some (st, vs.length - ws.length) | _ => none
  let up := s.gen p = 3 ∧ s.portUp p = true
  let calm := s.gen p = 3 ∧ Calm s p
  let heard := up ∧ s.pins.warning = false ∧ s.pins.standby = none
  let size := vs ≠ [] ∧ vs.length ≤ 64
  match clause with
  | 0 => ¬up ∧ i ∈ [Instr.read p tag a cnt, .write p tag a vs, .ping p tag, .linkAck p cseq nseq crw nrw, .packetDiscard p]
  | 1 => calm ∧ s.arrival p tag rd = none ∧ s.readNow p rd ≠ none
  | 2 => calm ∧ s.arrival p tag rd = none ∧ s.readNow p rd = none
  | 3 => calm ∧ s.arrival p tag rd ≠ none
  | 4 => heard ∧ ¬size
  | 5 => calm ∧ size ∧ s.arrival p tag wr ≠ none
  | 6 => calm ∧ size ∧ s.arrival p tag wr = none ∧ ended ≠ none
  | 7 => calm ∧ s.func p fnFuse = true ∧ vs ≠ [] ∧ vs.length ≤ 6
  | 8 => calm ∧ s.isSvc p = true ∧ s.devRangeOk 0xA24 v = true ∧ s.devRangeOk 0xA25 w = false
  | 9 => calm ∧ s.isSvc p = true ∧ s.devRangeOk 0xA24 v = true ∧ s.devRangeOk 0xA25 w = true
  | 10 => heard ∧ s.tagUsed p tag = false
  | 11 => heard ∧ s.tagUsed p tag = true
  | 12 => up ∧ NoCommands s ∧ ((∀ n : Ax, s.aget n AX_MBCTL_PEND = 0))
  | 13 => l1.all (fun y => y.sent && y.cseq != c.cseq) = true ∧ c.sent = true
  | 14 => l1.all (fun y => y.cseq != cseq) = true
  | _ => False
theorem witness_G3Rows_1 :
    hypG3Rows 0 0 7 0xA24 1 1 true true 1 [0] (devReset 0xA24) (devReset 0xA25) (comp 3) [comp 2] (.ping 0 7)
      (dv up [(HOST_PCFG_GEN 0, 2)]) ∧
    hypG3Rows 1 0 7 0xA24 1 1 true true 1 [0] (devReset 0xA24) (devReset 0xA25) (comp 3) [comp 2] (.ping 0 1) up ∧
    hypG3Rows 2 0 7 0x1045 1 1 true true 1 [0] (devReset 0xA24) (devReset 0xA25) (comp 3) [comp 2] (.ping 0 1) (up.setIsl 0 islStopped) ∧
    hypG3Rows 3 0 7 0x2801 1 1 true true 1 [0] (devReset 0xA24) (devReset 0xA25) (comp 3) [comp 2] (.ping 0 1) up ∧
    hypG3Rows 4 0 7 0xA24 1 1 true true 1 [] (devReset 0xA24) (devReset 0xA25) (comp 3) [comp 2] (.ping 0 1) up ∧
    hypG3Rows 5 0 7 0x2801 1 1 true true 1 [0] (devReset 0xA24) (devReset 0xA25) (comp 3) [comp 2] (.ping 0 1) up := by
  refine ⟨?_, ?_, ?_, ?_, ?_, ?_⟩ <;> unfold hypG3Rows <;> simp only [] <;> decide +kernel
theorem witness_G3Rows_2 :
    hypG3Rows 6 0 7 0xA24 1 1 true true 1 [0] (devReset 0xA24) (devReset 0xA25) (comp 3) [comp 2] (.ping 0 1) up ∧
    hypG3Rows 7 0 7 0xA24 1 1 true true 1 [0] (devReset 0xA24) (devReset 0xA25) (comp 3) [comp 2] (.ping 0 1) up ∧
    hypG3Rows 8 0 7 0xA24 1 1 true true 1 [0] (devReset 0xA24) (-1) (comp 3) [comp 2] (.ping 0 1) up ∧
    hypG3Rows 9 0 7 0xA24 1 1 true true 1 [0] (devReset 0xA24) (devReset 0xA25) (comp 3) [comp 2] (.ping 0 1) up ∧
    hypG3Rows 10 0 7 0xA24 1 1 true true 1 [0] (devReset 0xA24) (devReset 0xA25) (comp 3) [comp 2] (.ping 0 1) up ∧
    hypG3Rows 11 0 7 0xA24 1 1 true true 1 [0] (devReset 0xA24) (devReset 0xA25) (comp 3) [comp 2] (.ping 0 1)
      (serve 0 (cmd 7 .fuse true) up) := by
  refine ⟨?_, ?_, ?_, ?_, ?_, ?_⟩ <;> unfold hypG3Rows <;> simp only [] <;> decide +kernel
theorem witness_G3Rows_3 :
    hypG3Rows 12 0 7 0xA24 1 1 true true 1 [0] (devReset 0xA24) (devReset 0xA25) (comp 3) [comp 2] (.ping 0 1) up ∧
    hypG3Rows 13 0 7 0xA24 1 1 true true 1 [0] (devReset 0xA24) (devReset 0xA25) (comp 3) [comp 2] (.ping 0 1) up ∧
    hypG3Rows 14 0 7 0xA24 1 1 true true 1 [0] (devReset 0xA24) (devReset 0xA25) (comp 3) [comp 2] (.ping 0 1) up := by
  refine ⟨?_, ?_, ?_⟩ <;> unfold hypG3Rows <;> simp only [] <;> decide +kernel

/-- The hypotheses of the clauses of Frames. -/
def hypFrames (clause : Nat) (p : Port) (tag : W16) (bits : List Bool) (ident : BitVec 29) (ext : Bool) (fd : Bool) (remote : Bool) (data : List Byte) (s : State) : Prop :=
  let q := s.port p
  let g1 := s.gen 0 = 1 ∧ s.portUp 0 = true
  let g2 := p.val < 2 ∧ s.gen p = 2 ∧ s.portUp p = true
  let g3 := p.val < 2 ∧ s.gen p = 3 ∧ s.portUp p = true
  let can2 := s.canTakes ident ext fd false = true ∧ s.gen 2 = 2
  let can3 := s.canTakes ident ext fd false = true ∧ s.gen 2 = 3
  let counts := s.dget (HOST_PCFG_EN 2) = 1 ∧ s.dget HOST_CANSTAT_STATE ≠ 2
  let recovers := s.dget HOST_CANSTAT_STATE = 2 ∧ s.dget HOST_CANBT_ABOR = 1 ∧ s.dget (HOST_PCFG_EN 2) = 1
  match clause with
  | 0 => (2 ≤ p.val ∨ s.portUp p = false)
  | 1 => g1 ∧ bits.length ≠ 24
  | 2 => g2 ∧ bits.length ≠ 32
  | 3 => g2 ∧ bits.length = 32 ∧ g2Word (bitsNat bits / 256) ≠ BitVec.ofNat 32 (bitsNat bits)
  | 4 => g3 ∧ s.pins.warning = false ∧ s.pins.standby = none ∧ s.tagUsed p tag = false ∧ q.rx = [] ∧ q.skip = 0
  | 5 => g3 ∧ bits.length < 72 ∧ bits ≠ []
  | 6 => s.canTakes ident ext fd remote = false
  | 7 => can2 ∧ data.length ≠ 4
  | 8 => can3 ∧ fd = true ∧ (s.port 2).rx = [] ∧ (s.port 2).rxSeg = none ∧ (s.port 2).skip = 0
  | 9 => can3 ∧ fd = false
  | 10 => counts
  | 11 => ¬counts
  | 12 => recovers
  | 13 => ¬recovers
  | _ => False
theorem witness_Frames_1 :
    hypFrames 0 2 1 [true] (BitVec.ofNat 29 (up.dget HOST_CANID_RXID)) (decide (up.dget HOST_CANID_XTD = 1)) false false []
      (dv up [(HOST_PCFG_GEN 0, 2)]) ∧
    hypFrames 1 0 1 [true] (BitVec.ofNat 29 (up.dget HOST_CANID_RXID)) (decide (up.dget HOST_CANID_XTD = 1)) false false []
      (dv up [(HOST_PCFG_GEN 0, 1)]) ∧
    hypFrames 2 0 1 [true] (BitVec.ofNat 29 (up.dget HOST_CANID_RXID)) (decide (up.dget HOST_CANID_XTD = 1)) false false []
      (dv up [(HOST_PCFG_GEN 0, 2)]) ∧
    hypFrames 3 0 1 (List.replicate 32 true) (BitVec.ofNat 29 (up.dget HOST_CANID_RXID)) (decide (up.dget HOST_CANID_XTD = 1)) false
      false [] (dv up [(HOST_PCFG_GEN 0, 2)]) ∧
    hypFrames 4 0 1 [true] (BitVec.ofNat 29 (up.dget HOST_CANID_RXID)) (decide (up.dget HOST_CANID_XTD = 1)) false false []
      (dv up [(HOST_CANSTAT_STATE, 2), (HOST_CANBT_ABOR, 1)]) ∧
    hypFrames 5 0 1 [true] (BitVec.ofNat 29 (up.dget HOST_CANID_RXID)) (decide (up.dget HOST_CANID_XTD = 1)) false false []
      (dv up [(HOST_CANSTAT_STATE, 2), (HOST_CANBT_ABOR, 1)]) := by
  refine ⟨?_, ?_, ?_, ?_, ?_, ?_⟩ <;> unfold hypFrames <;> simp only [] <;> decide +kernel
theorem witness_Frames_2 :
    hypFrames 6 0 1 [true] (BitVec.ofNat 29 (up.dget HOST_CANID_RXID)) (decide (up.dget HOST_CANID_XTD = 1)) false false []
      (dv up [(HOST_CANSTAT_STATE, 2), (HOST_CANBT_ABOR, 1)]) ∧
    hypFrames 7 0 1 [true] (BitVec.ofNat 29 (up.dget HOST_CANID_RXID)) (decide (up.dget HOST_CANID_XTD = 1)) false false []
      (dv up [(HOST_PCFG_GEN 2, 2)]) ∧
    hypFrames 8 0 1 [true] (BitVec.ofNat 29 (up.dget HOST_CANID_RXID)) (decide (up.dget HOST_CANID_XTD = 1)) true false []
      (dv up [(HOST_PCFG_GEN 0, 2)]) ∧
    hypFrames 9 0 1 [true] (BitVec.ofNat 29 (up.dget HOST_CANID_RXID)) (decide (up.dget HOST_CANID_XTD = 1)) false false []
      (dv up [(HOST_PCFG_GEN 0, 2)]) ∧
    hypFrames 10 0 1 [true] (BitVec.ofNat 29 (up.dget HOST_CANID_RXID)) (decide (up.dget HOST_CANID_XTD = 1)) false false []
      (dv up [(HOST_PCFG_GEN 0, 2)]) ∧
    hypFrames 11 0 1 [true] (BitVec.ofNat 29 (up.dget HOST_CANID_RXID)) (decide (up.dget HOST_CANID_XTD = 1)) false false []
      (dv up [(HOST_CANSTAT_STATE, 2), (HOST_CANBT_ABOR, 1)]) := by
  refine ⟨?_, ?_, ?_, ?_, ?_, ?_⟩ <;> unfold hypFrames <;> simp only [] <;> decide +kernel
theorem witness_Frames_3 :
    hypFrames 12 0 1 [true] (BitVec.ofNat 29 (up.dget HOST_CANID_RXID)) (decide (up.dget HOST_CANID_XTD = 1)) false false []
      (dv up [(HOST_CANSTAT_STATE, 2), (HOST_CANBT_ABOR, 1)]) ∧
    hypFrames 13 0 1 [true] (BitVec.ofNat 29 (up.dget HOST_CANID_RXID)) (decide (up.dget HOST_CANID_XTD = 1)) false false []
      (dv up [(HOST_PCFG_GEN 0, 2)]) := by
  refine ⟨?_, ?_⟩ <;> unfold hypFrames <;> simp only [] <;> decide +kernel

/-- The hypotheses of the clauses of CaravanLoads. -/
def hypCaravanLoads (clause : Nat) (p : Port) (tag : W16) (chunk : W16) (mask : Byte) (store : Bool) (n : Ax) (ws : List W64) (c : Cmd) (l : Load) (z : Stream) (b : Fin 2) (x : Image) (y : Section) (i : Instr) (s : State) : Prop :=
  let fits := 1 ≤ ws.length ∧ ws.length ≤ 1023 ∧ l.words.length + ws.length ≤ 131072
  let r := s.applyImage l.words l.mask 1
  let bank := s.store.banks[b].image.getD []
  let loader := s.func p fnLoad = true ∧ (store = true → s.func p fnCistern = true)
  let own := (maskAxes mask).all (fun m => s.owns p m) = true
  let calm := s.gen p = 3 ∧ Calm s p
  let idle := calm ∧ s.load = none
  let mine := s.gen p = 3 ∧ Serving s p c ∧ s.load = some l ∧ l.port = p ∧ l.tag = c.tag ∧ l.waiting = false ∧ s.stream = none
  let inTime := s.clk ≤ l.last + partTicks
  match clause with
  | 0 => s.gen p ≠ 3 ∧ i ∈ [Instr.loadBegin p tag mask store, .loadData p tag chunk ws, .loadEnd p tag, .applyBoot p tag mask]
  | 1 => idle ∧ loader ∧ own ∧ store = false
  | 2 => idle ∧ loader ∧ own ∧ store = true ∧ s.cis = cisReady ∧ s.admHeld p = false
  | 3 => idle ∧ loader ∧ own ∧ store = true ∧ s.cis = cisReady ∧ s.admHeld p = true
  | 4 => idle ∧ loader ∧ own ∧ store = true ∧ (s.cis = cisMounting ∨ s.cis = cisFormatting)
  | 5 => idle ∧ loader ∧ own ∧ store = true ∧ (s.cis = cisNone ∨ s.cis = cisFailed ∨ s.cis = cisBlank ∨ s.cis = cisPowerfail)
  | 6 => calm ∧ loader ∧ own ∧ s.load = some l ∧ l.port ≠ p
  | 7 => mine ∧ loader ∧ own ∧ tag ≠ c.tag ∧ s.pins.warning = false ∧ s.pins.standby = none ∧ store = false ∧ ((∀ j ∈ s.pending, s.requests j = []))
  | 8 => idle ∧ ¬loader
  | 9 => idle ∧ loader ∧ ¬own
  | 10 => idle ∧ s.func p fnLoad = false
  | 11 => idle ∧ s.func p fnLoad = true ∧ ¬own
  | 12 => idle ∧ s.func p fnLoad = true ∧ own ∧ s.currentBank = none
  | 13 => calm ∧ s.func p fnLoad = true ∧ own ∧ s.load = some l ∧ l.port ≠ p
  | 14 => idle ∧ s.func p fnLoad = true ∧ own ∧ s.currentBank = some b ∧ s.checkForm bank ≠ stOk
  | 15 => idle ∧ s.func p fnLoad = true ∧ own ∧ s.currentBank = some b ∧ s.checkForm bank = stOk
  | 16 => mine ∧ inTime ∧ chunk.toNat = l.next % 65536 ∧ fits
  | 17 => mine ∧ inTime ∧ (chunk.toNat ≠ l.next % 65536 ∨ ¬fits)
  | 18 => mine ∧ ¬inTime
  | 19 => s.gen p = 3 ∧ Serving s p c ∧ s.load = none ∧ s.stream = some z ∧ z.port = p ∧ z.tag = c.tag ∧ z.waiting = false ∧ z.last + partTicks < s.clk
  | 20 => mine ∧ inTime ∧ s.checkForm l.words ≠ stOk
  | 21 => mine ∧ inTime ∧ s.checkForm l.words = stOk ∧ l.store = true
  | 22 => mine ∧ inTime ∧ s.checkForm l.words = stOk ∧ l.store = false ∧ r.2 = stOk ∧ l.mask.getLsbD n.val = true ∧ parseImage l.words = some x ∧ x.secOf n = some y
  | 23 => s.gen p = 3 ∧ Serving s p c ∧ s.load = none ∧ s.stream = none ∧ s.pins.warning = false ∧ s.pins.standby = none
  | _ => False
theorem witness_CaravanLoads_1 :
    hypCaravanLoads 0 0 7 0 1 true 0 [0] (cmd 7 (.load 1 false) true)
      { port := 0, tag := 7, mask := 1, store := false, next := 0, words := [], last := 0, began := 0, waiting := false }
      (strm [] 40000000) 0 { level := 1, version := 0, autostart := false, secs := [] } { mask := 1, prog := [], data := [] }
      (.loadEnd 0 7) (dv up [(HOST_PCFG_GEN 0, 2)]) ∧
    hypCaravanLoads 1 0 7 0 1 false 0 [0] (cmd 7 (.load 1 false) true)
      { port := 0, tag := 7, mask := 1, store := false, next := 0, words := [], last := 0, began := 0, waiting := false }
      (strm [] 40000000) 0 { level := 1, version := 0, autostart := false, secs := [] } { mask := 1, prog := [], data := [] }
      (.loadEnd 0 1) (dv up [(CISTERN_STAT_STATE, 2), (CISTERN_ADM_HOLDER, 7)]) ∧
    hypCaravanLoads 2 0 7 0 1 true 0 [0] (cmd 7 (.load 1 false) true)
      { port := 0, tag := 7, mask := 1, store := false, next := 0, words := [], last := 0, began := 0, waiting := false }
      (strm [] 40000000) 0 { level := 1, version := 0, autostart := false, secs := [] } { mask := 1, prog := [], data := [] }
      (.loadEnd 0 1) (dv up [(CISTERN_STAT_STATE, 2), (CISTERN_ADM_HOLDER, 7)]) ∧
    hypCaravanLoads 3 0 7 0 1 true 0 [0] (cmd 7 (.load 1 false) true)
      { port := 0, tag := 7, mask := 1, store := false, next := 0, words := [], last := 0, began := 0, waiting := false }
      (strm [] 40000000) 0 { level := 1, version := 0, autostart := false, secs := [] } { mask := 1, prog := [], data := [] }
      (.loadEnd 0 1) (dv (cisSt cisReady) [(CISTERN_ADM_HOLDER, 2)]) ∧
    hypCaravanLoads 4 0 7 0 1 true 0 [0] (cmd 7 (.load 1 false) true)
      { port := 0, tag := 7, mask := 1, store := false, next := 0, words := [], last := 0, began := 0, waiting := false }
      (strm [] 40000000) 0 { level := 1, version := 0, autostart := false, secs := [] } { mask := 1, prog := [], data := [] }
      (.loadEnd 0 1) (cisSt cisMounting) ∧
    hypCaravanLoads 5 0 7 0 1 true 0 [0] (cmd 7 (.load 1 false) true)
      { port := 0, tag := 7, mask := 1, store := false, next := 0, words := [], last := 0, began := 0, waiting := false }
      (strm [] 40000000) 0 { level := 1, version := 0, autostart := false, secs := [] } { mask := 1, prog := [], data := [] }
      (.loadEnd 0 1)
      { up with store := { up.store with banks := up.store.banks.set 0 { image := some mini, valid := true, gen := 1, auth := false } } } := by
  refine ⟨?_, ?_, ?_, ?_, ?_, ?_⟩ <;> unfold hypCaravanLoads <;> simp only [] <;> decide +kernel
theorem witness_CaravanLoads_2 :
    hypCaravanLoads 6 0 7 0 1 false 0 [0] (cmd 7 (.load 1 false) true) { lod false mini 40000000 with port := 1 } (strm [] 40000000)
      0 { level := 1, version := 0, autostart := false, secs := [] } { mask := 1, prog := [], data := [] } (.loadEnd 0 1)
      { up with load := some { lod false mini 40000000 with port := 1 } } ∧
    hypCaravanLoads 7 0 1 0 1 false 0 [0] (cmd 77 (.load 1 false) true) (lod false [] 40000000) (strm [] 40000000) 0
      { level := 1, version := 0, autostart := false, secs := [] } { mask := 1, prog := [], data := [] } (.loadEnd 0 1)
      { (serve 0 (cmd 77 (.load 1 false) true) (up)) with load := some (lod false [] 40000000) } ∧
    hypCaravanLoads 8 0 7 0 1 true 0 [0] (cmd 7 (.load 1 false) true)
      { port := 0, tag := 7, mask := 1, store := false, next := 0, words := [], last := 0, began := 0, waiting := false }
      (strm [] 40000000) 0 { level := 1, version := 0, autostart := false, secs := [] } { mask := 1, prog := [], data := [] }
      (.loadEnd 0 1) (dv up [(HOST_PERM_FUNC 0, 0)]) ∧
    hypCaravanLoads 9 0 7 0 1 true 0 [0] (cmd 7 (.load 1 false) true)
      { port := 0, tag := 7, mask := 1, store := false, next := 0, words := [], last := 0, began := 0, waiting := false }
      (strm [] 40000000) 0 { level := 1, version := 0, autostart := false, secs := [] } { mask := 1, prog := [], data := [] }
      (.loadEnd 0 1) (up.setOwner 0 7) ∧
    hypCaravanLoads 10 0 7 0 1 true 0 [0] (cmd 7 (.load 1 false) true)
      { port := 0, tag := 7, mask := 1, store := false, next := 0, words := [], last := 0, began := 0, waiting := false }
      (strm [] 40000000) 0 { level := 1, version := 0, autostart := false, secs := [] } { mask := 1, prog := [], data := [] }
      (.loadEnd 0 1) (dv up [(HOST_PERM_FUNC 0, 0)]) ∧
    hypCaravanLoads 11 0 7 0 1 true 0 [0] (cmd 7 (.load 1 false) true)
      { port := 0, tag := 7, mask := 1, store := false, next := 0, words := [], last := 0, began := 0, waiting := false }
      (strm [] 40000000) 0 { level := 1, version := 0, autostart := false, secs := [] } { mask := 1, prog := [], data := [] }
      (.loadEnd 0 1) (up.setOwner 0 7) := by
  refine ⟨?_, ?_, ?_, ?_, ?_, ?_⟩ <;> unfold hypCaravanLoads <;> simp only [] <;> decide +kernel
theorem witness_CaravanLoads_3 :
    hypCaravanLoads 12 0 7 0 1 true 0 [0] (cmd 7 (.load 1 false) true)
      { port := 0, tag := 7, mask := 1, store := false, next := 0, words := [], last := 0, began := 0, waiting := false }
      (strm [] 40000000) 0 { level := 1, version := 0, autostart := false, secs := [] } { mask := 1, prog := [], data := [] }
      (.loadEnd 0 1) (dv up [(CISTERN_STAT_STATE, 2), (CISTERN_ADM_HOLDER, 7)]) ∧
    hypCaravanLoads 13 0 7 0 1 false 0 [0] (cmd 7 (.load 1 false) true) { lod false mini 40000000 with port := 1 } (strm [] 40000000)
      0 { level := 1, version := 0, autostart := false, secs := [] } { mask := 1, prog := [], data := [] } (.loadEnd 0 1)
      { up with load := some { lod false mini 40000000 with port := 1 } } ∧
    hypCaravanLoads 14 0 7 0 1 true 0 [0] (cmd 7 (.load 1 false) true)
      { port := 0, tag := 7, mask := 1, store := false, next := 0, words := [], last := 0, began := 0, waiting := false }
      (strm [] 40000000) 0 { level := 1, version := 0, autostart := false, secs := [] } { mask := 1, prog := [], data := [] }
      (.loadEnd 0 1) (stor (cisSt cisReady) (fun c =>
      { c with banks := c.banks.set 0 { image := some [1], valid := true, gen := 1, auth := false } })) ∧
    hypCaravanLoads 15 0 7 0 1 true 0 [0] (cmd 7 (.load 1 false) true)
      { port := 0, tag := 7, mask := 1, store := false, next := 0, words := [], last := 0, began := 0, waiting := false }
      (strm [] 40000000) 0 { level := 1, version := 0, autostart := false, secs := [] } { mask := 1, prog := [], data := [] }
      (.loadEnd 0 1)
      { up with store := { up.store with banks := up.store.banks.set 0 { image := some mini, valid := true, gen := 1, auth := false } } } ∧
    hypCaravanLoads 16 0 1 0 1 false 0 [0] (cmd 77 (.load 1 false) true) (lod false [] 40000000) (strm [] 40000000) 0
      { level := 1, version := 0, autostart := false, secs := [] } { mask := 1, prog := [], data := [] } (.loadEnd 0 1)
      { (serve 0 (cmd 77 (.load 1 false) true) (up)) with load := some (lod false [] 40000000) } ∧
    hypCaravanLoads 17 0 7 0 1 true 0 [] (cmd 77 (.load 1 false) true) (lod false [] 40000000) (strm [] 40000000) 0
      { level := 1, version := 0, autostart := false, secs := [] } { mask := 1, prog := [], data := [] } (.loadEnd 0 1)
      { (serve 0 (cmd 77 (.load 1 false) true) (up)) with load := some (lod false [] 40000000) } := by
  refine ⟨?_, ?_, ?_, ?_, ?_, ?_⟩ <;> unfold hypCaravanLoads <;> simp only [] <;> decide +kernel
theorem witness_CaravanLoads_4 :
    hypCaravanLoads 18 0 7 0 1 true 0 [5] (cmd 77 (.load 1 false) true) (lod false [] 0) (strm [] 40000000) 0
      { level := 1, version := 0, autostart := false, secs := [] } { mask := 1, prog := [], data := [] } (.loadEnd 0 1)
      { (serve 0 (cmd 77 (.load 1 false) true) ({ up with clk := 80000000 })) with load := some (lod false [] 0) } ∧
    hypCaravanLoads 19 0 7 0 1 true 0 [0] (cmd 77 (.user 5 16) true)
      { port := 0, tag := 7, mask := 1, store := false, next := 0, words := [], last := 0, began := 0, waiting := false }
      (strm [] 0) 0 { level := 1, version := 0, autostart := false, secs := [] } { mask := 1, prog := [], data := [] }
      (.loadEnd 0 1) { (serve 0 (cmd 77 (.user 5 16) true) { up with clk := 80000000 }) with stream := some (strm [] 0) } ∧
    hypCaravanLoads 20 0 1 0 1 false 0 [0] (cmd 77 (.load 1 false) true) (lod false [] 40000000) (strm [] 40000000) 0
      { level := 1, version := 0, autostart := false, secs := [] } { mask := 1, prog := [], data := [] } (.loadEnd 0 1)
      { (serve 0 (cmd 77 (.load 1 false) true) (up)) with load := some (lod false [] 40000000) } ∧
    hypCaravanLoads 21 0 7 0 1 true 0 [0] (cmd 77 (.load 1 false) true) (lod true mini 40000000) (strm [] 40000000) 0
      { level := 1, version := 0, autostart := false, secs := [] } { mask := 1, prog := [], data := [] } (.loadEnd 0 1)
      { (serve 0 (cmd 77 (.load 1 false) true) (up)) with load := some (lod true mini 40000000) } ∧
    hypCaravanLoads 22 0 7 0 1 true 0 [0] (cmd 77 (.load 1 false) true) (lod false mini 40000000) (strm [] 40000000) 0
      { level := 1, version := 0, autostart := false, secs := [{ mask := 1, prog := [0x0800000000000000], data := [] }] }
      { mask := 1, prog := [0x0800000000000000], data := [] } (.loadEnd 0 1)
      { (serve 0 (cmd 77 (.load 1 false) true) (af up [(AX_TICK_PERIOD, 4000)])) with load := some (lod false mini 40000000) } ∧
    hypCaravanLoads 23 0 7 0 1 true 0 [0] (cmd 77 (.load 1 false) true)
      { port := 0, tag := 7, mask := 1, store := false, next := 0, words := [], last := 0, began := 0, waiting := false }
      (strm [] 40000000) 0 { level := 1, version := 0, autostart := false, secs := [] } { mask := 1, prog := [], data := [] }
      (.loadEnd 0 1) (serve 0 (cmd 77 (.load 1 false) true) up) := by
  refine ⟨?_, ?_, ?_, ?_, ?_, ?_⟩ <;> unfold hypCaravanLoads <;> simp only [] <;> decide +kernel

/-- The hypotheses of the clauses of CisternRows. -/
def hypCisternRows (clause : Nat) (p : Port) (key : W16) (answers : Bool) (third : Bool) (b : Nat) (src : Nat) (c : Cmd) (k : Fin 2) (l : Load) (was : BitVec 3) (e : NandEnd) (s : State) : Prop :=
  let st := s.cis
  let q := s.store
  let quiet := (∀ n : Ax, s.aget n AX_MBCTL_PEND = 0) ∧ NoCommands s ∧ s.load = none ∧ s.stream = none
  let may := Calm s p ∧ s.func p fnCistern = true ∧ s.gen p ≠ 2
  let on := s.alive = true ∧ st = cisReady
  let live := s.alive = true ∧ st ≠ cisNone ∧ st ≠ cisFailed ∧ st ≠ cisPowerfail
  let good := s.alive = true ∧ b < s.blocks ∧ q.bad.contains b = false
  let logFull := s.logPages ≤ q.log.length
  let full := logFull ∨ s.tracePages ≤ q.trace.length
  let moves := st = cisReady ∧ src ≠ b ∧ 1000 < s.dget CISTERN_WEAR_MAXE - s.dget CISTERN_WEAR_MINE
  let due := st = cisReady ∧ q.dirty = true ∧ q.ckptAt + 1000 * msTicks ≤ s.clk
  match clause with
  | 0 => s.alive = true ∧ st = cisMounting ∧ s.dget SYS_BOOT_STEP ≠ 4 ∧ quiet
  | 1 => s.alive = true ∧ st = cisMounting ∧ s.dget SYS_BOOT_STEP = 4
  | 2 => (s.alive = false ∨ st ≠ cisMounting)
  | 3 => may ∧ s.load = none ∧ s.stream = none ∧ (st = cisReady ∨ st = cisBlank ∨ st = cisFailed)
  | 4 => may ∧ st = cisNone
  | 5 => may ∧ (st = cisFormatting ∨ st = cisPowerfail)
  | 6 => Calm s p ∧ (s.func p fnCistern = false ∨ s.gen p = 2)
  | 7 => may ∧ s.isSvc p = false
  | 8 => may ∧ s.isSvc p = true ∧ key ≠ 0xC157
  | 9 => may ∧ s.isSvc p = true ∧ (st = cisNone ∨ (st = cisFailed ∧ answers = false))
  | 10 => may ∧ s.isSvc p = true ∧ (st = cisMounting ∨ st = cisFormatting ∨ st = cisPowerfail)
  | 11 => may ∧ s.isSvc p = true ∧ s.stream = none ∧ (st = cisReady ∨ st = cisBlank ∨ (st = cisFailed ∧ answers = true))
  | 12 => s.alive = true ∧ st = cisFormatting ∧ q.format = some (p, c.tag, was) ∧ Serving s p c
  | 13 => (s.alive = false ∨ st ≠ cisFormatting)
  | 14 => due
  | 15 => ¬due
  | 16 => on ∧ quiet ∧ s.nextPage = some .life
  | 17 => on ∧ quiet ∧ s.nextPage = some .log
  | 18 => on ∧ quiet ∧ s.nextPage = some .boot
  | 19 => on ∧ Serving s p c ∧ s.load = none ∧ s.stream = none ∧ s.nextPage = some .boot ∧ q.bootQ.head?.map (fun x => (x.1, x.2.2)) = some (k, .select p c.tag)
  | 20 => on ∧ Serving s p c ∧ s.load = some l ∧ l.port = p ∧ l.tag = c.tag ∧ s.nextPage = some .boot ∧ q.bootQ.head?.map (fun x => (x.1, x.2.2)) = some (k, .commit)
  | 21 => on ∧ quiet ∧ s.nextPage = some .user
  | 22 => on ∧ quiet ∧ s.nextPage = some .trace
  | 23 => on ∧ s.nextPage ≠ none ∧ quiet
  | 24 => (¬on ∨ s.nextPage = none ∨ e = .fail)
  | 25 => live ∧ quiet
  | 26 => ¬live
  | 27 => good ∧ st = cisReady ∧ quiet ∧ third = false
  | 28 => good ∧ st = cisReady ∧ quiet ∧ third = true ∧ s.dget CISTERN_STAT_RESV ≠ 0 ∧ s.nextPage = some .log
  | 29 => good ∧ st = cisFormatting
  | 30 => (¬good ∨ (st ≠ cisReady ∧ st ≠ cisFormatting))
  | 31 => good ∧ st = cisReady ∧ full ∧ quiet
  | 32 => (¬good ∨ st ≠ cisReady ∨ ¬full)
  | 33 => moves
  | 34 => ¬moves
  | _ => False
theorem witness_CisternRows_1 :
    hypCisternRows 0 0 0xC157 true true 1023 2 (cmd 7 .format true) 0 (lod true mini 40000000) 2 .ok
      (dv (up) [(CISTERN_STAT_STATE, 1), (CISTERN_ADM_HOLDER, 7)]) ∧
    hypCisternRows 1 0 0xC157 true true 1023 2 (cmd 7 .format true) 0 (lod true mini 40000000) 2 .ok
      (dv (cisSt cisMounting) [(SYS_BOOT_STEP, 4)]) ∧
    hypCisternRows 2 0 0xC157 true true 1023 2 (cmd 77 .format true) 0 (lod true mini 40000000) 2 .ok
      (serve 0 (cmd 77 .format true) (stor (cisSt cisFormatting) (fun c => { c with format := some (0, 77, 2) }))) ∧
    hypCisternRows 3 0 0xC157 true true 1023 2 (cmd 7 .format true) 0 (lod true mini 40000000) 2 .ok
      (dv (dv (up) [(CISTERN_STAT_STATE, 2), (CISTERN_ADM_HOLDER, 7)]) [(CISTERN_GEOM_BLKS0, 1024), (CISTERN_GEOM_LOGMB, 0)]) ∧
    hypCisternRows 4 0 0xC157 true true 1023 2 (cmd 7 .format true) 0 (lod true mini 40000000) 2 .ok
      (dv (up) [(CISTERN_STAT_STATE, 0), (CISTERN_ADM_HOLDER, 7)]) ∧
    hypCisternRows 5 0 0xC157 true true 1023 2 (cmd 7 .format true) 0 (lod true mini 40000000) 2 .ok (cisSt cisFormatting) := by
  refine ⟨?_, ?_, ?_, ?_, ?_, ?_⟩ <;> unfold hypCisternRows <;> simp only [] <;> decide +kernel
theorem witness_CisternRows_2 :
    hypCisternRows 6 0 0xC157 true true 1023 2 (cmd 7 .format true) 0 (lod true mini 40000000) 2 .ok
      (dv (cisSt cisReady) [(HOST_PERM_FUNC 0, 0)]) ∧
    hypCisternRows 7 0 0xC157 true true 1023 2 (cmd 7 .format true) 0 (lod true mini 40000000) 2 .ok
      (dv (cisSt cisReady) [(HOST_PCFG_SVC 0, 0)]) ∧
    hypCisternRows 8 0 0 true true 1023 2 (cmd 7 .format true) 0 (lod true mini 40000000) 2 .ok
      (dv (dv (up) [(CISTERN_STAT_STATE, 2), (CISTERN_ADM_HOLDER, 7)]) [(CISTERN_GEOM_BLKS0, 1024), (CISTERN_GEOM_LOGMB, 0)]) ∧
    hypCisternRows 9 0 0xC157 true true 1023 2 (cmd 7 .format true) 0 (lod true mini 40000000) 2 .ok
      (dv (up) [(CISTERN_STAT_STATE, 0), (CISTERN_ADM_HOLDER, 7)]) ∧
    hypCisternRows 10 0 0xC157 true true 1023 2 (cmd 7 .format true) 0 (lod true mini 40000000) 2 .ok
      (dv (up) [(CISTERN_STAT_STATE, 1), (CISTERN_ADM_HOLDER, 7)]) ∧
    hypCisternRows 11 0 0xC157 true true 1023 2 (cmd 7 .format true) 0 (lod true mini 40000000) 2 .ok
      (dv (dv (up) [(CISTERN_STAT_STATE, 2), (CISTERN_ADM_HOLDER, 7)]) [(CISTERN_GEOM_BLKS0, 1024), (CISTERN_GEOM_LOGMB, 0)]) := by
  refine ⟨?_, ?_, ?_, ?_, ?_, ?_⟩ <;> unfold hypCisternRows <;> simp only [] <;> decide +kernel
theorem witness_CisternRows_3 :
    hypCisternRows 12 0 0xC157 true true 1023 2 (cmd 77 .format true) 0 (lod true mini 40000000) 2 .ok
      (serve 0 (cmd 77 .format true) (stor (cisSt cisFormatting) (fun c => { c with format := some (0, 77, 2) }))) ∧
    hypCisternRows 13 0 0xC157 true true 1023 2 (cmd 77 (.bootSelect false) true) 0 (lod true mini 40000000) 2 .ok
      (serve 0 (cmd 77 (.bootSelect false) true) (stor (cisSt cisReady) (fun c => { c with bootQ := [(0, rec1, .select 0 77)] }))) ∧
    hypCisternRows 14 0 0xC157 true true 1023 2 (cmd 7 .format true) 0 (lod true mini 40000000) 2 .ok
      { dv (up) [(CISTERN_STAT_STATE, 2), (CISTERN_ADM_HOLDER, 7)] with store := { up.store with dirty := true }, clk := 400000000 } ∧
    hypCisternRows 15 0 0xC157 true true 1023 2 (cmd 77 .format true) 0 (lod true mini 40000000) 2 .ok
      (serve 0 (cmd 77 .format true) (stor (cisSt cisFormatting) (fun c => { c with format := some (0, 77, 2) }))) ∧
    hypCisternRows 16 0 0xC157 true true 1023 2 (cmd 7 .format true) 0 (lod true mini 40000000) 2 .ok
      (stor (cisSt cisReady) (fun c => { c with lifeInc := [(33, 1)] })) ∧
    hypCisternRows 17 0 0xC157 true true 1023 2 (cmd 7 .format true) 0 (lod true mini 40000000) 2 .ok
      { dv (up) [(CISTERN_STAT_STATE, 2), (CISTERN_ADM_HOLDER, 7)] with store := { up.store with logQ := [{ typ := 1, flags := 0, seq := 0, time := 0, payload := [] }] } } := by
  refine ⟨?_, ?_, ?_, ?_, ?_, ?_⟩ <;> unfold hypCisternRows <;> simp only [] <;> decide +kernel
theorem witness_CisternRows_4 :
    hypCisternRows 18 0 0xC157 true true 1023 2 (cmd 7 .format true) 0 (lod true mini 40000000) 2 .ok
      (stor (cisSt cisReady) (fun c => { c with bootQ := [(0, rec1, .image)] })) ∧
    hypCisternRows 19 0 0xC157 true true 1023 2 (cmd 77 (.bootSelect false) true) 0 (lod true mini 40000000) 2 .ok
      (serve 0 (cmd 77 (.bootSelect false) true) (stor (cisSt cisReady) (fun c => { c with bootQ := [(0, rec1, .select 0 77)] }))) ∧
    hypCisternRows 20 0 0xC157 true true 1023 2 (cmd 77 (.load 1 true) true) 0 { lod true mini 40000000 with waiting := true } 2 .ok
      { (serve 0 (cmd 77 (.load 1 true) true) (stor (cisSt cisReady) (fun c => { c with bootQ := [(0, rec1, .commit)] }))) with load := some { lod true mini 40000000 with waiting := true } } ∧
    hypCisternRows 21 0 0xC157 true true 1023 2 (cmd 7 .format true) 0 (lod true mini 40000000) 2 .ok
      (stor (cisSt cisReady) (fun c => { c with userQ := [rec1] })) ∧
    hypCisternRows 22 0 0xC157 true true 1023 2 (cmd 7 .format true) 0 (lod true mini 40000000) 2 .ok
      (stor (cisSt cisReady) (fun c => { c with stage := [(1, 0, 2, 3, 4)] })) ∧
    hypCisternRows 23 0 0xC157 true true 1023 2 (cmd 7 .format true) 0 (lod true mini 40000000) 2 .ok
      { dv (up) [(CISTERN_STAT_STATE, 2), (CISTERN_ADM_HOLDER, 7)] with store := { up.store with logQ := [{ typ := 1, flags := 0, seq := 0, time := 0, payload := [] }] } } := by
  refine ⟨?_, ?_, ?_, ?_, ?_, ?_⟩ <;> unfold hypCisternRows <;> simp only [] <;> decide +kernel
theorem witness_CisternRows_5 :
    hypCisternRows 24 0 0xC157 true true 1023 2 (cmd 77 .format true) 0 (lod true mini 40000000) 2 .ok
      (serve 0 (cmd 77 .format true) (stor (cisSt cisFormatting) (fun c => { c with format := some (0, 77, 2) }))) ∧
    hypCisternRows 25 0 0xC157 true true 1023 2 (cmd 7 .format true) 0 (lod true mini 40000000) 2 .ok
      (dv (dv (up) [(CISTERN_STAT_STATE, 2), (CISTERN_ADM_HOLDER, 7)]) [(CISTERN_GEOM_BLKS0, 1024), (CISTERN_GEOM_LOGMB, 0)]) ∧
    hypCisternRows 26 0 0xC157 true true 1023 2 (cmd 7 .format true) 0 (lod true mini 40000000) 2 .ok
      (dv (up) [(CISTERN_STAT_STATE, 0), (CISTERN_ADM_HOLDER, 7)]) ∧
    hypCisternRows 27 0 0xC157 true false 1023 2 (cmd 7 .format true) 0 (lod true mini 40000000) 2 .ok
      (dv (dv (up) [(CISTERN_STAT_STATE, 2), (CISTERN_ADM_HOLDER, 7)]) [(CISTERN_GEOM_BLKS0, 1024), (CISTERN_GEOM_LOGMB, 0)]) ∧
    hypCisternRows 28 0 0xC157 true true 1023 2 (cmd 7 .format true) 0 (lod true mini 40000000) 2 .ok
      (stor (cisSt cisReady) (fun c => { c with logQ := [rec1] })) ∧
    hypCisternRows 29 0 0xC157 true true 1023 2 (cmd 77 .format true) 0 (lod true mini 40000000) 2 .ok
      (serve 0 (cmd 77 .format true) (stor (cisSt cisFormatting) (fun c => { c with format := some (0, 77, 2) }))) := by
  refine ⟨?_, ?_, ?_, ?_, ?_, ?_⟩ <;> unfold hypCisternRows <;> simp only [] <;> decide +kernel
theorem witness_CisternRows_6 :
    hypCisternRows 30 0 0xC157 true true 1023 2 (cmd 7 .format true) 0 (lod true mini 40000000) 2 .ok
      (dv (up) [(CISTERN_STAT_STATE, 1), (CISTERN_ADM_HOLDER, 7)]) ∧
    hypCisternRows 31 0 0xC157 true true 1023 2 (cmd 7 .format true) 0 (lod true mini 40000000) 2 .ok
      (dv (dv (up) [(CISTERN_STAT_STATE, 2), (CISTERN_ADM_HOLDER, 7)]) [(CISTERN_GEOM_BLKS0, 1024), (CISTERN_GEOM_LOGMB, 0)]) ∧
    hypCisternRows 32 0 0xC157 true true 1023 2 (cmd 77 .format true) 0 (lod true mini 40000000) 2 .ok
      (serve 0 (cmd 77 .format true) (stor (cisSt cisFormatting) (fun c => { c with format := some (0, 77, 2) }))) ∧
    hypCisternRows 33 0 0xC157 true true 1023 2 (cmd 7 .format true) 0 (lod true mini 40000000) 2 .ok
      (dv (dv (up) [(CISTERN_STAT_STATE, 2), (CISTERN_ADM_HOLDER, 7)]) [(CISTERN_WEAR_MAXE, 1001), (CISTERN_WEAR_MINE, 0)]) ∧
    hypCisternRows 34 0 0xC157 true true 1023 2 (cmd 77 .format true) 0 (lod true mini 40000000) 2 .ok
      (serve 0 (cmd 77 .format true) (stor (cisSt cisFormatting) (fun c => { c with format := some (0, 77, 2) }))) := by
  refine ⟨?_, ?_, ?_, ?_, ?_⟩ <;> unfold hypCisternRows <;> simp only [] <;> decide +kernel

/-- The hypotheses of the clauses of StoreStreams. -/
def hypStoreStreams (clause : Nat) (p : Port) (tag : W16) (chunk : W16) (blob : Byte) (total : W64) (d : W64) (seq : W64) (unit : BitVec 5) (sel : Bool) (ws : List W64) (content : List W64) (size : Nat) (c : Cmd) (z : Stream) (i : Instr) (s : State) : Prop :=
  let q := s.store
  let fits := 1 ≤ ws.length ∧ ws.length ≤ 1023 ∧ z.words.length + ws.length ≤ 2 ^ 21
  let k := d.toNat / 2 ^ 32 % 1024 + 1
  let b : Fin 2 := if sel then 1 else 0
  let calm := s.gen p = 3 ∧ Calm s p
  let may := calm ∧ s.func p fnCistern = true
  let ready := may ∧ s.cis = cisReady
  let begins := Instr.userBegin p tag blob total
  let mine := s.gen p = 3 ∧ Serving s p c ∧ s.stream = some z ∧ z.port = p ∧ z.tag = c.tag ∧ z.waiting = false
  let inTime := s.clk ≤ z.last + partTicks
  let whole := z.words.length = (z.total + 7) / 8
  let open_ := s.pins.warning = false ∧ s.pins.standby = none
  match clause with
  | 0 => s.gen p ≠ 3 ∧ i ∈ [begins, .userData p tag chunk ws, .userEnd p tag, .userRead p tag blob d, .userDelete p tag blob, .logRead p tag seq, .traceRead p tag seq, .lifeRead p tag unit, .bootSelect p tag sel]
  | 1 => ready ∧ s.admHeld p = false ∧ s.stream = none ∧ total.toNat ≤ 2 ^ 24
  | 2 => ready ∧ 2 ^ 24 < total.toNat ∧ s.ownStream p = false
  | 3 => ready ∧ total.toNat ≤ 2 ^ 24 ∧ s.ownStream p = false ∧ (s.admHeld p = true ∨ s.stream ≠ none)
  | 4 => mine ∧ open_ ∧ s.func p fnCistern = true ∧ s.cis = cisReady ∧ s.admHeld p = false ∧ total.toNat ≤ 2 ^ 24 ∧ tag ≠ c.tag ∧ s.contest = [] ∧ ((∀ j ∈ s.pending, s.requests j = []))
  | 5 => ready ∧ s.bankValid b = true
  | 6 => ready ∧ s.bankValid b = false
  | 7 => may ∧ s.ownStream p = false ∧ (s.cis = cisMounting ∨ s.cis = cisFormatting)
  | 8 => may ∧ s.ownStream p = false ∧ (s.cis = cisNone ∨ s.cis = cisFailed ∨ s.cis = cisBlank ∨ s.cis = cisPowerfail)
  | 9 => calm ∧ s.ownStream p = false ∧ s.func p fnCistern = false
  | 10 => calm ∧ 1020 < k
  | 11 => calm ∧ s.cis = cisReady ∧ k ≤ 1020 ∧ q.blobs.find? (fun x => x.1 == blob) = some (blob, size, content)
  | 12 => calm ∧ s.cis = cisReady ∧ k ≤ 1020 ∧ ((∀ x ∈ q.blobs, x.1 ≠ blob))
  | 13 => ∃ j : Fin 38, calm ∧ s.cis = cisReady ∧ s.dget CISTERN_STAT_LIFERDY = 1 ∧ q.lifeInc = []
  | 14 => calm ∧ (s.cis = cisNone ∨ s.cis = cisFailed) ∧ k ≤ 1020
  | 15 => calm ∧ (s.cis = cisMounting ∨ s.cis = cisBlank ∨ s.cis = cisFormatting ∨ s.cis = cisPowerfail) ∧ k ≤ 1020
  | 16 => calm ∧ s.cis = cisReady ∧ s.dget CISTERN_STAT_LIFERDY = 0
  | 17 => mine ∧ inTime ∧ chunk.toNat = z.next % 65536 ∧ fits
  | 18 => mine ∧ inTime ∧ (chunk.toNat ≠ z.next % 65536 ∨ ¬fits)
  | 19 => mine ∧ inTime ∧ whole
  | 20 => mine ∧ inTime ∧ ¬whole
  | 21 => mine ∧ ¬inTime
  | 22 => s.gen p = 3 ∧ Serving s p c ∧ open_ ∧ s.streamTag p c.tag = false
  | 23 => calm ∧ s.stream = none
  | _ => False
theorem witness_StoreStreams_1 :
    hypStoreStreams 0 0 1 0 0 0x1000000 0 5 0 false [0] [1, 2] 16 (cmd 7 (.user 0 8) true)
      { port := 0, tag := 7, blob := 0, total := 8, next := 0, words := [], last := 40000000, waiting := false } (.userEnd 0 1)
      (dv (cisSt cisReady) [(HOST_PCFG_GEN 0, 2)]) ∧
    hypStoreStreams 1 0 7 0 0 0x1000000 0 5 0 false [0] [1, 2] 16 (cmd 7 (.user 0 8) true)
      { port := 0, tag := 7, blob := 0, total := 8, next := 0, words := [], last := 40000000, waiting := false } (.userEnd 0 1)
      { dv (up) [(CISTERN_STAT_STATE, 2), (CISTERN_ADM_HOLDER, 7)] with store := { up.store with log := [[{ typ := 1, flags := 0, seq := 5, time := 0, payload := [] }]], trace := [[{ typ := 1, flags := 0, seq := 5, time := 0, payload := [] }]] } } ∧
    hypStoreStreams 2 0 7 0 0 0x1000001 0 5 0 false [0] [1, 2] 16 (cmd 7 (.user 0 8) true)
      { port := 0, tag := 7, blob := 0, total := 8, next := 0, words := [], last := 40000000, waiting := false } (.userEnd 0 1)
      { dv (up) [(CISTERN_STAT_STATE, 2), (CISTERN_ADM_HOLDER, 7)] with store := { up.store with log := [[{ typ := 1, flags := 0, seq := 5, time := 0, payload := [] }]], trace := [[{ typ := 1, flags := 0, seq := 5, time := 0, payload := [] }]] } } ∧
    hypStoreStreams 3 0 7 0 0 0x1000000 0 5 0 false [0] [1, 2] 16 (cmd 7 (.user 0 8) true)
      { port := 0, tag := 7, blob := 0, total := 8, next := 0, words := [], last := 40000000, waiting := false } (.userEnd 0 1)
      (dv (cisSt cisReady) [(CISTERN_ADM_HOLDER, 2)]) ∧
    hypStoreStreams 4 0 7 0 0 0x1000000 0 5 0 false [5] [1, 2] 16 (cmd 77 (.user 5 16) true) (strm [] 40000000) (.userEnd 0 1)
      { (serve 0 (cmd 77 (.user 5 16) true) (cisSt cisReady)) with stream := some (strm [] 40000000) } ∧
    hypStoreStreams 5 0 7 0 0 0x1000000 0 5 0 false [0] [1, 2] 16 (cmd 7 (.user 0 8) true)
      { port := 0, tag := 7, blob := 0, total := 8, next := 0, words := [], last := 40000000, waiting := false } (.userEnd 0 1)
      { dv (up) [(CISTERN_STAT_STATE, 2), (CISTERN_ADM_HOLDER, 7)] with store := { up.store with banks := up.store.banks.set 0 { image := none, valid := true, gen := 1, auth := false } } } := by
  refine ⟨?_, ?_, ?_, ?_, ?_, ?_⟩ <;> unfold hypStoreStreams <;> simp only [] <;> decide +kernel
theorem witness_StoreStreams_2 :
    hypStoreStreams 6 0 7 0 0 0x1000000 0 5 0 false [0] [1, 2] 16 (cmd 7 (.user 0 8) true)
      { port := 0, tag := 7, blob := 0, total := 8, next := 0, words := [], last := 40000000, waiting := false } (.userEnd 0 1)
      { dv (up) [(CISTERN_STAT_STATE, 2), (CISTERN_ADM_HOLDER, 7)] with store := { up.store with log := [[{ typ := 1, flags := 0, seq := 5, time := 0, payload := [] }]], trace := [[{ typ := 1, flags := 0, seq := 5, time := 0, payload := [] }]] } } ∧
    hypStoreStreams 7 0 7 0 0 0x1000000 0 5 0 false [0] [1, 2] 16 (cmd 7 (.user 0 8) true)
      { port := 0, tag := 7, blob := 0, total := 8, next := 0, words := [], last := 40000000, waiting := false } (.userEnd 0 1)
      (cisSt cisMounting) ∧
    hypStoreStreams 8 0 7 0 0 0x1000000 0 5 0 false [0] [1, 2] 16 (cmd 7 (.user 0 8) true)
      { port := 0, tag := 7, blob := 0, total := 8, next := 0, words := [], last := 40000000, waiting := false } (.userEnd 0 1)
      (dv (up) [(CISTERN_STAT_STATE, 0), (CISTERN_ADM_HOLDER, 7)]) ∧
    hypStoreStreams 9 0 7 0 0 0x1000000 0 5 0 false [0] [1, 2] 16 (cmd 7 (.user 0 8) true)
      { port := 0, tag := 7, blob := 0, total := 8, next := 0, words := [], last := 40000000, waiting := false } (.userEnd 0 1)
      (dv (cisSt cisReady) [(HOST_PERM_FUNC 0, 0)]) ∧
    hypStoreStreams 10 0 7 0 0 0x1000000 0x3FC00000000 5 0 false [0] [1, 2] 16 (cmd 7 (.user 0 8) true)
      { port := 0, tag := 7, blob := 0, total := 8, next := 0, words := [], last := 40000000, waiting := false } (.userEnd 0 1)
      { dv (up) [(CISTERN_STAT_STATE, 2), (CISTERN_ADM_HOLDER, 7)] with store := { up.store with log := [[{ typ := 1, flags := 0, seq := 5, time := 0, payload := [] }]], trace := [[{ typ := 1, flags := 0, seq := 5, time := 0, payload := [] }]] } } ∧
    hypStoreStreams 11 0 7 0 5 0x1000000 0 5 0 false [0] [1, 2] 16 (cmd 7 (.user 0 8) true)
      { port := 0, tag := 7, blob := 0, total := 8, next := 0, words := [], last := 40000000, waiting := false } (.userEnd 0 1)
      (stor (cisSt cisReady) (fun c => { c with blobs := [(5, 16, [1, 2])] })) := by
  refine ⟨?_, ?_, ?_, ?_, ?_, ?_⟩ <;> unfold hypStoreStreams <;> simp only [] <;> decide +kernel
theorem witness_StoreStreams_3 :
    hypStoreStreams 12 0 7 0 0 0x1000000 0 5 0 false [0] [1, 2] 16 (cmd 7 (.user 0 8) true)
      { port := 0, tag := 7, blob := 0, total := 8, next := 0, words := [], last := 40000000, waiting := false } (.userEnd 0 1)
      { dv (up) [(CISTERN_STAT_STATE, 2), (CISTERN_ADM_HOLDER, 7)] with store := { up.store with log := [[{ typ := 1, flags := 0, seq := 5, time := 0, payload := [] }]], trace := [[{ typ := 1, flags := 0, seq := 5, time := 0, payload := [] }]] } } ∧
    hypStoreStreams 13 0 7 0 0 0x1000000 0 5 0 false [0] [1, 2] 16 (cmd 7 (.user 0 8) true)
      { port := 0, tag := 7, blob := 0, total := 8, next := 0, words := [], last := 40000000, waiting := false } (.userEnd 0 1)
      (dv (dv (up) [(CISTERN_STAT_STATE, 2), (CISTERN_ADM_HOLDER, 7)]) [(CISTERN_STAT_LIFERDY, 1)]) ∧
    hypStoreStreams 14 0 7 0 0 0x1000000 0 5 0 false [0] [1, 2] 16 (cmd 7 (.user 0 8) true)
      { port := 0, tag := 7, blob := 0, total := 8, next := 0, words := [], last := 40000000, waiting := false } (.userEnd 0 1)
      (dv (up) [(CISTERN_STAT_STATE, 0), (CISTERN_ADM_HOLDER, 7)]) ∧
    hypStoreStreams 15 0 7 0 0 0x1000000 0 5 0 false [0] [1, 2] 16 (cmd 7 (.user 0 8) true)
      { port := 0, tag := 7, blob := 0, total := 8, next := 0, words := [], last := 40000000, waiting := false } (.userEnd 0 1)
      (cisSt cisMounting) ∧
    hypStoreStreams 16 0 7 0 0 0x1000000 0 5 0 false [0] [1, 2] 16 (cmd 7 (.user 0 8) true)
      { port := 0, tag := 7, blob := 0, total := 8, next := 0, words := [], last := 40000000, waiting := false } (.userEnd 0 1)
      { dv (up) [(CISTERN_STAT_STATE, 2), (CISTERN_ADM_HOLDER, 7)] with store := { up.store with log := [[{ typ := 1, flags := 0, seq := 5, time := 0, payload := [] }]], trace := [[{ typ := 1, flags := 0, seq := 5, time := 0, payload := [] }]] } } ∧
    hypStoreStreams 17 0 7 0 0 0x1000000 0 5 0 false [5] [1, 2] 16 (cmd 77 (.user 5 16) true) (strm [] 40000000) (.userEnd 0 1)
      { (serve 0 (cmd 77 (.user 5 16) true) (cisSt cisReady)) with stream := some (strm [] 40000000) } := by
  refine ⟨?_, ?_, ?_, ?_, ?_, ?_⟩ <;> unfold hypStoreStreams <;> simp only [] <;> decide +kernel
theorem witness_StoreStreams_4 :
    hypStoreStreams 18 0 7 0 0 0x1000000 0 5 0 false [] [1, 2] 16 (cmd 77 (.user 5 16) true) (strm [] 40000000) (.userEnd 0 1)
      { (serve 0 (cmd 77 (.user 5 16) true) (cisSt cisReady)) with stream := some (strm [] 40000000) } ∧
    hypStoreStreams 19 0 7 0 0 0x1000000 0 5 0 false [5] [1, 2] 16 (cmd 77 (.user 5 16) true) (strm [1, 2] 40000000) (.userEnd 0 1)
      { (serve 0 (cmd 77 (.user 5 16) true) (cisSt cisReady)) with stream := some (strm [1, 2] 40000000) } ∧
    hypStoreStreams 20 0 7 0 0 0x1000000 0 5 0 false [5] [1, 2] 16 (cmd 77 (.user 5 16) true) (strm [] 40000000) (.userEnd 0 1)
      { (serve 0 (cmd 77 (.user 5 16) true) (cisSt cisReady)) with stream := some (strm [] 40000000) } ∧
    hypStoreStreams 21 0 7 0 0 0x1000000 0 5 0 false [5] [1, 2] 16 (cmd 77 (.user 5 16) true) (strm [1, 2] 0) (.userEnd 0 1)
      { (serve 0 (cmd 77 (.user 5 16) true) { cisSt cisReady with clk := 80000000 }) with stream := some (strm [1, 2] 0) } ∧
    hypStoreStreams 22 0 7 0 0 0x1000000 0 5 0 false [0] [1, 2] 16 (cmd 77 (.user 5 16) true)
      { port := 0, tag := 7, blob := 0, total := 8, next := 0, words := [], last := 40000000, waiting := false } (.userEnd 0 1)
      (serve 0 (cmd 77 (.user 5 16) true) (cisSt cisReady)) ∧
    hypStoreStreams 23 0 7 0 0 0x1000000 0 5 0 false [0] [1, 2] 16 (cmd 7 (.user 0 8) true)
      { port := 0, tag := 7, blob := 0, total := 8, next := 0, words := [], last := 40000000, waiting := false } (.userEnd 0 1)
      { dv (up) [(CISTERN_STAT_STATE, 2), (CISTERN_ADM_HOLDER, 7)] with store := { up.store with log := [[{ typ := 1, flags := 0, seq := 5, time := 0, payload := [] }]], trace := [[{ typ := 1, flags := 0, seq := 5, time := 0, payload := [] }]] } } := by
  refine ⟨?_, ?_, ?_, ?_, ?_, ?_⟩ <;> unfold hypStoreStreams <;> simp only [] <;> decide +kernel

/-- The hypotheses of the clauses of FuseRows. -/
def hypFuseRows (clause : Nat) (p : Port) (cnt : BitVec 3) (c : Cmd) (reason : BitVec 4) (done : Nat) (w : Nat) (y : FuseRead) (changed : List (Byte × FuseRead)) (s : State) : Prop :=
  let q := s.fuses
  let a := (s.port p).fuseAddr
  let addr := FUSE_ADDR_ADDR.get a
  let ws := (s.port p).fuseData.toList.take (cnt.toNat + 1)
  let next := s.dget FUSE_STAT_NEXT
  let left := s.dget FUSE_STAT_SLEFT
  let b := s.blankSlots 224 160 next ws.length
  let z := s.blankSlots 256 32 (256 - left) 1
  let band := s.dget THERM_STAT_DBAND = 1 ∨ s.dget THERM_STAT_DBAND = 2
  let volts := 1000 ≤ s.dget SYS_PWRMON_VSUP ∧ s.dget SYS_PWRMON_VSUP ≤ 1600
  let badWord := ws.any (fun v => v.getLsbD 63 || fuseFid v == 0 || decide (fuseParts v < fusePart v)) = true
  let inRange := s.dget FUSE_STAT_LOCKEND < addr ∧ addr ≤ 223
  let firm := ((List.range (addr - 63)).map (64 + ·)).all (fun v => !s.unsealable v) = true
  let digest := ((s.port p).fuseData[0]).setWidth 32 = fuseDigest s.sealPayload 64 addr
  let calm := Calm s p ∧ s.func p fnFuse = true ∧ s.gen p ≠ 2
  let free := calm ∧ q.busy = none
  let cause := if q.stop ≠ 0 then q.stop else if ¬band then 1 else if ¬volts then 2 else if s.pins.warning then 8 else 0
  let pulsed := q.began + s.fuseTime p 1 cnt.toNat ≤ s.clk
  let sealed := q.began + s.fuseTime p 2 0 ≤ s.clk
  let programs := Serving s p c ∧ q.busy = some (p, c.tag, 1, cnt.toNat) ∧ cnt.toNat ≤ 5
  let seals := Serving s p c ∧ q.busy = some (p, c.tag, 2, 0)
  let due := q.rereadDue = true ∧ q.busy = none
  let same := fun (v : Nat) => (judgeFuse (s.fuseWord v)).word = s.shadow v
  let j := (judgeFuse y).word
  match clause with
  | 0 => free ∧ (5 < cnt.toNat ∨ badWord)
  | 1 => free ∧ cnt.toNat ≤ 5 ∧ ¬badWord ∧ ¬band
  | 2 => free ∧ cnt.toNat ≤ 5 ∧ ¬badWord ∧ band ∧ ¬volts
  | 3 => free ∧ cnt.toNat ≤ 5 ∧ ¬badWord ∧ band ∧ volts ∧ next ≤ s.dget FUSE_STAT_LOCKEND
  | 4 => free ∧ cnt.toNat ≤ 5 ∧ ¬badWord ∧ band ∧ volts ∧ s.dget FUSE_STAT_LOCKEND < next ∧ 224 < next + cnt.toNat + 1
  | 5 => free ∧ cnt.toNat ≤ 5 ∧ ¬badWord ∧ band ∧ volts ∧ s.dget FUSE_STAT_LOCKEND < next ∧ next + cnt.toNat + 1 ≤ 224
  | 6 => free ∧ band ∧ volts ∧ ¬inRange
  | 7 => free ∧ band ∧ volts ∧ inRange ∧ ¬firm
  | 8 => free ∧ band ∧ volts ∧ inRange ∧ firm ∧ ¬digest
  | 9 => free ∧ band ∧ volts ∧ inRange ∧ firm ∧ digest ∧ left = 0
  | 10 => free ∧ band ∧ volts ∧ inRange ∧ firm ∧ digest ∧ left ≠ 0
  | 11 => calm ∧ q.busy ≠ none
  | 12 => Calm s p ∧ (s.func p fnFuse = false ∨ s.gen p = 2)
  | 13 => programs ∧ cause = 0 ∧ pulsed ∧ b.1.length = ws.length
  | 14 => programs ∧ cause = 0 ∧ pulsed ∧ b.1.length ≠ ws.length
  | 15 => programs ∧ reason.toNat = (if cause = 0 then 7 else cause) ∧ b.1.length = ws.length ∧ done < ws.length
  | 16 => ∃ k ∈ z.1.head?, seals ∧ cause = 0 ∧ sealed
  | 17 => ∃ k ∈ z.1.head?, seals ∧ reason.toNat = (if cause = 0 then 7 else cause)
  | 18 => programs ∧ (cause ≠ 0 ∨ ¬pulsed)
  | 19 => seals ∧ (cause ≠ 0 ∨ ¬sealed)
  | 20 => q.busy ≠ none ∧ reason.toNat ≠ (if cause = 0 then 7 else cause)
  | 21 => q.busy = none
  | 22 => due ∧ w < 256 ∧ changed = [(BitVec.ofNat 8 w, y)] ∧ w ∉ q.since ∧ ((∀ v : Fin 256, v.val ≠ w → v.val ∉ q.since → same v.val)) ∧ (j.payload ≠ (s.shadow w).payload ∨ j.committed ≠ (s.shadow w).committed)
  | 23 => due ∧ changed = [] ∧ ((∀ v : Fin 256, v.val ∉ q.since → same v.val))
  | 24 => due ∧ 225 ≤ w ∧ w < 256 ∧ changed = [(BitVec.ofNat 8 w, y)] ∧ lockBlown (s.fuseWord w) = false ∧ lockBlown y = true
  | 25 => due ∧ changed = [(224, y)] ∧ lockBlown (s.fuseWord 224) = false ∧ lockBlown y = true
  | 26 => ¬due
  | _ => False
theorem witness_FuseRows_1 :
    hypFuseRows 0 0 5 (cmd 7 .fuse true) 7 0 225 (sureRead (programmed 0x00FF004200000000))
      [(224, sureRead (programmed 0x00FF004200000000))] (fus up (fun q => { q with rereadDue := true })) ∧
    hypFuseRows 1 0 5 (cmd 7 .fuse true) 7 0 225 (sureRead (programmed 0x00FF404200000000)) []
      (pt (fus (dv up [(THERM_STAT_DBAND,
      3)]) (fun q => { q with busy := none })) 0 (fun q =>
      { q with fuseAddr := 70, fuseData := Vector.replicate 6 0x0100000000000030 })) ∧
    hypFuseRows 2 0 5 (cmd 7 .fuse true) 7 0 225 (sureRead (programmed 0x00FF404200000000)) []
      (pt (fus (dv up [(THERM_STAT_DBAND, 1), (SYS_PWRMON_VSUP,
      900)]) (fun q => { q with busy := none })) 0 (fun q =>
      { q with fuseAddr := 70, fuseData := Vector.replicate 6 0x0100000000000030 })) ∧
    hypFuseRows 3 0 5 (cmd 7 .fuse true) 7 0 225 (sureRead (programmed 0x00FF404200000000)) []
      (pt (fus (dv up [(THERM_STAT_DBAND, 1), (SYS_PWRMON_VSUP, 1200), (FUSE_STAT_LOCKEND, 64), (FUSE_STAT_NEXT, 64),
      (FUSE_STAT_SLEFT, 31)]) (fun q => { q with busy := none
      })) 0 (fun q => { q with fuseAddr := 70, fuseData := Vector.replicate 6 0x0100000000000030 })) ∧
    hypFuseRows 4 0 5 (cmd 7 .fuse true) 7 0 225 (sureRead (programmed 0x00FF404200000000)) []
      (pt (fus (dv up [(THERM_STAT_DBAND, 1), (SYS_PWRMON_VSUP, 1200), (FUSE_STAT_LOCKEND, 63), (FUSE_STAT_NEXT, 224),
      (FUSE_STAT_SLEFT, 31)]) (fun q => { q with busy := none
      })) 0 (fun q => { q with fuseAddr := 70, fuseData := Vector.replicate 6 0x0100000000000030 })) ∧
    hypFuseRows 5 0 5 (cmd 7 .fuse true) 7 0 225 (sureRead (programmed 0x00FF404200000000)) []
      (pt (fus (dv up [(THERM_STAT_DBAND, 1), (SYS_PWRMON_VSUP, 1200), (FUSE_STAT_LOCKEND, 63), (FUSE_STAT_NEXT, 64),
      (FUSE_STAT_SLEFT, 31)]) (fun q => { q with busy := none
      })) 0 (fun q => { q with fuseAddr := 70, fuseData := Vector.replicate 6 0x0100000000000030 })) := by
  refine ⟨?_, ?_, ?_, ?_, ?_, ?_⟩ <;> unfold hypFuseRows <;> simp only [] <;> decide +kernel
theorem witness_FuseRows_2 :
    hypFuseRows 6 0 5 (cmd 7 .fuse true) 7 0 225 (sureRead (programmed 0x00FF404200000000)) []
      (pt (fus (dv up [(THERM_STAT_DBAND, 1), (SYS_PWRMON_VSUP, 1200), (FUSE_STAT_LOCKEND, 63), (FUSE_STAT_NEXT, 64),
      (FUSE_STAT_SLEFT, 31)]) (fun q => { q with busy := none
      })) 0 (fun q => { q with fuseAddr := 63, fuseData := Vector.replicate 6 0x0100000000000030 })) ∧
    hypFuseRows 7 0 5 (cmd 7 .fuse true) 7 0 225 (sureRead (programmed 0x00FF404200000000)) []
      (pt (fus (dv up [(THERM_STAT_DBAND, 1), (SYS_PWRMON_VSUP, 1200), (FUSE_STAT_LOCKEND, 63), (FUSE_STAT_NEXT, 64),
      (FUSE_STAT_SLEFT, 31)]) (fun q => { q with array := [(64, { normal := 1, high := 0, low := 1 })]
      })) 0 (fun q => { q with fuseAddr := 70, fuseData := Vector.replicate 6 ((fuseDigest up.sealPayload 64 70).setWidth 64) })) ∧
    hypFuseRows 8 0 5 (cmd 7 .fuse true) 7 0 225 (sureRead (programmed 0x00FF404200000000)) []
      (pt (fus (dv up [(THERM_STAT_DBAND, 1), (SYS_PWRMON_VSUP, 1200), (FUSE_STAT_LOCKEND, 64), (FUSE_STAT_NEXT, 64),
      (FUSE_STAT_SLEFT, 31)]) (fun q => { q with busy := none
      })) 0 (fun q => { q with fuseAddr := 70, fuseData := Vector.replicate 6 0x0100000000000030 })) ∧
    hypFuseRows 9 0 5 (cmd 7 .fuse true) 7 0 225 (sureRead (programmed 0x00FF404200000000)) []
      (pt (fus (dv up [(THERM_STAT_DBAND, 1), (SYS_PWRMON_VSUP, 1200), (FUSE_STAT_LOCKEND, 63), (FUSE_STAT_NEXT, 64),
      (FUSE_STAT_SLEFT, 0)]) (fun q => { q with busy := none
      })) 0 (fun q => { q with fuseAddr := 70, fuseData := Vector.replicate 6 ((fuseDigest up.sealPayload 64 70).setWidth 64) })) ∧
    hypFuseRows 10 0 5 (cmd 7 .fuse true) 7 0 225 (sureRead (programmed 0x00FF404200000000)) []
      (pt (fus (dv up [(THERM_STAT_DBAND, 1), (SYS_PWRMON_VSUP, 1200), (FUSE_STAT_LOCKEND, 63), (FUSE_STAT_NEXT, 64),
      (FUSE_STAT_SLEFT, 31)]) (fun q => { q with busy := none
      })) 0 (fun q => { q with fuseAddr := 70, fuseData := Vector.replicate 6 ((fuseDigest up.sealPayload 64 70).setWidth 64) })) ∧
    hypFuseRows 11 0 5 (cmd 7 .fuse true) 7 0 225 (sureRead (programmed 0x00FF404200000000)) []
      { up with fuses := { up.fuses with busy := some (0, 9, 1, 1) } } := by
  refine ⟨?_, ?_, ?_, ?_, ?_, ?_⟩ <;> unfold hypFuseRows <;> simp only [] <;> decide +kernel
theorem witness_FuseRows_3 :
    hypFuseRows 12 0 5 (cmd 7 .fuse true) 7 0 225 (sureRead (programmed 0x00FF404200000000)) [] (dv up [(HOST_PERM_FUNC 0, 0)]) ∧
    hypFuseRows 13 0 0 (cmd 77 .fuse true) 7 0 225 (sureRead (programmed 0x00FF404200000000)) []
      { (serve 0 (cmd 77 .fuse true) (pt (fus (dv up [(THERM_STAT_DBAND, 1), (SYS_PWRMON_VSUP, 1200), (FUSE_STAT_LOCKEND, 63), (FUSE_STAT_NEXT, 64), (FUSE_STAT_SLEFT, 31)]) (fun q => { q with busy := some (0, 77, 1, 0), began := 0, stop := 0 })) 0 (fun q => { q with fuseAddr := 70, fuseData := Vector.replicate 6 0x0100000000000030 }))) with clk := 400000000 } ∧
    hypFuseRows 14 0 0 (cmd 77 .fuse true) 7 0 225 (sureRead (programmed 0x00FF404200000000)) []
      { (serve 0 (cmd 77 .fuse true) (pt (fus (dv up [(THERM_STAT_DBAND, 1), (SYS_PWRMON_VSUP, 1200), (FUSE_STAT_LOCKEND, 63), (FUSE_STAT_NEXT, 224), (FUSE_STAT_SLEFT, 31)]) (fun q => { q with busy := some (0, 77, 1, 0), began := 0, stop := 0 })) 0 (fun q => { q with fuseAddr := 70, fuseData := Vector.replicate 6 0x0100000000000030 }))) with clk := 400000000 } ∧
    hypFuseRows 15 0 0 (cmd 77 .fuse true) 7 0 225 (sureRead (programmed 0x00FF404200000000)) []
      { (serve 0 (cmd 77 .fuse true) (pt (fus (dv up [(THERM_STAT_DBAND, 1), (SYS_PWRMON_VSUP, 1200), (FUSE_STAT_LOCKEND, 63), (FUSE_STAT_NEXT, 64), (FUSE_STAT_SLEFT, 31)]) (fun q => { q with busy := some (0, 77, 1, 0), began := 0, stop := 0 })) 0 (fun q => { q with fuseAddr := 70, fuseData := Vector.replicate 6 0x0100000000000030 }))) with clk := 400000000 } ∧
    hypFuseRows 16 0 0 (cmd 77 .fuse true) 7 0 225 (sureRead (programmed 0x00FF404200000000)) []
      { (serve 0 (cmd 77 .fuse true) (pt (fus (dv up [(THERM_STAT_DBAND, 1), (SYS_PWRMON_VSUP, 1200), (FUSE_STAT_LOCKEND, 63), (FUSE_STAT_NEXT, 64), (FUSE_STAT_SLEFT, 31)]) (fun q => { q with busy := some (0, 77, 2, 0), began := 0, stop := 0 })) 0 (fun q => { q with fuseAddr := 70, fuseData := Vector.replicate 6 0x0100000000000030 }))) with clk := 400000000 } ∧
    hypFuseRows 17 0 0 (cmd 77 .fuse true) 7 0 225 (sureRead (programmed 0x00FF404200000000)) []
      { (serve 0 (cmd 77 .fuse true) (pt (fus (dv up [(THERM_STAT_DBAND, 1), (SYS_PWRMON_VSUP, 1200), (FUSE_STAT_LOCKEND, 63), (FUSE_STAT_NEXT, 64), (FUSE_STAT_SLEFT, 31)]) (fun q => { q with busy := some (0, 77, 2, 0), began := 0, stop := 0 })) 0 (fun q => { q with fuseAddr := 70, fuseData := Vector.replicate 6 0x0100000000000030 }))) with clk := 400000000 } := by
  refine ⟨?_, ?_, ?_, ?_, ?_, ?_⟩ <;> unfold hypFuseRows <;> simp only [] <;> decide +kernel
theorem witness_FuseRows_4 :
    hypFuseRows 18 0 0 (cmd 77 .fuse true) 2 0 225 (sureRead (programmed 0x00FF404200000000)) []
      { (serve 0 (cmd 77 .fuse true) (pt (fus (dv up [(THERM_STAT_DBAND, 1), (SYS_PWRMON_VSUP, 1200), (FUSE_STAT_LOCKEND, 63), (FUSE_STAT_NEXT, 64), (FUSE_STAT_SLEFT, 31)]) (fun q => { q with busy := some (0, 77, 1, 0), began := 0, stop := 2 })) 0 (fun q => { q with fuseAddr := 70, fuseData := Vector.replicate 6 0x0100000000000030 }))) with clk := 400000000 } ∧
    hypFuseRows 19 0 0 (cmd 77 .fuse true) 2 0 225 (sureRead (programmed 0x00FF404200000000)) []
      { (serve 0 (cmd 77 .fuse true) (pt (fus (dv up [(THERM_STAT_DBAND, 1), (SYS_PWRMON_VSUP, 1200), (FUSE_STAT_LOCKEND, 63), (FUSE_STAT_NEXT, 64), (FUSE_STAT_SLEFT, 31)]) (fun q => { q with busy := some (0, 77, 2, 0), began := 0, stop := 2 })) 0 (fun q => { q with fuseAddr := 70, fuseData := Vector.replicate 6 0x0100000000000030 }))) with clk := 400000000 } ∧
    hypFuseRows 20 0 0 (cmd 77 .fuse true) 0 0 225 (sureRead (programmed 0x00FF404200000000)) []
      { (serve 0 (cmd 77 .fuse true) (pt (fus (dv up [(THERM_STAT_DBAND, 1), (SYS_PWRMON_VSUP, 1200), (FUSE_STAT_LOCKEND, 63), (FUSE_STAT_NEXT, 64), (FUSE_STAT_SLEFT, 31)]) (fun q => { q with busy := some (0, 77, 1, 0), began := 0, stop := 0 })) 0 (fun q => { q with fuseAddr := 70, fuseData := Vector.replicate 6 0x0100000000000030 }))) with clk := 400000000 } ∧
    hypFuseRows 21 0 5 (cmd 7 .fuse true) 7 0 225 (sureRead (programmed 0x00FF004200000000))
      [(224, sureRead (programmed 0x00FF004200000000))] (fus up (fun q => { q with rereadDue := true })) ∧
    hypFuseRows 22 0 5 (cmd 7 .fuse true) 7 0 225 (sureRead (programmed 0x00FF404200000000))
      [(225, sureRead (programmed 0x00FF404200000000))] { up with fuses := { up.fuses with rereadDue := true } } ∧
    hypFuseRows 23 0 5 (cmd 7 .fuse true) 7 0 225 (sureRead (programmed 0x00FF404200000000)) []
      { up with fuses := { up.fuses with rereadDue := true } } := by
  refine ⟨?_, ?_, ?_, ?_, ?_, ?_⟩ <;> unfold hypFuseRows <;> simp only [] <;> decide +kernel
theorem witness_FuseRows_5 :
    hypFuseRows 24 0 5 (cmd 7 .fuse true) 7 0 225 (sureRead (programmed 0x00FF404200000000))
      [(225, sureRead (programmed 0x00FF404200000000))] { up with fuses := { up.fuses with rereadDue := true } } ∧
    hypFuseRows 25 0 5 (cmd 7 .fuse true) 7 0 225 (sureRead (programmed 0x00FF004200000000))
      [(224, sureRead (programmed 0x00FF004200000000))] (fus up (fun q => { q with rereadDue := true, array := [] })) ∧
    hypFuseRows 26 0 0 (cmd 77 .fuse true) 7 0 225 (sureRead (programmed 0x00FF404200000000)) []
      { (serve 0 (cmd 77 .fuse true) (pt (fus (dv up [(THERM_STAT_DBAND, 1), (SYS_PWRMON_VSUP, 1200), (FUSE_STAT_LOCKEND, 63), (FUSE_STAT_NEXT, 64), (FUSE_STAT_SLEFT, 31)]) (fun q => { q with busy := some (0, 77, 1, 0), began := 0, stop := 0 })) 0 (fun q => { q with fuseAddr := 70, fuseData := Vector.replicate 6 0x0100000000000030 }))) with clk := 400000000 } := by
  refine ⟨?_, ?_, ?_⟩ <;> unfold hypFuseRows <;> simp only [] <;> decide +kernel

/-- The hypotheses of the clauses of ResetsAndStandby. -/
def hypResetsAndStandby (clause : Nat) (p : Port) (tag : W16) (a : Bool) (s : State) : Prop :=
  let on := s.pins.powered = true ∧ s.pins.asleep = false
  let timed := s.dget SYS_STBY_MODE = 1
  let wakes := s.pins.powered = true ∧ s.pins.asleep = true ∧ (a = true ∨ (timed ∧ s.dget SYS_WAKE_CMP ≤ s.dget SYS_AONCNT_COUNT))
  let rises := s.pins.powered = false ∨ s.dget SYS_BOOT_STEP = 0
  let fails := s.pins.powered = true ∧ s.pins.warning = true
  let short := (∃ n : Ax, ((s.ax n).st ≠ .off ∧ (s.ax n).st ≠ .oasis) ∨ ((s.ax n).st = .oasis ∧ 2 ≤ s.oasisOut n)) ∨ s.fuses.busy ≠ none ∨ s.load ≠ none
  match clause with
  | 0 => rises
  | 1 => ¬rises
  | 2 => ¬on
  | 3 => fails
  | 4 => ¬fails
  | 5 => wakes
  | 6 => ¬wakes
  | 7 => s.pins.powered = true
  | 8 => s.pins.powered = false
  | 9 => on ∧ s.pins.warning = false
  | 10 => (¬on ∨ s.pins.warning = true)
  | 11 => Calm s p ∧ s.isSvc p = true ∧ ¬short
  | 12 => Calm s p ∧ s.isSvc p = true ∧ short
  | 13 => Calm s p ∧ s.isSvc p = false
  | 14 => s.pins.standby = some (p, tag) ∧ s.tagUsed p tag = false
  | 15 => (s.pins.standby = none ∨ (s.pins.standby = some (p, tag) ∧ s.tagUsed p tag = true))
  | _ => False
theorem witness_ResetsAndStandby_1 :
    hypResetsAndStandby 0 0 7 true State.reset ∧
    hypResetsAndStandby 1 0 7 true (up.modEng 8 (fun g => { g with pool := .retired })) ∧
    hypResetsAndStandby 2 0 7 true { up with pins := { up.pins with asleep := true } } ∧
    hypResetsAndStandby 3 0 7 true { up with pins := { up.pins with warning := true } } ∧
    hypResetsAndStandby 4 0 7 true (up.modEng 8 (fun g => { g with pool := .retired })) ∧
    hypResetsAndStandby 5 0 7 true { up with pins := { up.pins with asleep := true } } := by
  refine ⟨?_, ?_, ?_, ?_, ?_, ?_⟩ <;> unfold hypResetsAndStandby <;> simp only [] <;> decide +kernel
theorem witness_ResetsAndStandby_2 :
    hypResetsAndStandby 6 0 7 true (up.modEng 8 (fun g => { g with pool := .retired })) ∧
    hypResetsAndStandby 7 0 7 true (up.modEng 8 (fun g => { g with pool := .retired })) ∧
    hypResetsAndStandby 8 0 7 true { up with pins := { up.pins with powered := false } } ∧
    hypResetsAndStandby 9 0 7 true (up.modEng 8 (fun g => { g with pool := .retired })) ∧
    hypResetsAndStandby 10 0 7 true { up with pins := { up.pins with warning := true } } ∧
    hypResetsAndStandby 11 0 7 true (up.modEng 8 (fun g => { g with pool := .retired })) := by
  refine ⟨?_, ?_, ?_, ?_, ?_, ?_⟩ <;> unfold hypResetsAndStandby <;> simp only [] <;> decide +kernel
theorem witness_ResetsAndStandby_3 :
    hypResetsAndStandby 12 0 7 true (inSt up .running) ∧
    hypResetsAndStandby 13 0 7 true (dv up [(HOST_PCFG_SVC 0, 0)]) ∧
    hypResetsAndStandby 14 0 7 true { up with pins := { up.pins with standby := some (0, 7) } } ∧
    hypResetsAndStandby 15 0 7 true (up.modEng 8 (fun g => { g with pool := .retired })) := by
  refine ⟨?_, ?_, ?_, ?_⟩ <;> unfold hypResetsAndStandby <;> simp only [] <;> decide +kernel

/-- The hypotheses of the clauses of EveryStepRuns. -/
def hypEveryStepRuns (s : State) : Prop :=
  s.pending = []
theorem witness_EveryStepRuns :
    hypEveryStepRuns State.reset := by
  unfold hypEveryStepRuns; decide +kernel


/-- OperandForms has no hypothesis on the state: its two ranges of codes are not empty. -/
theorem witness_OperandForms : (49 : BitVec 6) ∈ ([49, 51, 55, 56, 57, 58, 59, 60, 61, 62] : List (BitVec 6)) ∧
    (48 : BitVec 6) ∈ ([48, 50, 52, 53, 54] : List (BitVec 6)) := by decide

/-- Two bits of a codeword that differ. -/
theorem witness_HsiaoCorrects : (0 : Fin 72) ≠ 1 := by decide

/-- The reset state meets the invariant, and a step from it answers a next state. -/
theorem witness_NoShootInvariant : State.reset.noShoot = true ∧ step State.reset = .next State.reset.idle := ⟨by decide +kernel, rfl⟩

/-! ### Well-formedness: an ill-formed term for each check, and a term at each bound -/

theorem test_wf_apertures : (Instr.tickBoundary 0 { cur := List.replicate 5 (0, 0, 0), term := (0, 0, 0), bus := [0], ain := [] }).wf = false ∧
    (Instr.tickBoundary 0 { cur := [], term := (0, 0, 0), bus := [], ain := [] }).wf = false ∧
    (Instr.tickBoundary 0 { cur := List.replicate 4 (0, 0, 0), term := (0, 0, 0), bus := [0], ain := [] }).wf = true := by decide
theorem test_wf_reread :
    (Instr.fuseReread (List.replicate 257 (0, { normal := 0, high := 0, low := 0 }))).wf = false ∧
    (Instr.fuseReread []).wf = true := by decide +kernel
theorem test_wf_spi : (Instr.spiFrame 0 []).wf = false ∧ (Instr.spiFrame 0 [true]).wf = true := by decide
theorem test_wf_write : (Instr.write 0 1 0 []).wf = false ∧ (Instr.write 0 1 0 (List.replicate 65 0)).wf = false ∧
    (Instr.write 0 1 0 (List.replicate 64 0)).wf = true := by decide +kernel
theorem test_wf_mbwrite : (Instr.mbwrite 0 1 0 15 false [0, 0]).wf = false ∧ (Instr.mbwrite 0 1 0 0 false []).wf = false ∧
    (Instr.mbwrite 0 1 0 15 false [0]).wf = true := by decide
theorem test_wf_chunks : (Instr.loadData 0 1 0 []).wf = false ∧ (Instr.userData 0 1 0 []).wf = false ∧
    (Instr.loadData 0 1 0 [0]).wf = true := by decide
theorem test_wf_can : (Instr.canFrame 0x800 false false false []).wf = false ∧
    (Instr.canFrame 0 true false false (List.replicate 9 0)).wf = false ∧
    (Instr.canFrame 0 true true true []).wf = false ∧ (Instr.canFrame 0x7FF false false false (List.replicate 8 0)).wf = true := by decide
theorem test_wf_fuse_end : (Instr.fuseCommandEnd (.torn 6 1 0)).wf = false ∧ (Instr.fuseCommandEnd (.torn 5 1 0)).wf = true := by decide

/-! ### Values the manual gives -/

/-- R335: the columns in their order, and the all-zero codeword. -/
theorem test_hsiao_columns : hsiaoTable = hsiaoColumns ∧ hsiao 1 = 0x07 ∧ hsiao (1 <<< 55) = 0xE0 ∧ hsiao (1 <<< 56) = 0x1F ∧
    hsiao (1 <<< 63) = 0x57 ∧ hsiao 0 = 0 := by decide +kernel
/-- R163: the reset value of HALLMAP maps 1, 3, 2, 6, 4, 5 to sectors 0 to 5; codes 0 and 7 are invalid. -/
theorem test_hallmap : ([1, 3, 2, 6, 4, 5, 0, 7] : List (BitVec 3)).map (State.reset.ax 0).hallSector =
    [some 0, some 1, some 2, some 3, some 4, some 5, none, none] := by decide +kernel
/-- R45 of 02, R110: the limit of a program at a tick of 10 000 cycles is the fixed 6400. -/
theorem test_wcet_limit : wcetLimit 10000 = 6400 ∧ wcetLimit 400 = 320 := by decide

/-- R346 uses the hash of FIPS 180-4: its example, the digest of the bytes of abc. -/
theorem test_sha256_abc : sha256 [0x61, 0x62, 0x63] = [0xBA, 0x78, 0x16, 0xBF, 0x8F, 0x01, 0xCF, 0xEA, 0x41, 0x41, 0x40, 0xDE, 0x5D, 0xAE,
    0x22, 0x23, 0xB0, 0x03, 0x61, 0xA3, 0x96, 0x17, 0x7A, 0x9C, 0xB4, 0x10, 0xFF, 0x61, 0xF2, 0x00, 0x15, 0xAD] := by decide +kernel

/-! ### One step -/

/-- R72: VMUL of 1.0 by 1.0 (2^30 each) is 1.0, and of the most negative numbers saturates and sets SAT. -/
theorem test_vmul : (match exec (.vmul 0 { dst := 3, a := 0, b := 1, mod := 0, imm := 0 })
      (tick.modEng 0 (fun g => { g with core := { g.core with v := (g.core.v.set 0 0x8000000040000000).set 1 0x8000000040000000 } })) with
    | .next t => decide ((t.eng 0).core.v[(3 : Fin 32)] = 0x7FFFFFFF40000000 ∧ (t.eng 0).core.f.getLsbD fSAT = true)
    | _ => false) = true := by decide +kernel
/-- R80: WAIT with no masked event waits. -/
theorem test_wait : (match exec (.wait 0 (fw 0 0 0x10040)) tick with
    | .next t => decide ((t.ax 0).run.wait = some (1, 0x40, 40000000)) | _ => false) = true := by decide +kernel
/-- R292: ENABLE of an axis in OFF starts ARMING and stays in flight. -/
theorem test_enable_in_flight : (match exec (.enable 0 7 0) (loaded.setIsl 0 islStopped) with
    | .next t => decide ((t.ax 0).st = .arming ∧ (t.port 0).cmds.length = 1 ∧ (t.port 0).ring = []) | _ => false) = true := by decide +kernel
/-- R399: before step 7 a port answers nothing. -/
theorem test_before_boot : (match exec (.ping 0 7) State.reset with
    | .next t => decide ((t.port 0).ring = [] ∧ (t.port 0).inl = [] ∧ (t.port 0).tx = [] ∧ (t.port 0).cmds = []) | _ => false) = true := by decide +kernel
set_option maxRecDepth 1000000 in
/-- R393 to R399: the power-on reset brings a device without a Cistern to step 7. -/
theorem test_boot : (match exec (.powerOnReset false false false false) State.reset with
    | .next t => decide (t.dget SYS_BOOT_STEP = 7 ∧ t.portUp 0 = true ∧ t.cis = cisNone) | _ => false) = true := by decide +kernel
/-- A queue runs first in, first out; an empty one lets a base tick pass. -/
theorem test_queue : (match step { up with pending := [.safeN true, .safeN false] } with
    | .next t => decide (t.pins.safeLow = true ∧ t.pending = [.safeN false]) | _ => false) = true ∧
    (match step up with | .next t => decide (t.clk = up.clk + 1) | _ => false) = true := by decide +kernel

end Sys2Proof.Tests
end

section
namespace Sys2Proof.Machine
open Sys2Proof

/-! ### Results of commands -/

/-- A command whose meaning is known answers that state. -/
theorem runs_of_exec {i : Instr} {s t : State} {P : State → Prop} (h : exec i s = .next t) (ht : P t) : Runs i s P := ⟨t, h, ht⟩

/-- A part that a description of a state shares with another state. -/
theorem part_of_eq {α β : Type} (f : α → β) {a b c : α} (h : a = b) (hc : f b = f c) : f a = f c := (congrArg f h).trans hc

/-! ### Device fields after other writes -/

/-- A counter leaves the fields of other registers alone. -/
theorem State.dinc_dget_reg (s : State) (f g : Fld) (h : g.a ≠ f.a) : (s.dinc f).dget g = s.dget g := by
  simp [State.dinc, State.dget, State.setDreg_dreg_ne _ h]

theorem State.dget_lt (s : State) (f : Fld) : s.dget f < 2 ^ f.w := Fld.get_lt _ _

/-- A field of one bit is 0 or 1. -/
theorem State.dget_bit (s : State) (f : Fld) (h : f.w = 1) : s.dget f = 0 ∨ s.dget f = 1 := by
  have := s.dget_lt f
  rw [h] at this
  omega

@[simp] theorem State.modPins_pins (s : State) (f : Pins → Pins) : (s.modPins f).pins = f s.pins := rfl
@[simp] theorem State.modStore_store (s : State) (f : Store → Store) : (s.modStore f).store = f s.store := rfl

/-! ### Counts -/

/-- A count of the device itself is the lifetime count and one step of the counter of its code (R297). -/
theorem State.count_dev (s : State) {code : Nat} {f : Fld} (h : devCounter code = some f) :
    s.count code unitDev = (s.lifeCount code unitDev).dinc f := by
  simp [State.count, unitDev, h]

/-- A count of an axis is the lifetime count and one step of the counter of its block (R297). -/
theorem State.count_ax (s : State) (n : Ax) {code : Nat} {f : Fld} (h : axCounter code = some f) :
    s.count code n.val = (s.lifeCount code n.val).ainc n f := by
  simp [State.count, h, n.isLt]

@[simp] theorem State.lifeCount_dget (s : State) (c u : Nat) (g : Fld) : (s.lifeCount c u).dget g = s.dget g := rfl
@[simp] theorem State.lifeCount_dreg (s : State) (c u : Nat) (b : Nat) : (s.lifeCount c u).dreg b = s.dreg b := rfl
@[simp] theorem State.lifeCount_ax (s : State) (c u : Nat) (n : Ax) : (s.lifeCount c u).ax n = s.ax n := rfl
@[simp] theorem State.lifeCount_time (s : State) (c u : Nat) : (s.lifeCount c u).time = s.time := rfl
@[simp] theorem State.lifeCount_fields (s : State) (c u : Nat) : (s.lifeCount c u).pending = s.pending ∧ (s.lifeCount c u).clk = s.clk ∧
    (s.lifeCount c u).tm = s.tm ∧ (s.lifeCount c u).axes = s.axes ∧ (s.lifeCount c u).engines = s.engines ∧
    (s.lifeCount c u).ports = s.ports ∧ (s.lifeCount c u).load = s.load ∧ (s.lifeCount c u).stream = s.stream ∧
    (s.lifeCount c u).pins = s.pins := ⟨rfl, rfl, rfl, rfl, rfl, rfl, rfl, rfl, rfl⟩

/-! ### The PLLs -/

@[simp] theorem lockFld_zero : lockFld 0 = SYS_CLKSTAT_PLLA_LOCK := rfl
@[simp] theorem lockFld_one : lockFld 1 = SYS_CLKSTAT_PLLB_LOCK := rfl

/-- The edges that fall back to whole base ticks when the delay lines recalibrate at base tick `clk` (R11). -/
def Axis.recalibrated (a : Axis) (clk : Nat) : Axis :=
  { a with pt := { a.pt with sched := a.pt.sched.map (fun e => if e.t < 32 * (clk + 2 * usTicks) then { e with t := wholeTick e.t } else e) } }

/-- A change of every axis of a list, each at the common clock. -/
theorem foldl_modAx_ax (g : Nat → Axis → Axis) (n : Ax) : ∀ (l : List Ax) (s : State), l.Nodup →
    (l.foldl (fun s m => s.modAx m (g s.clk)) s).ax n = if n ∈ l then g s.clk (s.ax n) else s.ax n
  | [], s, _ => by simp
  | m :: l, s, h => by
    obtain ⟨hm, hl⟩ := List.nodup_cons.1 h
    rw [List.foldl_cons, foldl_modAx_ax g n l _ hl]
    by_cases e : n = m
    · subst e; simp [hm]
    · simp [e, State.modAx_ax_ne _ e]

theorem foldl_modAx_only (g : Nat → Axis → Axis) : ∀ (l : List Ax) (s : State),
    l.foldl (fun s m => s.modAx m (g s.clk)) s = { s with axes := (l.foldl (fun s m => s.modAx m (g s.clk)) s).axes }
  | [], _ => rfl
  | m :: l, s => (foldl_modAx_only g l (s.modAx m (g s.clk))).trans rfl

theorem mem_allAx (n : Ax) : n ∈ allAx := by revert n; decide

/-- Recalibration is HRES_FB, its instant, and the edges of every axis. -/
theorem State.recalibrate_eq (s : State) : s.recalibrate =
    allAx.foldl (fun s n => s.modAx n (Axis.recalibrated · s.clk))
      ((s.dput SYS_CLKSTAT_HRES_FB 1).modPins (fun p => { p with hresAt := s.clk })) := rfl

theorem State.recalibrate_ax (s : State) (n : Ax) : s.recalibrate.ax n = (s.ax n).recalibrated s.clk := by
  rw [State.recalibrate_eq, foldl_modAx_ax (fun c a => a.recalibrated c) n allAx _ (by decide), if_pos (mem_allAx n)]
  rfl

theorem State.recalibrate_only (s : State) : s.recalibrate =
    { s with dev := (s.dput SYS_CLKSTAT_HRES_FB 1).dev, pins := { s.pins with hresAt := s.clk }, axes := s.recalibrate.axes } := by
  rw [State.recalibrate_eq, foldl_modAx_only (fun c a => a.recalibrated c) allAx _]
  rfl

/-- Recalibration writes no register but HRES_FB. -/
theorem State.recalibrate_dev (s : State) : s.recalibrate.dev = (s.dput SYS_CLKSTAT_HRES_FB 1).dev := by
  rw [State.recalibrate_only]

theorem State.recalibrate_dget (s : State) (g : Fld) : s.recalibrate.dget g = (s.dput SYS_CLKSTAT_HRES_FB 1).dget g := by
  unfold State.dget; rw [State.dreg_congr s.recalibrate_dev]

end Sys2Proof.Machine
end

section
namespace Sys2Proof.Machine
open Sys2Proof

@[simp] theorem State.pllLost_ax (s : State) (q : Nat) (n : Ax) : (s.pllLost q).ax n = s.ax n := rfl
@[simp] theorem State.pllLost_dget (s : State) (q : Nat) (g : Fld) : (s.pllLost q).dget g = (s.dput (lockFld q) 0).dget g := rfl

@[simp] theorem State.pllLost_fields (s : State) (q : Nat) : (s.pllLost q).pending = s.pending ∧ (s.pllLost q).clk = s.clk ∧
    (s.pllLost q).tm = s.tm ∧ (s.pllLost q).axes = s.axes ∧ (s.pllLost q).engines = s.engines ∧ (s.pllLost q).ports = s.ports ∧
    (s.pllLost q).pins = { s.pins with pllAt := s.pins.pllAt.setIfInBounds q s.clk } := ⟨rfl, rfl, rfl, rfl, rfl, rfl, rfl⟩

/-- Every island on the standby PLL: what the switch does to the registers (R10, R11). -/
theorem State.switchPll_dget (s : State) (g : Fld) : s.switchPll.dget g =
    (((s.dput SYS_CLKSTAT_ACTIVE (1 - s.dget SYS_CLKSTAT_ACTIVE)).dput SYS_CLKSTAT_SWITCHED 1).dput SYS_CLKSTAT_HRES_FB 1).dget g :=
  State.recalibrate_dget _ g

@[simp] theorem State.switchPll_ax (s : State) (n : Ax) : s.switchPll.ax n = (s.ax n).recalibrated s.clk := State.recalibrate_ax _ n

theorem State.switchPll_only (s : State) : s.switchPll =
    { s with dev := s.switchPll.dev, pins := { s.pins with hresAt := s.clk }, axes := s.switchPll.axes } := by
  unfold State.switchPll; rw [State.recalibrate_only]; rfl

@[simp] theorem State.switchPll_fields (s : State) : s.switchPll.pending = s.pending ∧ s.switchPll.clk = s.clk ∧
    s.switchPll.engines = s.engines ∧ s.switchPll.ports = s.ports ∧ s.switchPll.load = s.load ∧ s.switchPll.stream = s.stream ∧
    s.switchPll.pins = { s.pins with hresAt := s.clk } :=
  have h := s.switchPll_only
  ⟨part_of_eq State.pending h rfl, part_of_eq State.clk h rfl, part_of_eq State.engines h rfl, part_of_eq State.ports h rfl,
    part_of_eq State.load h rfl, part_of_eq State.stream h rfl, (congrArg State.pins h :)⟩

theorem pllFail_switches (s : State) (h : s.pins.noClock = false) (hb : s.dget SYS_CLKSTAT_STBY_BAD = 0) :
    exec .pllFail s = .next ((((s.pllLost (s.dget SYS_CLKSTAT_ACTIVE)).lifeCount 29 unitDev).dinc FAULT_DCNT0_CLK_SWITCH).switchPll.dput
      SYS_CLKSTAT_STBY_BAD 1) := by
  show execPllFail s = _
  have e : devCounter 29 = some FAULT_DCNT0_CLK_SWITCH := rfl
  simp [execPllFail, h, hb, State.count_dev _ e, State.activePll]

theorem pllFail_doubleFault (s : State) (h : s.pins.noClock = false) (hb : s.dget SYS_CLKSTAT_STBY_BAD = 1) :
    exec .pllFail s = .next (((s.pllLost (s.dget SYS_CLKSTAT_ACTIVE)).lifeCount 29 unitDev).dinc FAULT_DCNT0_CLK_SWITCH).doublePll := by
  show execPllFail s = _
  have e : devCounter 29 = some FAULT_DCNT0_CLK_SWITCH := rfl
  simp [execPllFail, h, hb, State.count_dev _ e, State.activePll]

end Sys2Proof.Machine
end

section
namespace Sys2Proof.Machine
open Sys2Proof

/-! ### What reports and completions change -/

/-- From s to t only ports, the store, a load or stream, and the registers that count lost LOG records and hold the write
admission have changed. -/
structure OnlyReports (s t : State) : Prop where
  only : t = { s with dev := t.dev, ports := t.ports, store := t.store, load := t.load, stream := t.stream }
  dreg : ∀ b : Nat, b ≠ CISTERN_LOST 1 → b ≠ CISTERN_ADM → t.dreg b = s.dreg b

namespace OnlyReports

theorem refl (s : State) : OnlyReports s s := ⟨rfl, fun _ _ _ => rfl⟩

theorem trans {s t u : State} (h : OnlyReports s t) (g : OnlyReports t u) : OnlyReports s u :=
  ⟨g.only.trans (by rw [h.only]), fun b h1 h2 => (g.dreg b h1 h2).trans (h.dreg b h1 h2)⟩

/-- A change of ports, store, load and stream alone. -/
theorem of_eq {s t : State} (h : t = { s with ports := t.ports, store := t.store, load := t.load, stream := t.stream }) : OnlyReports s t :=
  have hd : t.dev = s.dev := part_of_eq State.dev h rfl
  ⟨h.trans (by rw [hd]), fun b _ _ => State.dreg_congr hd b⟩

/-- A change of the ports alone. -/
theorem of_ports {s t : State} (h : t = { s with ports := t.ports }) : OnlyReports s t :=
  .of_eq (h.trans (by rw [part_of_eq State.store h rfl, part_of_eq State.load h rfl, part_of_eq State.stream h rfl]))

/-- A list of such changes. -/
theorem foldl {α : Type} {f : State → α → State} (h : ∀ s x, OnlyReports s (f s x)) :
    ∀ (l : List α) (s : State), OnlyReports s (l.foldl f s)
  | [], s => refl s
  | x :: l, s => (h s x).trans (foldl h l (f s x))

variable {s t : State} (h : OnlyReports s t)
include h

theorem dget (g : Fld) (h1 : g.a ≠ CISTERN_LOST 1) (h2 : g.a ≠ CISTERN_ADM) : t.dget g = s.dget g := by
  unfold State.dget; rw [h.dreg g.a h1 h2]
theorem axes : t.axes = s.axes := part_of_eq State.axes h.only rfl
theorem ax (n : Ax) : t.ax n = s.ax n := State.ax_congr h.axes n
theorem engines : t.engines = s.engines := part_of_eq State.engines h.only rfl
theorem pins : t.pins = s.pins := part_of_eq State.pins h.only rfl
theorem clk : t.clk = s.clk := part_of_eq State.clk h.only rfl
theorem tm : t.tm = s.tm := part_of_eq State.tm h.only rfl
theorem pool : t.pool = s.pool := part_of_eq State.pool h.only rfl
theorem pending : t.pending = s.pending := part_of_eq State.pending h.only rfl
theorem fuses : t.fuses = s.fuses := part_of_eq State.fuses h.only rfl
theorem flight : t.flight = s.flight := part_of_eq State.flight h.only rfl
theorem time : t.time = s.time := by simp only [State.time, h.tm]

end OnlyReports

/-! ### Pulses on IRQ -/

/-- Nothing of a port but the pulses it gives on IRQk_N has changed. -/
def PortSt.pulsed (q r : PortSt) : Prop := r = { q with irqPulses := r.irqPulses, irqEnd := r.irqEnd }

theorem PortSt.pulsed_trans {a b c : PortSt} (h : a.pulsed b) (g : b.pulsed c) : a.pulsed c := by
  unfold PortSt.pulsed at *; exact g.trans (by rw [h])

/-- From s to t nothing has changed but pulses on IRQ. -/
structure OnlyPulses (s t : State) : Prop where
  only : t = { s with ports := t.ports }
  port : ∀ k : Port, (s.port k).pulsed (t.port k)

theorem OnlyPulses.refl (s : State) : OnlyPulses s s := ⟨rfl, fun _ => rfl⟩

theorem OnlyPulses.trans {s t u : State} (h : OnlyPulses s t) (g : OnlyPulses t u) : OnlyPulses s u :=
  ⟨g.only.trans (by rw [h.only]), fun k => PortSt.pulsed_trans (h.port k) (g.port k)⟩

theorem State.irqPulse_pulses (s : State) (p : Port) (b : Nat) : OnlyPulses s (s.irqPulse p b) := by
  refine ⟨s.irqPulse_only p b, fun k => ?_⟩
  unfold State.irqPulse; split
  · by_cases h : k = p
    · subst h; rw [State.modPort_port_same]; exact rfl
    · rw [State.modPort_port_ne _ h]; exact rfl
  · exact rfl

/-- Conditions that become true give pulses and nothing else (R309). -/
theorem State.irqRise_pulses (s old : State) : OnlyPulses s (s.irqRise old) := by
  unfold State.irqRise
  generalize allPorts = l
  induction l generalizing s with
  | nil => exact .refl s
  | cons p l ih =>
    rw [List.foldl_cons]
    refine .trans ?_ (ih _)
    have h1 : OnlyPulses s (if (s.oasisOwned p && !old.oasisOwned p) = true then s.irqPulse p 2 else s) := by
      split
      · exact s.irqPulse_pulses p 2
      · exact .refl s
    refine h1.trans ?_
    generalize (if (s.oasisOwned p && !old.oasisOwned p) = true then s.irqPulse p 2 else s) = u
    dsimp only
    split
    · exact u.irqPulse_pulses p 3
    · exact .refl u

theorem State.complete_reports (s : State) (p : Port) (tag : W16) (st : Byte) (axis : BitVec 4) (data : List W64) :
    OnlyReports s (s.complete p tag st axis data) := .of_ports (s.complete_only p tag st axis data)

theorem State.completeLive_reports (s : State) (p : Port) (tag : W16) (st : Byte) (data : List W64) :
    OnlyReports s (s.completeLive p tag st data) := by
  unfold State.completeLive; split
  · exact s.complete_reports ..
  · exact .refl s

theorem State.irqRise_reports (s old : State) : OnlyReports s (s.irqRise old) := .of_ports (s.irqRise_pulses old).only

/-- A LOG record is queued, or counted as lost (R358, R362). -/
theorem State.presentLog_reports (s : State) (typ : Byte) (t : W64) (bs : List Byte) : OnlyReports s (s.presentLog typ t bs) := by
  unfold State.presentLog; split
  · exact ⟨rfl, fun b h _ => State.setDreg_dreg_ne s h _⟩
  · exact .of_eq rfl

theorem State.releaseAdm_reports (s : State) (p : Port) : OnlyReports s (s.releaseAdm p) := by
  unfold State.releaseAdm; split
  · exact ⟨rfl, fun b _ h => State.setDreg_dreg_ne s h _⟩
  · exact .refl s

theorem State.loadRecord_reports (s : State) (m : Byte) (ws : List W64) (src : Nat) (st : Byte) :
    OnlyReports s (s.loadRecord m ws src st) := s.presentLog_reports ..

theorem State.endLoad_reports (s : State) (st : Byte) : OnlyReports s (s.endLoad st) := by
  unfold State.endLoad
  split
  · rename_i l _
    have h0 : OnlyReports s { s with load := none } := .of_eq rfl
    refine h0.trans (.trans ?_ ((State.loadRecord_reports ..).trans (State.completeLive_reports ..)))
    split
    · exact State.releaseAdm_reports ..
    · exact .refl _
  · exact .refl s

theorem State.endStream_reports (s : State) (st : Byte) : OnlyReports s (s.endStream st) := by
  unfold State.endStream
  split
  · have h0 : OnlyReports s { s with stream := none } := .of_eq rfl
    exact h0.trans ((State.releaseAdm_reports ..).trans (State.completeLive_reports ..))
  · exact .refl s

theorem State.failAxisCmds_reports (s : State) (n : Ax) (p : Port) (st : Byte) : OnlyReports s (s.failAxisCmds n p st) := by
  refine .foldl (fun s c => .trans ?_ (State.complete_reports ..)) _ s
  split
  · rename_i l _
    split
    · have h1 : OnlyReports s (if l.store then s.releaseAdm p else s) := by
        split
        · exact s.releaseAdm_reports p
        · exact .refl s
      have h2 (u : State) : OnlyReports u { u with load := none } := .of_eq rfl
      exact h1.trans ((h2 _).trans (State.loadRecord_reports ..))
    · exact .refl s
  · exact .refl s

theorem State.presentLog_ports (s : State) (typ : Byte) (t : W64) (bs : List Byte) : (s.presentLog typ t bs).ports = s.ports := by
  unfold State.presentLog; split <;> rfl

/-- Without commands on a port none fails there. -/
theorem State.failAxisCmds_of_none (s : State) (n : Ax) (p : Port) (st : Byte) (h : (s.port p).cmds = []) : s.failAxisCmds n p st = s := by
  simp [State.failAxisCmds, h]

theorem State.failAll_reports (s : State) (st : Byte) : OnlyReports s (s.failAll st) := by
  have h (u : State) (p : Port) : OnlyReports u ((u.port p).cmds.foldl (fun s c => s.complete p c.tag st c.axisNo []) u) := by
    apply OnlyReports.foldl
    intro s c
    exact s.complete_reports p c.tag st c.axisNo []
  unfold State.failAll
  refine .trans (.trans (s.endLoad_reports st) (State.endStream_reports _ st)) ?_
  exact OnlyReports.foldl h allPorts _

/-! ### Entering OASIS (R287, R234) -/

/-- The axis as it enters OASIS, before its gates settle. -/
def Axis.entersOasis (a : Axis) (clk : Nat) (t : W64) (cause : Nat) : Axis :=
  { ((a.put AX_STATE_CAUSE cause).setReg AX_OASTIME t) with
    st := .oasis, since := clk, held := false, escExit := false, uv2Req := false, stallReq := false,
    gd := { a.gd with opt := BitVec.ofNat 2 (a.get AX_OASIS_OPT), autoShort := false, esc := false,
                      escShort := false, tripInOasis := false, bstOff := false, bstHit := 0, refresh := 0, arm := Arming.idle } }.put AX_SPD_STCNT 0

theorem State.modAx_modAx (s : State) (n : Ax) (f g : Axis → Axis) : (s.modAx n f).modAx n g = s.modAx n (fun a => g (f a)) := by
  simp [State.modAx]

/-- An axis outside OASIS enters it: its record, then reports, then its gates settle. Without commands in flight the ports only
give pulses. -/
theorem State.enterOasis_settles (s : State) (n : Ax) (cause : Nat) (h : (s.ax n).st ≠ .oasis) :
    ∃ u, OnlyReports (s.modAx n (·.entersOasis s.clk s.time cause)) u ∧ s.enterOasis n cause = u.settle n ∧
      (NoCommands s → ∀ k : Port, (s.port k).pulsed (u.port k)) := by
  let s1 := s.modAx n (·.entersOasis s.clk s.time cause)
  let s2 := allPorts.foldl (fun s p => s.failAxisCmds n p stAxisFault) s1
  let s3 := s2.irqRise s
  have h2 : OnlyReports s1 s2 := .foldl (fun s p => s.failAxisCmds_reports n p stAxisFault) allPorts s1
  have h3 : OnlyReports s2 s3 := s2.irqRise_reports s
  refine ⟨_, (h2.trans h3).trans (s3.presentLog_reports 0x11 s.time [0, 0, 0, 0, 0, 0, BitVec.ofNat 8 n.val, BitVec.ofNat 8 cause]),
    ?_, fun hc k => ?_⟩
  · unfold State.enterOasis
    rw [if_neg h]
    simp only [State.aput, State.modAx_modAx]
    rfl
  · have e : s2 = s1 := by
      have hp (p : Port) : s1.failAxisCmds n p stAxisFault = s1 := s1.failAxisCmds_of_none n p stAxisFault (hc p)
      simp only [s2, allPorts, List.foldl_cons, List.foldl_nil, hp]
    have hk : s2.port k = s.port k := by rw [e]; exact s.modAx_port n _ k
    rw [State.port_congr (s3.presentLog_ports ..) k, ← hk]
    exact (s2.irqRise_pulses s).port k

/-- With every command withdrawn Windbreak holds no turn-on (R219). -/
theorem Axis.windbreak_none (a : Axis) (t : Nat) : (a.windbreak t 0).gd.iss = 0 := by
  simp [Axis.windbreak, allGates]

/-- In OASIS an option that names no short turns every gate off (R234, R236). -/
theorem State.wanted_oasis_off (s : State) (n : Ax) (h : (s.ax n).st = .oasis) (ha : (s.ax n).gd.autoShort = false)
    (ho : (s.ax n).gd.opt = 0 ∨ (s.ax n).gd.opt = 3) : s.wanted n = 0 := by
  have : s.oasisOpt n = 0 ∨ s.oasisOpt n = 3 := by
    unfold State.oasisOpt
    rcases ho with ho | ho <;> rw [ho] <;> dsimp only <;> split <;> simp
  have : s.oasisOut n = 0 := by
    unfold State.oasisOut
    rcases this with e | e <;> simp [e, ha]
  simp [State.wanted, State.protective, h, this, shortGates]

end Sys2Proof.Machine
end

section
namespace Sys2Proof.Machine
open Sys2Proof

/-! ### What entering OASIS changes -/

/-- What axes that enter OASIS change: axes, reports; without commands in flight the ports only give pulses. -/
structure OasisFrame (s t : State) : Prop where
  only : t = { s with axes := t.axes, dev := t.dev, ports := t.ports, store := t.store, load := t.load, stream := t.stream }
  dreg : ∀ b : Nat, b ≠ CISTERN_LOST 1 → b ≠ CISTERN_ADM → t.dreg b = s.dreg b
  port : NoCommands s → ∀ k : Port, (s.port k).pulsed (t.port k)

namespace OasisFrame

theorem refl (s : State) : OasisFrame s s := ⟨rfl, fun _ _ _ => rfl, fun _ _ => rfl⟩

theorem trans {s t u : State} (h : OasisFrame s t) (g : OasisFrame t u) : OasisFrame s u := by
  refine ⟨g.only.trans (by rw [h.only]), fun b h1 h2 => (g.dreg b h1 h2).trans (h.dreg b h1 h2), fun hc k => ?_⟩
  have ht : NoCommands t := fun p => by rw [h.port hc p]; exact hc p
  exact PortSt.pulsed_trans (h.port hc k) (g.port ht k)

variable {s t : State} (h : OasisFrame s t)
include h

theorem dget (g : Fld) (h1 : g.a ≠ CISTERN_LOST 1) (h2 : g.a ≠ CISTERN_ADM) : t.dget g = s.dget g := by
  unfold State.dget; rw [h.dreg g.a h1 h2]
theorem clk : t.clk = s.clk := part_of_eq State.clk h.only rfl
theorem time : t.time = s.time := part_of_eq State.time h.only rfl
theorem pins : t.pins = s.pins := part_of_eq State.pins h.only rfl

end OasisFrame

theorem State.settle_only (s : State) (n : Ax) : s.settle n = { s with axes := (s.settle n).axes } := s.settleAt_only n _ _

theorem State.enterOasis_frame (s : State) (n : Ax) (cause : Nat) : OasisFrame s (s.enterOasis n cause) := by
  by_cases h : (s.ax n).st = .oasis
  · rw [s.enterOasis_of_oasis h cause]; exact .refl s
  · obtain ⟨u, hu, e, hp⟩ := s.enterOasis_settles n cause h
    have hs := u.settle_only n
    have hd : (u.settle n).dev = u.dev := part_of_eq State.dev hs rfl
    have hq : (u.settle n).ports = u.ports := part_of_eq State.ports hs rfl
    rw [e]
    refine ⟨?_, fun b h1 h2 => ?_, fun hc k => ?_⟩
    · rw [hs, hu.only]; rfl
    · rw [State.dreg_congr hd, hu.dreg b h1 h2, State.modAx_dreg]
    · rw [State.port_congr hq]; exact hp hc k

theorem State.enterOasis_ax_ne (s : State) {n m : Ax} (cause : Nat) (hm : m ≠ n) : (s.enterOasis n cause).ax m = s.ax m := by
  by_cases h : (s.ax n).st = .oasis
  · rw [s.enterOasis_of_oasis h cause]
  · obtain ⟨u, hu, e, -⟩ := s.enterOasis_settles n cause h
    rw [e, State.settle, State.settleAt_ax_ne _ hm, hu.ax, State.modAx_ax_ne _ hm]

/-- An axis outside OASIS keeps everything but what its entry writes; its gates go off where no short is named (R234). -/
theorem State.enterOasis_ax (s : State) (n : Ax) (cause : Nat) (h : (s.ax n).st ≠ .oasis) :
    (s.enterOasis n cause).ax n = { (s.ax n).entersOasis s.clk s.time cause with
      gd := ((s.enterOasis n cause).ax n).gd, pt := ((s.enterOasis n cause).ax n).pt } ∧
    ((s.ax n).get AX_OASIS_OPT = 0 ∨ (s.ax n).get AX_OASIS_OPT = 3 → ((s.enterOasis n cause).ax n).gd.on = 0) := by
  obtain ⟨u, hu, e, -⟩ := s.enterOasis_settles n cause h
  have ha : u.ax n = (s.ax n).entersOasis s.clk s.time cause := by rw [hu.ax, State.modAx_ax_same]
  rw [e]
  refine ⟨(State.settleAt_ax u n _ _).trans (by rw [ha]; rfl), fun ho => ?_⟩
  have hw : u.wanted n = 0 := by
    refine u.wanted_oasis_off n ?_ ?_ ?_
    · rw [ha]; rfl
    · rw [ha]; rfl
    · rw [ha]; exact ho.imp (fun x => congrArg (BitVec.ofNat 2) x) (fun x => congrArg (BitVec.ofNat 2) x)
  refine BitVec.eq_of_getLsbD_eq fun i hi => ?_
  by_contra hb
  have hon := u.settleAt_on n (32 * u.clk) true ⟨i, hi⟩ (by simpa [State.settle] using hb)
  rw [hw, Axis.windbreak_none] at hon
  simp at hon

/-- An axis outside OASIS that enters it is faulted (R287). -/
theorem State.enterOasis_faulted (s : State) (n : Ax) (cause : Nat) (h : (s.ax n).st ≠ .oasis) (hc : cause < 256) :
    Faulted s (s.enterOasis n cause) n cause := by
  obtain ⟨ha, hon⟩ := s.enterOasis_ax n cause h
  refine ⟨?_, ?_, ?_, ?_, ?_, hon⟩
  · rw [ha]; rfl
  · rw [ha]
    show (((s.ax n).put AX_STATE_CAUSE cause).setReg AX_OASTIME s.time |>.put AX_SPD_STCNT 0).get AX_STATE_CAUSE = cause
    rw [Axis.put_get_reg _ _ _ _ (by decide)]
    simp only [Axis.get]
    rw [Axis.setReg_reg_ne _ (by decide)]
    exact (Axis.put_get_same _ _ _ (by decide)).trans (Nat.mod_eq_of_lt hc)
  · rw [ha]
    show (((s.ax n).put AX_STATE_CAUSE cause).setReg AX_OASTIME s.time |>.put AX_SPD_STCNT 0).reg AX_OASTIME = s.time
    simp only [Axis.put]
    rw [Axis.setReg_reg_ne _ (by decide), Axis.setReg_reg_same]
  · rw [ha]; rfl
  · rw [ha]; rfl

/-- Faults are told by the clock, TIME and the axis before them, and by the axis after. -/
theorem Faulted.congr {s s' t t' : State} {n : Ax} {cause : Nat} (h : Faulted s t n cause) (hc : s'.clk = s.clk) (ht : s'.time = s.time)
    (hs : s'.ax n = s.ax n) (hu : t'.ax n = t.ax n) : Faulted s' t' n cause := by
  unfold Faulted at *
  rw [hc, ht, hs, hu]; exact h

/-- Axes of a list that enter OASIS one after the other: each outside it is faulted, the others stay. -/
theorem foldl_enterOasis (cause : Nat) (hc : cause < 256) : ∀ (l : List Ax) (s : State),
    OasisFrame s (l.foldl (fun s n => s.enterOasis n cause) s) ∧ ∀ n : Ax,
      ((s.ax n).st = .oasis ∨ n ∉ l → (l.foldl (fun s n => s.enterOasis n cause) s).ax n = s.ax n) ∧
      ((s.ax n).st ≠ .oasis → n ∈ l → Faulted s (l.foldl (fun s n => s.enterOasis n cause) s) n cause)
  | [], s => ⟨.refl s, fun n => ⟨fun _ => rfl, fun _ h => absurd h (by simp)⟩⟩
  | m :: l, s => by
    obtain ⟨hf, ih⟩ := foldl_enterOasis cause hc l (s.enterOasis m cause)
    have h1 := s.enterOasis_frame m cause
    refine ⟨h1.trans hf, fun n => ?_⟩
    rw [List.foldl_cons]
    obtain ⟨keep, fault⟩ := ih n
    by_cases e : n = m
    · subst e
      by_cases hs : (s.ax n).st = .oasis
      · have ho := s.enterOasis_of_oasis hs cause
        rw [ho] at keep ⊢
        exact ⟨fun _ => keep (.inl hs), fun h => absurd hs h⟩
      · have hn := s.enterOasis_faulted n cause hs hc
        refine ⟨fun h => ?_, fun _ _ => hn.congr rfl rfl rfl (keep (.inl hn.1))⟩
        simp [hs] at h
    · have ha := s.enterOasis_ax_ne cause e
      rw [ha] at keep fault
      refine ⟨fun h => keep (h.imp_right fun h hl => h (List.mem_cons_of_mem _ hl)), fun hs hl => ?_⟩
      exact (fault hs (by simpa [e] using hl)).congr h1.clk.symm h1.time.symm ha.symm rfl

end Sys2Proof.Machine
end

section
namespace Sys2Proof.Machine
open Sys2Proof

/-! ### A detected fault (R278) -/

theorem State.detect_last (s : State) (code unit detail : Nat) (hc : code < 256) (hu : unit < 32) :
    LastFault (s.detect code unit detail) code unit := by
  have h := OnlyReports.dreg (State.presentLog_reports ((s.setDreg FAULT_LAST (FAULT_LAST_DETAIL.put (FAULT_LAST_UNIT.put
    (FAULT_LAST_CODE.put 0 code) unit) detail)).setDreg FAULT_LASTTIME s.time) 0x10 s.time (wordBytes (FAULT_LAST_DETAIL.put (FAULT_LAST_UNIT.put
    (FAULT_LAST_CODE.put 0 code) unit) detail))) FAULT_LAST (by decide) (by decide)
  rw [State.setDreg_dreg_ne _ (by decide), State.setDreg_dreg_same] at h
  unfold LastFault State.dget State.detect
  dsimp only
  rw [h]
  rw [Fld.get_put_ne _ _ _ _ (by decide) (by decide), Fld.get_put_ne _ _ _ _ (by decide) (by decide),
    Fld.get_put_same _ _ _ (by decide), Fld.get_put_ne _ _ _ _ (by decide) (by decide), Fld.get_put_same _ _ _ (by decide)]
  exact ⟨Nat.mod_eq_of_lt hc, Nat.mod_eq_of_lt hu⟩

theorem LastFault.congr {t u : State} {code unit : Nat} (h : LastFault t code unit) (e : u.dreg FAULT_LAST = t.dreg FAULT_LAST) :
    LastFault u code unit := by
  unfold LastFault State.dget at *
  rwa [e]

theorem State.detect_dreg (s : State) (code unit detail b : Nat) (h1 : b ≠ FAULT_LAST) (h2 : b ≠ FAULT_LASTTIME)
    (h3 : b ≠ CISTERN_LOST 1) (h4 : b ≠ CISTERN_ADM) : (s.detect code unit detail).dreg b = s.dreg b := by
  unfold State.detect
  dsimp only
  rw [(State.presentLog_reports ..).dreg b h3 h4, State.setDreg_dreg_ne _ h2, State.setDreg_dreg_ne _ h1]

/-- Registers that a fault in OASIS writes: those of the last fault, of lost LOG records and of the write admission. -/
def faultRegs : List Nat := [FAULT_LAST, FAULT_LASTTIME, CISTERN_LOST 1, CISTERN_ADM]

theorem State.detect_dget (s : State) (code unit detail : Nat) (g : Fld) (h : g.a ∉ faultRegs) :
    (s.detect code unit detail).dget g = s.dget g := by
  simp only [faultRegs, List.mem_cons, List.not_mem_nil, or_false, not_or] at h
  obtain ⟨h1, h2, h3, h4⟩ := h
  unfold State.dget; rw [s.detect_dreg _ _ _ _ h1 h2 h3 h4]

@[simp] theorem State.detect_fields (s : State) (code unit detail : Nat) : (s.detect code unit detail).pending = s.pending ∧
    (s.detect code unit detail).clk = s.clk ∧ (s.detect code unit detail).tm = s.tm ∧ (s.detect code unit detail).axes = s.axes ∧
    (s.detect code unit detail).engines = s.engines ∧ (s.detect code unit detail).ports = s.ports ∧
    (s.detect code unit detail).load = s.load ∧ (s.detect code unit detail).pins = s.pins :=
  have h := s.detect_only code unit detail
  ⟨part_of_eq State.pending h rfl, part_of_eq State.clk h rfl, part_of_eq State.tm h rfl, part_of_eq State.axes h rfl,
    part_of_eq State.engines h rfl, part_of_eq State.ports h rfl, part_of_eq State.load h rfl, part_of_eq State.pins h rfl⟩

/-! ### Every port at once -/

theorem foldl_modPort_port (g : Port → PortSt → PortSt) (k : Port) : ∀ (l : List Port) (s : State), l.Nodup →
    (l.foldl (fun s p => s.modPort p (g p)) s).port k = if k ∈ l then g k (s.port k) else s.port k
  | [], s, _ => by simp
  | p :: l, s, h => by
    obtain ⟨hp, hl⟩ := List.nodup_cons.1 h
    rw [List.foldl_cons, foldl_modPort_port g k l _ hl]
    by_cases e : k = p
    · subst e; simp [hp]
    · simp [e, State.modPort_port_ne _ e]

theorem foldl_modPort_only (g : Port → PortSt → PortSt) : ∀ (l : List Port) (s : State),
    l.foldl (fun s p => s.modPort p (g p)) s = { s with ports := (l.foldl (fun s p => s.modPort p (g p)) s).ports }
  | [], _ => rfl
  | p :: l, s => (foldl_modPort_only g l (s.modPort p (g p))).trans rfl

theorem mem_allPorts (k : Port) : k ∈ allPorts := by revert k; decide

/-- DEVLATCH sets, with pulses on IRQ (R278, R309). -/
theorem State.devLatch_pulses (s : State) : OnlyPulses (s.dput FAULT_FNCTL_DEVLATCH 1) s.devLatch := State.irqRise_pulses _ s

/-! ### The double fault of R13 -/

/-- The commands of the ports set aside. -/
def State.withoutCmds (s : State) : State := { s with ports := s.ports.map (fun (q : PortSt) => { q with cmds := [] }) }

theorem State.withoutCmds_port (s : State) (k : Port) : s.withoutCmds.port k = { s.port k with cmds := [] } := by
  simp [State.withoutCmds, State.port]

/-- The double fault is a detected fault of the device, every axis in OASIS, the commands put back, and DEVLATCH. -/
theorem State.doublePll_steps (s : State) : ∃ u v : State, OasisFrame (s.withoutCmds.detect 29 unitDev 0) u ∧
    v = { u with ports := v.ports } ∧ (∀ k : Port, v.port k = { u.port k with cmds := (s.port k).cmds }) ∧
    s.doublePll = v.devLatch.modPins (fun p => { p with noClock := true }) ∧
    ∀ n : Ax, ((s.ax n).st = .oasis → u.ax n = s.ax n) ∧ ((s.ax n).st ≠ .oasis → Faulted s u n 29) := by
  let s2 := s.withoutCmds.detect 29 unitDev 0
  let u := allAx.foldl (fun s n => s.enterOasis n 29) s2
  let v := allPorts.foldl (fun t p => t.modPort p (fun q => { q with cmds := s.ports[p].cmds })) u
  obtain ⟨hf, hn⟩ := foldl_enterOasis 29 (by decide) allAx s2
  refine ⟨u, v, hf, foldl_modPort_only _ allPorts u, fun k => ?_, rfl, fun n => ?_⟩
  · exact (foldl_modPort_port (fun p q => { q with cmds := s.ports[p].cmds }) k allPorts u (by decide)).trans (if_pos (mem_allPorts k))
  · have ha : s2.ax n = s.ax n := State.ax_congr (s.withoutCmds.detect_fields 29 unitDev 0).2.2.2.1 n
    have hc : s2.clk = s.clk := (s.withoutCmds.detect_fields 29 unitDev 0).2.1
    have ht : s2.time = s.time := by
      simp only [State.time]; rw [(s.withoutCmds.detect_fields 29 unitDev 0).2.2.1]; rfl
    obtain ⟨keep, fault⟩ := hn n
    rw [ha] at keep fault
    exact ⟨fun h => keep (.inl h), fun h => (fault h (mem_allAx n)).congr hc.symm ht.symm ha.symm rfl⟩

end Sys2Proof.Machine
end

section
namespace Sys2Proof.Machine
open Sys2Proof

theorem State.doublePll_noClock (s : State) : s.doublePll.pins.noClock = true := by
  obtain ⟨u, v, -, -, -, e, -⟩ := s.doublePll_steps
  rw [e]; rfl

/-- The double fault in the registers: DEVLATCH, the last fault, lost LOG records, the write admission. -/
theorem State.doublePll_dreg (s : State) (b : Nat) (hb : b ∉ [CISTERN_LOST 1, CISTERN_ADM]) : s.doublePll.dreg b =
    ((s.withoutCmds.detect 29 unitDev 0).dput FAULT_FNCTL_DEVLATCH 1).dreg b := by
  obtain ⟨u, v, hf, hv, -, e, -⟩ := s.doublePll_steps
  have h1 : v.devLatch.dev = (v.dput FAULT_FNCTL_DEVLATCH 1).dev := part_of_eq State.dev v.devLatch_pulses.only rfl
  have h2 : v.dev = u.dev := part_of_eq State.dev hv rfl
  have h3 (c : Nat) (hc : c ∉ [CISTERN_LOST 1, CISTERN_ADM]) : v.dreg c = (s.withoutCmds.detect 29 unitDev 0).dreg c := by
    simp only [List.mem_cons, List.not_mem_nil, or_false, not_or] at hc
    rw [State.dreg_congr h2, hf.dreg c hc.1 hc.2]
  rw [e, State.modPins_dreg, State.dreg_congr h1]
  by_cases hd : b = FAULT_FNCTL
  · subst hd
    simp only [State.dput, State.setDreg_dreg_same]
    rw [h3 _ (by decide)]
  · simp only [State.dput]
    rw [State.setDreg_dreg_ne _ hd, State.setDreg_dreg_ne _ hd, h3 b hb]

theorem State.doublePll_dget (s : State) (g : Fld) (hg : g.a ∉ FAULT_FNCTL :: faultRegs) : s.doublePll.dget g = s.dget g := by
  simp only [faultRegs, List.mem_cons, List.not_mem_nil, or_false, not_or] at hg
  obtain ⟨h0, h1, h2, h3, h4⟩ := hg
  have e := s.doublePll_dreg g.a (by simp [h3, h4])
  simp only [State.dput] at e
  rw [State.setDreg_dreg_ne _ h0, State.detect_dreg _ _ _ _ _ h1 h2 h3 h4] at e
  unfold State.dget; rw [e]; rfl

theorem State.doublePll_latch (s : State) : s.doublePll.dget FAULT_FNCTL_DEVLATCH = 1 := by
  unfold State.dget
  rw [s.doublePll_dreg _ (by decide)]
  exact State.dput_dget_same _ FAULT_FNCTL_DEVLATCH 1 (by decide)

theorem State.doublePll_last (s : State) : LastFault s.doublePll 29 unitDev := by
  have h := s.withoutCmds.detect_last 29 unitDev 0 (by decide) (by decide)
  refine h.congr ?_
  rw [s.doublePll_dreg _ (by decide)]
  exact State.setDreg_dreg_ne _ (by decide) _

theorem State.doublePll_ax (s : State) (n : Ax) : ((s.ax n).st = .oasis → s.doublePll.ax n = s.ax n) ∧
    ((s.ax n).st ≠ .oasis → Faulted s s.doublePll n 29) := by
  obtain ⟨u, v, hf, hv, -, e, hn⟩ := s.doublePll_steps
  have h1 : v.devLatch.axes = v.axes := part_of_eq State.axes v.devLatch_pulses.only rfl
  have h2 : v.axes = u.axes := part_of_eq State.axes hv rfl
  have ha : s.doublePll.ax n = u.ax n := by
    rw [e, State.modPins_ax, State.ax_congr h1, State.ax_congr h2]
  exact ⟨fun h => ha.trans ((hn n).1 h), fun h => ((hn n).2 h).congr rfl rfl rfl ha⟩

theorem State.doublePll_port (s : State) (k : Port) : (s.port k).pulsed (s.doublePll.port k) := by
  obtain ⟨u, v, hf, hv, hk, e, -⟩ := s.doublePll_steps
  have hq : (s.withoutCmds.detect 29 unitDev 0).ports = s.withoutCmds.ports := (s.withoutCmds.detect_fields 29 unitDev 0).2.2.2.2.2.1
  have hc : NoCommands (s.withoutCmds.detect 29 unitDev 0) := fun p => by
    rw [State.port_congr hq, s.withoutCmds_port]
  have h1 := hf.port hc k
  rw [State.port_congr hq, s.withoutCmds_port] at h1
  rw [e, State.modPins_port]
  refine PortSt.pulsed_trans ?_ (v.devLatch_pulses.port k)
  rw [State.dput_port, hk k]
  unfold PortSt.pulsed at *
  rw [h1]

end Sys2Proof.Machine
end

section
namespace Sys2Proof.Machine
open Sys2Proof

/-! ### Completions on their port (R294, R321) -/

theorem State.irqPulse_port_ne (s : State) {p k : Port} (b : Nat) (h : k ≠ p) : (s.irqPulse p b).port k = s.port k := by
  unfold State.irqPulse; split
  · exact State.modPort_port_ne _ h _
  · rfl

/-- A completion leaves every other port alone. -/
theorem State.completeWith_port_ne (s : State) {p k : Port} (tag : W16) (st : Byte) (axis : BitVec 4) (data : List W64) (w : Option W16)
    (h : k ≠ p) : (s.completeWith p tag st axis data w).port k = s.port k := by
  unfold State.completeWith
  rw [State.irqPulse_port_ne _ _ h, State.modPort_port_ne _ h]

/-- A completion takes the commands of its tag out of the list and joins the ring under the next CSEQ; but for pulses on IRQ
nothing else changes. -/
theorem State.completeWith_port (s : State) (p : Port) (tag : W16) (st : Byte) (axis : BitVec 4) (data : List W64) (w : Option W16) :
    PortSt.pulsed { s.port p with
      cmds := (s.port p).cmds.filter (fun c => c.tag != tag)
      ring := (s.port p).ring ++ [{ tag := tag, status := st, axis := axis, data := data, time := s.time, cseq := (s.port p).cseq,
                                    wrote := w, sent := false }]
      cseq := (s.port p).cseq + 1 } ((s.completeWith p tag st axis data w).port p) := by
  have h := (State.irqPulse_pulses (s.modPort p (fun q => { q with
    cmds := q.cmds.filter (fun c => c.tag != tag),
    ring := q.ring ++ [{ tag := tag, status := st, axis := axis, data := data, time := s.time, cseq := q.cseq,
                         wrote := w, sent := false }],
    cseq := q.cseq + 1 })) p 0).port p
  rwa [State.modPort_port_same] at h

namespace PortSt.pulsed
variable {q r : PortSt} (h : q.pulsed r)
include h
theorem cmds : r.cmds = q.cmds := part_of_eq PortSt.cmds h rfl
theorem ring : r.ring = q.ring := part_of_eq PortSt.ring h rfl
theorem cseq : r.cseq = q.cseq := part_of_eq PortSt.cseq h rfl
theorem inl : r.inl = q.inl := part_of_eq PortSt.inl h rfl
theorem nextTag : r.nextTag = q.nextTag := part_of_eq PortSt.nextTag h rfl
end PortSt.pulsed

/-- The commands of a list complete one after the other on port p. -/
theorem foldl_complete_port (st : Byte) (p : Port) : ∀ (l : List Cmd) (s : State),
    let t := l.foldl (fun s c => s.complete p c.tag st c.axisNo []) s
    (∀ k : Port, k ≠ p → t.port k = s.port k) ∧
    (t.port p).cmds = (s.port p).cmds.filter (fun c => l.all (fun x => c.tag != x.tag)) ∧
    (t.port p).ring.map (fun x => (x.tag, x.status)) =
      (s.port p).ring.map (fun x => (x.tag, x.status)) ++ l.map (fun c => (c.tag, st))
  | [], s => by simp
  | c :: l, s => by
    obtain ⟨hne, hcmds, hring⟩ := foldl_complete_port st p l (s.complete p c.tag st c.axisNo [])
    have h : PortSt.pulsed _ ((s.complete p c.tag st c.axisNo []).port p) := s.completeWith_port p c.tag st c.axisNo [] none
    refine ⟨fun k hk => (hne k hk).trans (s.completeWith_port_ne _ _ _ _ _ hk), ?_, ?_⟩
    · rw [List.foldl_cons, hcmds, h.cmds, List.filter_filter]
      exact List.filter_congr fun x _ => by simp [Bool.and_comm]
    · rw [List.foldl_cons, hring, h.ring]
      simp

/-- Every command in flight on the ports of a list completes with a status. -/
theorem foldl_ports_complete (st : Byte) : ∀ (l : List Port) (s : State), l.Nodup →
    let t := l.foldl (fun s p => (s.port p).cmds.foldl (fun s c => s.complete p c.tag st c.axisNo []) s) s
    ∀ k : Port, (k ∉ l → t.port k = s.port k) ∧ (k ∈ l → (t.port k).cmds = [] ∧
      (t.port k).ring.map (fun x => (x.tag, x.status)) =
        (s.port k).ring.map (fun x => (x.tag, x.status)) ++ (s.port k).cmds.map (fun c => (c.tag, st)))
  | [], s, _ => by simp
  | p :: l, s, hl => by
    obtain ⟨hp, hl⟩ := List.nodup_cons.1 hl
    have ih := foldl_ports_complete st l ((s.port p).cmds.foldl (fun s c => s.complete p c.tag st c.axisNo []) s) hl
    obtain ⟨hne, hcmds, hring⟩ := foldl_complete_port st p (s.port p).cmds s
    intro t k
    by_cases e : k = p
    · subst e
      have hk : t.port k = _ := (ih k).1 hp
      refine ⟨fun h => absurd (List.mem_cons_self ..) h, fun _ => ⟨?_, ?_⟩⟩
      · rw [hk, hcmds, List.filter_eq_nil_iff]
        intro c hc
        simp only [List.all_eq_true, not_forall]
        exact ⟨c, hc, by simp⟩
      · rw [hk, hring]
    · obtain ⟨out, inn⟩ := ih k
      rw [hne k e] at out inn
      exact ⟨fun h => out fun hm => h (List.mem_cons_of_mem _ hm), fun h => inn (by simpa [e] using h)⟩

theorem State.failAll_port (s : State) (st : Byte) (k : Port) : ((s.failAll st).port k).cmds = [] ∧
    (s.load = none → s.stream = none → ((s.failAll st).port k).ring.map (fun x => (x.tag, x.status)) =
      (s.port k).ring.map (fun x => (x.tag, x.status)) ++ (s.port k).cmds.map (fun c => (c.tag, st))) := by
  have h := (foldl_ports_complete st allPorts ((s.endLoad st).endStream st) (by decide) k).2 (mem_allPorts k)
  refine ⟨h.1, fun hl hs => h.2.trans ?_⟩
  have e : (s.endLoad st).endStream st = s := by simp [State.endLoad, hl, State.endStream, hs]
  rw [e]

end Sys2Proof.Machine
end

section
namespace Sys2Proof.Machine
open Sys2Proof

/-! ### The reset state -/

/-- Every engine and every axis of the reset state stands as R35 and R286 give it. -/
theorem reset_units : (∀ e : Eng, (State.reset.eng e).pool = (if e.val < 8 then PoolSt.active else PoolSt.spare)) ∧
    (∀ n : Ax, (State.reset.ax n).engine.map (·.val) = some n.val ∧ (State.reset.ax n).st = .off ∧ (State.reset.ax n).gd.on = 0 ∧
      (State.reset.ax n).loaded = false ∧ (State.reset.ax n).run.running = false) := by
  decide +kernel

/-- Settles O58: each part is evaluated on the one reset state. -/
theorem resetState : Obligations.ResetState := by
  unfold Obligations.ResetState
  obtain ⟨engines, axes⟩ := reset_units
  exact ⟨rfl, by decide +kernel, rfl, engines, axes, by decide +kernel, by decide +kernel, by decide +kernel⟩

end Sys2Proof.Machine
end

section
namespace Sys2Proof.Machine
open Sys2Proof

/-! ### The rows of the clocks -/

theorem standbyPllLoss_counts (s : State) (h : s.dget SYS_CLKSTAT_STBY_BAD = 0) : exec .standbyPllLoss s =
    .next ((((s.pllLost (1 - s.dget SYS_CLKSTAT_ACTIVE)).dput SYS_CLKSTAT_STBY_BAD 1).lifeCount 29 unitDev).dinc FAULT_DCNT0_CLK_SWITCH) := by
  show execStandbyPllLoss s = _
  have e : devCounter 29 = some FAULT_DCNT0_CLK_SWITCH := rfl
  simp [execStandbyPllLoss, h, State.count_dev _ e, State.standbyPll, State.activePll]

theorem standbyPllLoss_again (s : State) (h : s.dget SYS_CLKSTAT_STBY_BAD = 1) :
    exec .standbyPllLoss s = .next (s.pllLost (1 - s.dget SYS_CLKSTAT_ACTIVE)) := by
  show execStandbyPllLoss s = _
  simp [execStandbyPllLoss, h, State.standbyPll, State.activePll]

theorem standbyPllRestored_good (s : State) (h : s.dget SYS_CLKSTAT_STBY_BAD = 1 ∧
    s.pins.pllAt.getD (1 - s.dget SYS_CLKSTAT_ACTIVE) 0 + tenMs ≤ s.clk) (hc : s.pins.noClock = false) : exec .standbyPllRestored s =
    .next ((s.dput (lockFld (1 - s.dget SYS_CLKSTAT_ACTIVE)) 1).dput SYS_CLKSTAT_STBY_BAD 0) := by
  show execStandbyPllRestored s = _
  unfold execStandbyPllRestored State.standbyPll State.activePll
  dsimp only
  rw [if_pos h, State.dput_pins, hc]
  rfl

theorem standbyPllRestored_active (s : State) (h : s.dget SYS_CLKSTAT_STBY_BAD = 1 ∧
    s.pins.pllAt.getD (1 - s.dget SYS_CLKSTAT_ACTIVE) 0 + tenMs ≤ s.clk) (hc : s.pins.noClock = true) : exec .standbyPllRestored s =
    .next ((((s.dput (lockFld (1 - s.dget SYS_CLKSTAT_ACTIVE)) 1).switchPll.modPins (fun p => { p with noClock := false })).failAll
      stDeviceFault)) := by
  show execStandbyPllRestored s = _
  unfold execStandbyPllRestored State.standbyPll State.activePll
  dsimp only
  rw [if_pos h, State.dput_pins, hc]
  rfl

theorem refLost_first (s : State) (h : s.dget SYS_CLKSTAT_REF_SRC = 0) : exec .refLost s =
    .next ((((((s.modPins (fun p => { p with xinBad := true })).dput SYS_CLKSTAT_REF_SRC 1).dput SYS_CLKSTAT_REF_LOSTF 1).lifeCount 30
      unitDev).dinc FAULT_DCNT0_REF_LOST).dput SYS_TIMESTAT_DEGRADED 1) := by
  show execRefLost s = _
  have e : devCounter 30 = some FAULT_DCNT0_REF_LOST := rfl
  simp [execRefLost, h, State.count_dev _ e]

/-- The return to XIN that REF_REARM or REF_RET asks for (R15). -/
theorem State.backToXin_taken (s : State) (h : s.dget SYS_CLKSTAT_REF_SRC = 1) (hx : s.pins.xinBad = false) :
    s.backToXin = ((s.dput SYS_CLKSTAT_REF_SRC 0).dput SYS_TIMESTAT_DEGRADED 0).recalibrate := if_pos ⟨h, hx⟩

theorem State.backToXin_left (s : State) (h : ¬(s.dget SYS_CLKSTAT_REF_SRC = 1 ∧ s.pins.xinBad = false)) : s.backToXin = s := if_neg h

@[simp] theorem State.recalibrate_fields (s : State) : s.recalibrate.pending = s.pending ∧ s.recalibrate.clk = s.clk ∧
    s.recalibrate.engines = s.engines ∧ s.recalibrate.ports = s.ports ∧ s.recalibrate.pins = { s.pins with hresAt := s.clk } :=
  have h := s.recalibrate_only
  ⟨part_of_eq State.pending h rfl, part_of_eq State.clk h rfl, part_of_eq State.engines h rfl, part_of_eq State.ports h rfl,
    (congrArg State.pins h :)⟩

theorem refReturn_taken (s : State) (h : s.dget SYS_CLKSTAT_REF_SRC = 1) (hr : s.dget SYS_CLKCTL_REF_RET = 1) : exec .refReturn s =
    .next ((((s.modPins (fun p => { p with xinBad := false })).dput SYS_CLKSTAT_REF_SRC 0).dput SYS_TIMESTAT_DEGRADED 0).recalibrate) := by
  show execRefReturn s = _
  unfold execRefReturn
  dsimp only
  rw [if_pos (by exact hr), State.backToXin_taken _ (by exact h) rfl]

theorem refReturn_left (s : State) (h : ¬(s.dget SYS_CLKSTAT_REF_SRC = 1 ∧ s.dget SYS_CLKCTL_REF_RET = 1)) : exec .refReturn s =
    .next (s.modPins (fun p => { p with xinBad := false })) := by
  show execRefReturn s = _
  unfold execRefReturn
  dsimp only
  split
  · rename_i hr
    exact congrArg _ (State.backToXin_left _ (fun hb => h ⟨hb.1, hr⟩))
  · rfl

theorem delayLineRecalibrationEnd_due (s : State) (h : s.pins.hresAt + 2 * usTicks ≤ s.clk) :
    (s.dget SYS_CLKSTAT_HRES_FB = 1 ∧ exec .delayLineRecalibrationEnd s = .next (s.dput SYS_CLKSTAT_HRES_FB 0)) ∨
    (s.dget SYS_CLKSTAT_HRES_FB = 0 ∧ exec .delayLineRecalibrationEnd s = .next s) := by
  show _ ∧ execDelayLineRecalibrationEnd s = _ ∨ _ ∧ execDelayLineRecalibrationEnd s = _
  obtain h0 | h0 := s.dget_bit SYS_CLKSTAT_HRES_FB rfl
  · exact .inr ⟨h0, by simp [execDelayLineRecalibrationEnd, h0]⟩
  · exact .inl ⟨h0, by simp [execDelayLineRecalibrationEnd, h0, h]⟩

/-- Settles O34: each row is brought to the writes it makes, and each register is read through them. -/
theorem clockEvents : Obligations.ClockEvents := by
  unfold Obligations.ClockEvents
  intro n p s a bad act recal same lost good back
  have ha : act = 0 ∨ act = 1 := s.dget_bit _ rfl
  refine ⟨?_, ?_, ?_, ?_, ?_, ?_, ?_, ?_, ?_, ?_, ?_, ?_, ?_, ?_, ?_, ?_⟩
  · intro h
    exact runs_of_exec (if_pos h) rfl
  · intro h hb
    refine runs_of_exec (pllFail_switches s h hb) ?_
    rcases ha with ha | ha <;> simp only [act] at ha <;>
      simp -implicitDefEqProofs (disch := decide) [CountedDev, act, recal, same, lost, a, ha, Axis.recalibrated, State.switchPll_dget,
        State.dput_dget_same, State.dput_dget_reg, State.dput_dget_fld, State.dinc_dget_reg, State.dinc_dget]
  · intro h hb
    refine runs_of_exec (pllFail_doubleFault s h hb) ?_
    generalize hu : ((s.pllLost (s.dget SYS_CLKSTAT_ACTIVE)).lifeCount 29 unitDev).dinc FAULT_DCNT0_CLK_SWITCH = u
    have hax : u.ax n = a := by simp -implicitDefEqProofs [← hu, a]
    have hclk : s.clk = u.clk := by simp -implicitDefEqProofs [← hu]
    have htime : s.time = u.time := by simp -implicitDefEqProofs [← hu, State.time]
    have hport : u.port p = s.port p := by simp -implicitDefEqProofs [← hu, State.port]
    obtain ⟨keep, fault⟩ := u.doublePll_ax n
    rw [hax] at keep fault
    have hp := u.doublePll_port p
    rw [hport] at hp
    refine ⟨u.doublePll_noClock, u.doublePll_last, u.doublePll_latch, ?_, ?_, ?_, fun hs => (fault hs).congr hclk htime hax.symm rfl, keep,
      hp.cmds, hp.ring⟩
    all_goals
      rcases ha with ha | ha <;> simp only [act] at ha <;>
        simp -implicitDefEqProofs (disch := decide) [CountedDev, act, ha, State.doublePll_dget, ← hu, State.dput_dget_same, State.dput_dget_reg,
          State.dput_dget_fld, State.dinc_dget_reg, State.dinc_dget]
  · intro hb
    refine runs_of_exec (standbyPllLoss_counts s hb) ?_
    rcases ha with ha | ha <;> simp only [act] at ha <;>
      simp -implicitDefEqProofs (disch := decide) [CountedDev, act, same, lost, ha, State.dput_dget_same, State.dput_dget_reg,
        State.dput_dget_fld, State.dinc_dget_reg, State.dinc_dget]
  · intro hb
    simp only [bad] at hb
    refine runs_of_exec (standbyPllLoss_again s hb) ⟨rfl, ?_⟩
    rcases ha with ha | ha <;> simp only [act] at ha <;>
      simp -implicitDefEqProofs (disch := decide) [act, ha, State.dput_dget_same, State.dput_dget_fld, hb]
  · intro hg hc
    refine runs_of_exec (standbyPllRestored_good s hg hc) ⟨rfl, ?_⟩
    rcases ha with ha | ha <;> simp only [act] at ha <;>
      simp -implicitDefEqProofs (disch := decide) [act, ha, State.dput_dget_same, State.dput_dget_fld]
  · intro hg hc
    refine runs_of_exec (standbyPllRestored_active s hg hc) ?_
    generalize hu : (s.dput (lockFld (1 - s.dget SYS_CLKSTAT_ACTIVE)) 1).switchPll.modPins (fun p => { p with noClock := false }) = u
    have hr := u.failAll_reports stDeviceFault
    obtain ⟨hcmds, hring⟩ := u.failAll_port stDeviceFault p
    have hport : u.port p = s.port p := by simp -implicitDefEqProofs [← hu, State.port]
    have hload : u.load = s.load := by simp -implicitDefEqProofs [← hu]
    have hstream : u.stream = s.stream := by simp -implicitDefEqProofs [← hu]
    rw [hload, hstream, hport] at hring
    refine ⟨?_, ?_, ?_, ?_, hcmds, hring⟩
    · rw [hr.pins, ← hu]; rfl
    · rw [hr.dget _ (by decide) (by decide), ← hu]
      rcases ha with ha | ha <;> simp only [act] at ha <;>
        simp -implicitDefEqProofs (disch := decide) [act, ha, State.switchPll_dget, State.dput_dget_same, State.dput_dget_fld]
    · rcases ha with ha | ha <;> simp only [act] at ha ⊢ <;> rw [ha, hr.dget _ (by decide) (by decide), ← hu] <;>
        simp -implicitDefEqProofs (disch := decide) [ha, State.switchPll_dget, State.dput_dget_same, State.dput_dget_fld]
    · rw [hr.ax, ← hu]
      simp -implicitDefEqProofs [Axis.recalibrated, a]
  · intro hg
    exact runs_of_exec (if_neg hg) rfl
  · intro h
    rcases delayLineRecalibrationEnd_due s h with ⟨h1, e⟩ | ⟨h0, e⟩
    · refine runs_of_exec e ⟨rfl, ?_⟩
      simp -implicitDefEqProofs (disch := decide) [act, State.dput_dget_same, State.dput_dget_fld]
    · exact runs_of_exec e ⟨rfl, h0, rfl⟩
  · intro h
    exact runs_of_exec (if_neg (by omega)) rfl
  · exact runs_of_exec rfl rfl
  · refine runs_of_exec rfl ⟨rfl, fun m hm => ?_, ?_⟩
    · exact State.modAx_ax_ne s hm _
    · exact State.modAx_ax_same s n _
  · intro h
    refine runs_of_exec (refLost_first s h) ?_
    simp -implicitDefEqProofs (disch := decide) [CountedDev, same, State.dput_dget_same, State.dput_dget_reg,
        State.dput_dget_fld, State.dinc_dget_reg, State.dinc_dget]
  · intro h
    exact runs_of_exec (if_pos h) rfl
  · intro h
    refine runs_of_exec (refReturn_taken s h.1 h.2) ?_
    simp -implicitDefEqProofs (disch := decide) [recal, same, a, State.recalibrate_dget, State.recalibrate_ax, Axis.recalibrated,
      State.dput_dget_same, State.dput_dget_reg, State.dput_dget_fld]
  · intro h
    exact runs_of_exec (refReturn_left s h) rfl
end Sys2Proof.Machine
end

section
namespace Sys2Proof.Machine
open Sys2Proof

/-! ### Two-bit items of a field: the island states (R32) -/

/-- A two-bit item is told by the bits up to its end. -/
theorem item_congr {a b k : Nat} (h : a % (2 ^ k * 4) = b % (2 ^ k * 4)) : (a >>> k) % 4 = (b >>> k) % 4 := by
  rw [Nat.shiftRight_eq_div_pow, Nat.shiftRight_eq_div_pow, ← Nat.mod_mul_right_div_self, h, Nat.mod_mul_right_div_self]

/-- A replaced item stands between the items above it and those below. -/
theorem putItem_eq (v i x : Nat) : putItem v i 2 x = 2 ^ (2 * i) * (4 * (v / 2 ^ (2 * i) / 4) + x % 4) + v % 2 ^ (2 * i) := by
  have h1 := Nat.div_add_mod v (2 ^ (2 * i))
  have h2 := Nat.div_add_mod (v / 2 ^ (2 * i)) 4
  unfold putItem
  rw [Nat.shiftRight_eq_div_pow]
  generalize 2 ^ (2 * i) = b at *
  generalize hq : v / b / 4 = q at *
  generalize hd : v / b % 4 = d at *
  rw [← h2] at h1
  have e : b * (4 * q + d) = b * (4 * q) + d * b := by ring
  have hv : v - d * b = b * (4 * q) + v % b := by omega
  rw [hv, Nat.mul_add, show (2 : Nat) ^ 2 = 4 from rfl, Nat.mul_comm b (x % 4)]
  omega

theorem putItem_same (v i x : Nat) : (putItem v i 2 x >>> (2 * i)) % 4 = x % 4 := by
  have hb : 0 < 2 ^ (2 * i) := by positivity
  rw [putItem_eq, Nat.shiftRight_eq_div_pow, Nat.mul_add_div hb, Nat.div_eq_of_lt (Nat.mod_lt _ hb)]
  omega

theorem putItem_ne (v x : Nat) {i m : Nat} (h : m ≠ i) : (putItem v i 2 x >>> (2 * m)) % 4 = (v >>> (2 * m)) % 4 := by
  have hb : 0 < 2 ^ (2 * i) := by positivity
  rcases Nat.lt_or_gt_of_ne h with h | h
  · obtain ⟨d, rfl⟩ := Nat.exists_eq_add_of_lt h
    have hd : 2 ^ (2 * m) * 4 ∣ 2 ^ (2 * (m + d + 1)) := ⟨4 ^ d, by rw [show (4 : Nat) = 2 ^ 2 from rfl, ← pow_mul]; ring⟩
    refine item_congr ?_
    rw [← Nat.mod_mod_of_dvd _ hd, putItem_eq, Nat.mul_add_mod, Nat.mod_mod, Nat.mod_mod_of_dvd _ hd]
  · obtain ⟨d, rfl⟩ := Nat.exists_eq_add_of_lt h
    have e : 2 * (i + d + 1) = 2 * i + (2 + 2 * d) := by ring
    rw [e, Nat.shiftRight_add, Nat.shiftRight_add, Nat.shiftRight_add v, Nat.shiftRight_add (v >>> (2 * i)), Nat.shiftRight_eq_div_pow _ (2 * i),
      Nat.shiftRight_eq_div_pow v, putItem_eq, Nat.mul_add_div hb, Nat.div_eq_of_lt (Nat.mod_lt _ hb)]
    congr 2
    rw [Nat.shiftRight_eq_div_pow, Nat.shiftRight_eq_div_pow]
    omega

/-- An item of a 16-bit field that has been written. -/
theorem item_of_field (a : Nat) (m : Ax) : ((a % 2 ^ 16) >>> (2 * m.val)) % 4 = (a >>> (2 * m.val)) % 4 := by
  refine item_congr (Nat.mod_mod_of_dvd _ ?_)
  have h4 : (2 : Nat) ^ (2 * m.val) * 4 = 2 ^ (2 * m.val + 2) := (pow_add 2 _ 2).symm
  rw [h4]
  exact Nat.pow_dvd_pow 2 (by omega)

theorem State.setIsl_ptIsl (s : State) (n m : Ax) (st : Nat) : (s.setIsl n st).ptIsl m = if m = n then st % 4 else s.ptIsl m := by
  unfold State.setIsl State.ptIsl
  rw [State.dput_dget_fld _ SYS_ISLAND0_ADC SYS_ISLAND0_PT _ rfl (by decide) (by decide), State.dput_dget_same _ _ _ (by decide)]
  refine (item_of_field _ m).trans ?_
  split
  · rename_i e; subst e; exact putItem_same ..
  · rename_i e; exact putItem_ne _ _ fun h => e (Fin.ext h)

theorem State.setIsl_adcIsl (s : State) (n m : Ax) (st : Nat) : (s.setIsl n st).adcIsl m = if m = n then st % 4 else s.adcIsl m := by
  unfold State.setIsl State.adcIsl
  rw [State.dput_dget_same _ _ _ (by decide)]
  refine (item_of_field _ m).trans ?_
  split
  · rename_i e; subst e; exact putItem_same ..
  · rename_i e; exact putItem_ne _ _ fun h => e (Fin.ext h)

/-! ### Crossings (R19) -/

/-- Counts that a crossing makes for an axis. -/
def State.crossedAx (s : State) (n : Ax) : State := (s.lifeCount 31 n.val).ainc n AX_CNT4_CDC_MISMATCH
def Axis.crossed (a : Axis) : Axis := a.setReg AX_CNT4_CDC_MISMATCH.a (satField AX_CNT4_CDC_MISMATCH (a.reg AX_CNT4_CDC_MISMATCH.a))
/-- Counts that a crossing makes for the device. -/
def State.crossedDev (s : State) : State := (s.lifeCount 31 unitDev).dinc FAULT_DCNT0_CDC_MISMATCH

theorem cdcMismatch_ax (s : State) (n : Ax) (p : Port) (tag : W16) : exec (.cdcMismatch (some n) p tag false) s = .next (s.crossedAx n) ∧
    exec (.cdcMismatch (some n) p tag true) s = .next ((((s.crossedAx n).crossedAx n).detect 31 n.val 0).enterOasis n 31) := by
  have e (u : State) : u.count 31 n.val = u.crossedAx n := u.count_ax n rfl
  show execCdcMismatch (some n) p tag false s = _ ∧ execCdcMismatch (some n) p tag true s = _
  simp [execCdcMismatch, e]

theorem cdcMismatch_dev (s : State) (p : Port) (tag : W16) : exec (.cdcMismatch none p tag false) s = .next s.crossedDev ∧
    exec (.cdcMismatch none p tag true) s =
      .next (if (s.port p).cmds.any (fun c => c.tag == tag) then (s.crossedDev.crossedDev.detect 31 unitDev 0).complete p tag stDeviceFault 15 []
        else s.crossedDev.crossedDev.detect 31 unitDev 0) := by
  have e (u : State) : u.count 31 unitDev = u.crossedDev := u.count_dev rfl
  have hq : (s.crossedDev.crossedDev.detect 31 unitDev 0).port p = s.port p := by
    simp -implicitDefEqProofs [State.port, State.crossedDev]
  show execCdcMismatch none p tag false s = _ ∧ execCdcMismatch none p tag true s = _
  simp only [execCdcMismatch, e, hq, Bool.false_eq_true, if_false, if_true, true_and]
  split <;> rfl

theorem State.crossedAx_ax (s : State) (n : Ax) : (s.crossedAx n).ax n = (s.ax n).crossed := State.modAx_ax_same ..

theorem State.crossedAx_get (s : State) (n : Ax) :
    ((s.crossedAx n).ax n).get AX_CNT4_CDC_MISMATCH = min ((s.ax n).get AX_CNT4_CDC_MISMATCH + 1) 65535 :=
  (congrArg (Axis.get · AX_CNT4_CDC_MISMATCH) (s.crossedAx_ax n)).trans (Axis.inc_get _ _ (by decide))

theorem State.crossedAx_others (s : State) (n m : Ax) (h : m ≠ n) : (s.crossedAx n).ax m = s.ax m := State.modAx_ax_ne _ h _

theorem State.crossedDev_dget (s : State) : s.crossedDev.dget FAULT_DCNT0_CDC_MISMATCH = min (s.dget FAULT_DCNT0_CDC_MISMATCH + 1) 65535 := by
  unfold State.crossedDev
  rw [State.dinc_dget _ _ (by decide), State.lifeCount_dget]
  rfl

/-- An entry into OASIS writes AX_STATE, AX_OASTIME and AX_SPD, no other register of the axis. -/
theorem Axis.entersOasis_get (a : Axis) (clk : Nat) (tm : W64) (cause : Nat) (g : Fld) (h1 : g.a ≠ AX_STATE) (h2 : g.a ≠ AX_OASTIME)
    (h3 : g.a ≠ AX_SPD) : (a.entersOasis clk tm cause).get g = a.get g := by
  show (((a.put AX_STATE_CAUSE cause).setReg AX_OASTIME tm).put AX_SPD_STCNT 0).get g = a.get g
  rw [Axis.put_get_reg _ _ _ _ h3]
  unfold Axis.get
  rw [Axis.setReg_reg_ne _ h2]
  exact Axis.put_get_reg _ _ _ _ h1

theorem State.enterOasis_get (s : State) (n : Ax) (cause : Nat) (g : Fld) (h1 : g.a ≠ AX_STATE) (h2 : g.a ≠ AX_OASTIME) (h3 : g.a ≠ AX_SPD) :
    ((s.enterOasis n cause).ax n).get g = (s.ax n).get g := by
  by_cases h : (s.ax n).st = .oasis
  · rw [s.enterOasis_of_oasis h cause]
  · rw [(s.enterOasis_ax n cause h).1]
    exact (s.ax n).entersOasis_get _ _ _ _ h1 h2 h3

theorem State.enterOasis_oasis (s : State) (n : Ax) (cause : Nat) (hc : cause < 256) : ((s.enterOasis n cause).ax n).st = .oasis := by
  by_cases h : (s.ax n).st = .oasis
  · rw [s.enterOasis_of_oasis h cause]; exact h
  · exact (s.enterOasis_faulted n cause h hc).1

/-- The second disagreement of a crossing of axis n: two counts, the fault detected, the axis in OASIS. -/
theorem State.crossedTwice_ax (s : State) (n : Ax) :
    let t := (((s.crossedAx n).crossedAx n).detect 31 n.val 0).enterOasis n 31
    (t.ax n).get AX_CNT4_CDC_MISMATCH = min ((s.ax n).get AX_CNT4_CDC_MISMATCH + 2) 65535 ∧ LastFault t 31 n.val ∧ OthersKept s t n ∧
      ((s.ax n).st ≠ .oasis → Faulted s t n 31) ∧ (t.ax n).st = .oasis := by
  intro t
  let u := (s.crossedAx n).crossedAx n
  have hd := u.detect_fields 31 n.val 0
  have ha (m : Ax) : (u.detect 31 n.val 0).ax m = u.ax m := State.ax_congr hd.2.2.2.1 m
  have hu : u.ax n = ((s.ax n).crossed).crossed := (State.crossedAx_ax ..).trans (congrArg _ (s.crossedAx_ax n))
  refine ⟨?_, ?_, fun m hm => ?_, fun hs => ?_, State.enterOasis_oasis _ n 31 (by decide)⟩
  · rw [State.enterOasis_get _ n 31 _ (by decide) (by decide) (by decide), ha, State.crossedAx_get, State.crossedAx_get]
    omega
  · exact (u.detect_last 31 n.val 0 (by decide) (by omega)).congr ((State.enterOasis_frame _ n 31).dreg _ (by decide) (by decide))
  · rw [State.enterOasis_ax_ne _ 31 hm, ha, State.crossedAx_others _ _ _ hm, State.crossedAx_others _ _ _ hm]
  · have hf : Faulted (u.detect 31 n.val 0) t n 31 := State.enterOasis_faulted _ n 31 (by rw [ha, hu]; exact hs) (by decide)
    obtain ⟨f1, f2, f3, f4, f5, f6⟩ := hf
    have ho : ((u.detect 31 n.val 0).ax n).get AX_OASIS_OPT = (s.ax n).get AX_OASIS_OPT := by
      rw [ha, hu]
      exact (Axis.put_get_reg _ _ _ _ (by decide)).trans (Axis.put_get_reg _ _ _ _ (by decide))
    have ht : (u.detect 31 n.val 0).time = s.time := by
      simp only [State.time]; rw [hd.2.2.1]; rfl
    rw [ho] at f6
    exact ⟨f1, f2, f3.trans ht, f4.trans hd.2.1, f5, f6⟩

/-- Two counts of the device and the fault detected; axes and ports stay. -/
theorem State.crossedTwice_dev (s : State) :
    let t := s.crossedDev.crossedDev.detect 31 unitDev 0
    t.dget FAULT_DCNT0_CDC_MISMATCH = min (s.dget FAULT_DCNT0_CDC_MISMATCH + 2) 65535 ∧ LastFault t 31 unitDev ∧ t.axes = s.axes ∧
      t.ports = s.ports ∧ t.time = s.time := by
  intro t
  have hd := s.crossedDev.crossedDev.detect_fields 31 unitDev 0
  refine ⟨?_, State.detect_last _ _ _ _ (by decide) (by decide), hd.2.2.2.1, hd.2.2.2.2.2.1, ?_⟩
  · rw [State.detect_dget _ _ _ _ _ (by decide), State.crossedDev_dget, State.crossedDev_dget]
    omega
  · simp only [State.time]; rw [hd.2.2.1]; rfl

/-- Settles O35: the islands by their two-bit items, the crossings by their counts, the last fault and the entry into OASIS. -/
theorem islandsAndCrossings : Obligations.IslandsAndCrossings := by
  unfold Obligations.IslandsAndCrossings
  intro n p tag b s a q idle twice known
  obtain ⟨dcount, dlast, daxes, dports, dtime⟩ := s.crossedTwice_dev
  have dport (k : Port) : (s.crossedDev.crossedDev.detect 31 unitDev 0).port k = s.port k := State.port_congr dports k
  refine ⟨fun h => ?_, fun h => ?_, ?_, ?_, ?_, fun h => ?_, fun h => ?_, runs_of_exec rfl rfl⟩
  · refine runs_of_exec (if_pos h) ⟨rfl, rfl, ?_, ?_, fun m hm => ⟨?_, ?_⟩⟩
    · rw [State.setIsl_ptIsl, if_pos rfl]; rfl
    · rw [State.setIsl_adcIsl, if_pos rfl]; rfl
    · rw [State.setIsl_ptIsl, if_neg hm]
    · rw [State.setIsl_adcIsl, if_neg hm]
  · exact runs_of_exec (if_neg h) rfl
  · refine runs_of_exec (cdcMismatch_ax s n p tag).1 ⟨s.crossedAx_get n, ?_, s.crossedAx_others n, rfl⟩
    show ((s.crossedAx n).ax n).st = (s.ax n).st
    rw [s.crossedAx_ax]; rfl
  · obtain ⟨count, last, others, fault, oasis⟩ := s.crossedTwice_ax n
    exact runs_of_exec (cdcMismatch_ax s n p tag).2 ⟨count, last, others, fault, fun _ => oasis⟩
  · exact runs_of_exec (cdcMismatch_dev s p tag).1 ⟨s.crossedDev_dget, rfl, rfl⟩
  · refine runs_of_exec ((cdcMismatch_dev s p tag).2.trans (congrArg _ (if_pos h))) ?_
    have hr := State.complete_reports (s.crossedDev.crossedDev.detect 31 unitDev 0) p tag stDeviceFault 15 []
    have hp := State.completeWith_port (s.crossedDev.crossedDev.detect 31 unitDev 0) p tag stDeviceFault 15 [] none
    rw [dport, dtime] at hp
    refine ⟨⟨?_, ?_, ?_, fun k hk => ?_⟩, hp.cmds, hp.ring⟩
    · rw [hr.dget _ (by decide) (by decide)]; exact dcount
    · exact dlast.congr (hr.dreg _ (by decide) (by decide))
    · rw [hr.axes]; exact daxes
    · exact (State.completeWith_port_ne _ _ _ _ _ _ hk).trans (dport k)
  · exact runs_of_exec ((cdcMismatch_dev s p tag).2.trans (congrArg _ (if_neg (Bool.eq_false_iff.1 h))))
      ⟨⟨dcount, dlast, daxes, fun k _ => dport k⟩, dport p⟩

end Sys2Proof.Machine
end

section
namespace Sys2Proof.Machine
open Sys2Proof

/-! ### TRIM (R27, R30) -/

/-- TRIM written is TRIM read, clamped to 200 ppm. -/
theorem State.setTrim_trim (s : State) (x : Int) : (s.setTrim x).trim = clampTrim x := by
  have hget : SYS_TIMETRIM_TRIM.get ((s.setTrim x).dreg SYS_TIMETRIM) = (clampTrim x % 2 ^ 32).toNat % 2 ^ 32 :=
    s.dput_dget_same SYS_TIMETRIM_TRIM _ (by decide)
  have hlo : -2000000 ≤ clampTrim x := by unfold clampTrim; omega
  have hhi : clampTrim x ≤ 2000000 := by unfold clampTrim; omega
  unfold State.trim Fld.sget
  rw [hget]
  generalize clampTrim x = y at *
  show (BitVec.ofNat 32 _).toInt = y
  rw [BitVec.toInt_eq_toNat_bmod, BitVec.toNat_ofNat, Int.bmod]
  omega

/-- TRIM moves from where it stands toward the frequency that nulls the error, never past it. -/
theorem trimToward_between (trim e : Int) (k : Nat) (h1 : -2000000 ≤ trim) (h2 : trim ≤ 2000000) :
    min trim (clampTrim (trim - 10 * e)) ≤ clampTrim (trimToward trim e k) ∧
    clampTrim (trimToward trim e k) ≤ max trim (clampTrim (trim - 10 * e)) := by
  have hk : k % (10 * e.natAbs + 1) ≤ 10 * e.natAbs := Nat.le_of_lt_succ (Nat.mod_lt _ (by omega))
  unfold trimToward
  generalize k % (10 * e.natAbs + 1) = d at hk
  unfold clampTrim
  rcases lt_trichotomy e 0 with h | rfl | h
  · rw [Int.sign_eq_neg_one_of_neg h]; omega
  · rw [Int.sign_zero]; omega
  · rw [Int.sign_eq_one_of_pos h]; omega

/-! ### Edges and their loss (R26, R27, R29) -/

theorem State.ppsOutlier_only (s : State) : s.ppsOutlier = { s with dev := s.ppsOutlier.dev, tm := s.ppsOutlier.tm, free := s.ppsOutlier.free } := by
  unfold State.ppsOutlier; dsimp only; split <;> rfl

theorem State.ppsOutlier_tm (s : State) : s.ppsOutlier.tm = { s.tm with good := 0 } := by
  unfold State.ppsOutlier; dsimp only; split <;> rfl

/-- A count of one field leaves another field of its register. -/
theorem State.dinc_dget_fld (s : State) (f g : Fld) (ha : g.a = f.a) (h : g.lo + g.w ≤ f.lo ∨ f.lo + f.w ≤ g.lo) (hg : g.lo + g.w ≤ 64) :
    (s.dinc f).dget g = s.dget g := by
  simp [State.dinc, State.dget, ha, satField, Fld.get_put_ne f g _ _ h hg]

theorem State.ppsOutlier_dget (s : State) : s.ppsOutlier.dget SYS_TIMESTAT_REJECTS = min (s.dget SYS_TIMESTAT_REJECTS + 1) 65535 ∧
    s.ppsOutlier.dget SYS_TIMESTAT_STATE = (if s.dget SYS_TIMESTAT_STATE = 3 then 2 else s.dget SYS_TIMESTAT_STATE) ∧
    s.ppsOutlier.dget SYS_TIMESTAT_LAST_ERR = s.dget SYS_TIMESTAT_LAST_ERR := by
  have hst : (s.dinc SYS_TIMESTAT_REJECTS).dget SYS_TIMESTAT_STATE = s.dget SYS_TIMESTAT_STATE :=
    s.dinc_dget_fld _ _ rfl (by decide) (by decide)
  have hle : (s.dinc SYS_TIMESTAT_REJECTS).dget SYS_TIMESTAT_LAST_ERR = s.dget SYS_TIMESTAT_LAST_ERR :=
    s.dinc_dget_fld _ _ rfl (by decide) (by decide)
  have hre : (s.dinc SYS_TIMESTAT_REJECTS).dget SYS_TIMESTAT_REJECTS = min (s.dget SYS_TIMESTAT_REJECTS + 1) 65535 := s.dinc_dget _ (by decide)
  have htm (u : State) (m : TimeBase) (f : Fld) : State.dget { u with tm := m } f = u.dget f := rfl
  unfold State.ppsOutlier
  simp only [htm, hst]
  split
  · exact ⟨(State.dput_dget_fld _ SYS_TIMESTAT_STATE SYS_TIMESTAT_REJECTS _ rfl (by decide) (by decide)).trans hre,
      State.dput_dget_same _ SYS_TIMESTAT_STATE _ (by decide),
      (State.dput_dget_fld _ SYS_TIMESTAT_STATE SYS_TIMESTAT_LAST_ERR _ rfl (by decide) (by decide)).trans hle⟩
  · exact ⟨hre, hst, hle⟩

/-- The state after a used edge: a run of `good` edges, the error `far` nanoseconds from zero. -/
def stateAfterEdge (st far good degraded : Nat) : Nat :=
  let st := if st = timeHoldover then timeTrack else st
  if st = timeLocked ∧ 100 < far then timeTrack else if st = timeTrack ∧ 8 ≤ good ∧ degraded = 0 then timeLocked else st

theorem stateAfterEdge_eq {st : Nat} (far good degraded : Nat) (h1 : 2 ≤ st) (h2 : st ≤ 4) : stateAfterEdge st far good degraded =
    if st = 3 then (if 100 < far then 2 else 3) else if 8 ≤ good ∧ degraded = 0 then 3 else 2 := by
  obtain rfl | rfl | rfl : st = 2 ∨ st = 3 ∨ st = 4 := by omega
  all_goals simp [stateAfterEdge]

theorem stateAfterEdge_lt {st : Nat} (far good degraded : Nat) (h : st < 8) : stateAfterEdge st far good degraded < 8 := by
  have hmax : stateAfterEdge st far good degraded ≤ max st 3 := by
    simp only [stateAfterEdge, timeHoldover, timeTrack, timeLocked]
    split_ifs <;> omega
  omega

/-- The run of edges within 20 ns after one with error e (R27). -/
def goodAfterEdge (good : Nat) (e : Int) : Nat := if e.natAbs ≤ 20 then good + 1 else 0

theorem State.ppsUsed_only (s : State) (e : Int) :
    s.ppsUsed e = { s with dev := (s.ppsUsed e).dev, tm := (s.ppsUsed e).tm, free := (s.ppsUsed e).free } := rfl

theorem State.ppsUsed_tm (s : State) (e : Int) : (s.ppsUsed e).tm.acc = s.tm.acc ∧ (s.ppsUsed e).tm.lastEdge = some s.clk ∧
    (s.ppsUsed e).tm.good = goodAfterEdge s.tm.good e := ⟨rfl, rfl, rfl⟩

theorem State.ppsUsed_dget (s : State) (e : Int) : (s.ppsUsed e).dget SYS_TIMESTAT_LAST_ERR = (e % 2 ^ 32).toNat ∧
    (s.ppsUsed e).dget SYS_TIMESTAT_STATE = stateAfterEdge (s.dget SYS_TIMESTAT_STATE) e.natAbs (goodAfterEdge s.tm.good e)
      (s.dget SYS_TIMESTAT_DEGRADED) ∧
    (s.ppsUsed e).trim = clampTrim (trimToward s.trim e s.takeFree.1.toNat) := by
  let u := s.takeFree.2.setTrim (trimToward s.trim e s.takeFree.1.toNat)
  let st := stateAfterEdge (u.dget SYS_TIMESTAT_STATE) e.natAbs (goodAfterEdge s.tm.good e) (u.dget SYS_TIMESTAT_DEGRADED)
  have hd : (s.ppsUsed e).dev = ((u.dput SYS_TIMESTAT_LAST_ERR (e % 2 ^ 32).toNat).dput SYS_TIMESTAT_STATE st).dev := rfl
  have hdreg (b : Nat) := State.dreg_congr hd (a := b)
  have hus : u.dget SYS_TIMESTAT_STATE = s.dget SYS_TIMESTAT_STATE :=
    s.takeFree.2.dput_dget_reg SYS_TIMETRIM_TRIM SYS_TIMESTAT_STATE _ (by decide)
  have hud : u.dget SYS_TIMESTAT_DEGRADED = s.dget SYS_TIMESTAT_DEGRADED :=
    s.takeFree.2.dput_dget_reg SYS_TIMETRIM_TRIM SYS_TIMESTAT_DEGRADED _ (by decide)
  have hst : st < 8 := stateAfterEdge_lt _ _ _ (u.dget_lt SYS_TIMESTAT_STATE)
  refine ⟨?_, ?_, ?_⟩
  · unfold State.dget; rw [hdreg]
    refine (State.dput_dget_fld _ SYS_TIMESTAT_STATE SYS_TIMESTAT_LAST_ERR _ rfl (by decide) (by decide)).trans ?_
    refine (State.dput_dget_same _ SYS_TIMESTAT_LAST_ERR _ (by decide)).trans ?_
    show (e % 2 ^ 32).toNat % 2 ^ 32 = _
    omega
  · rw [← hus, ← hud]
    unfold State.dget; rw [hdreg]
    exact (State.dput_dget_same _ SYS_TIMESTAT_STATE _ (by decide)).trans (Nat.mod_eq_of_lt hst)
  · rw [← State.setTrim_trim s.takeFree.2]
    unfold State.trim
    rw [hdreg]
    unfold State.dput
    rw [State.setDreg_dreg_ne _ (by decide), State.setDreg_dreg_ne _ (by decide)]
    rfl

/-- What the armed edge leaves once TIME is stepped (R26). -/
def State.armedEdge (s : State) : State :=
  let s := ((s.dput SYS_TIMESET_ARM 0).dput SYS_TIMESTAT_STATE timeTrack).dput SYS_TIMESTAT_LAST_ERR 0
  { s with tm := { s.tm with good := 0, lastEdge := some s.clk } }

theorem State.armedEdge_parts (s : State) : s.armedEdge = { s with dev := s.armedEdge.dev, tm := s.armedEdge.tm, free := s.armedEdge.free } ∧
    s.armedEdge.tm = { s.tm with good := 0, lastEdge := some s.clk } := ⟨rfl, rfl⟩

theorem State.armedEdge_dget (s : State) : s.armedEdge.dget SYS_TIMESTAT_STATE = 2 ∧ s.armedEdge.dget SYS_TIMESET_ARM = 0 ∧
    s.armedEdge.trim = s.trim := by
  have hd : s.armedEdge.dev = (((s.dput SYS_TIMESET_ARM 0).dput SYS_TIMESTAT_STATE timeTrack).dput SYS_TIMESTAT_LAST_ERR 0).dev := rfl
  have hdreg (b : Nat) := State.dreg_congr hd (a := b)
  refine ⟨?_, ?_, ?_⟩
  · unfold State.dget; rw [hdreg]
    exact (State.dput_dget_fld _ SYS_TIMESTAT_LAST_ERR SYS_TIMESTAT_STATE _ rfl (by decide) (by decide)).trans
      (State.dput_dget_same _ SYS_TIMESTAT_STATE _ (by decide))
  · unfold State.dget; rw [hdreg]
    exact ((State.dput_dget_reg _ SYS_TIMESTAT_LAST_ERR SYS_TIMESET_ARM _ (by decide)).trans
      (State.dput_dget_reg _ SYS_TIMESTAT_STATE SYS_TIMESET_ARM _ (by decide))).trans (State.dput_dget_same _ SYS_TIMESET_ARM _ (by decide))
  · unfold State.trim
    rw [hdreg]
    unfold State.dput
    rw [State.setDreg_dreg_ne _ (by decide), State.setDreg_dreg_ne _ (by decide), State.setDreg_dreg_ne _ (by decide)]

theorem State.stepTime_time (s : State) (ns : Nat) : (s.stepTime ns).time = BitVec.ofNat 64 ns := by
  unfold State.time State.stepTime
  rw [Nat.mul_div_cancel ns (by simp [unitsPerNs])]

/-- The armed edge at an instant: TIME is stepped to it, the time base tracks, and the clock of the edge is kept (R26). -/
theorem State.armedEdge_stepTime (s : State) (ns : Nat) : let t := (s.stepTime ns).armedEdge
    t = { s with dev := t.dev, tm := t.tm, free := t.free } ∧ t.time = BitVec.ofNat 64 ns ∧ t.dget SYS_TIMESTAT_STATE = 2 ∧ t.dget SYS_TIMESET_ARM = 0 ∧
    t.tm.lastEdge = some s.clk ∧ t.tm.good = 0 ∧ t.trim = s.trim := by
  intro t
  obtain ⟨hst, harm, htrim⟩ := (s.stepTime ns).armedEdge_dget
  obtain ⟨honly, htm⟩ := (s.stepTime ns).armedEdge_parts
  refine ⟨honly.trans rfl, Eq.trans ?_ (s.stepTime_time ns), hst, harm, by rw [htm]; rfl, by rw [htm], htrim⟩
  unfold State.time
  rw [htm]

/-- An edge of the enabled polarity. -/
theorem execPpsEdge_enabled (short : Bool) (s : State) (hen : s.dget SYS_TIMESET_PPS_EN = 1) :
    let rising := decide (s.dget SYS_TIMESET_PPS_POL = 0)
    let u := s.modPins (fun p => { p with pps := rising })
    exec (.ppsEdge rising short) s = if short then .next (u.dinc SYS_TIMESTAT_REJECTS)
      else if s.dget SYS_TIMESTAT_STATE = 0 then .next u
      else if s.dget SYS_TIMESTAT_STATE = 1 then
        .next (u.stepTime (s.dget SYS_TIMESET_SEC * 1000000000 + s.dget SYS_TIMESET_PPS_DLY)).armedEdge
      else if 1000000 < (phaseError ((s.time.toNat : Int) - s.dget SYS_TIMESET_PPS_DLY)).natAbs then .next u.ppsOutlier
      else .next (u.ppsUsed (phaseError ((s.time.toNat : Int) - s.dget SYS_TIMESET_PPS_DLY))) := by
  intro rising u
  have hu (f : Fld) : u.dget f = s.dget f := rfl
  have ht : u.time = s.time := rfl
  have hen' : ¬ (u.dget SYS_TIMESET_PPS_EN = 0 ∨ rising = (u.dget SYS_TIMESET_PPS_POL == 1)) := by
    rw [hu, hu]
    rcases s.dget_bit SYS_TIMESET_PPS_POL rfl with h | h <;> simp [rising, hen, h]
  show execPpsEdge rising short s = _
  unfold execPpsEdge
  dsimp only
  rw [if_neg hen']
  simp only [← hu, ← ht]
  rfl

/-- An edge of the other polarity or of the disabled input only moves the pin. -/
theorem execPpsEdge_ignored (rising short : Bool) (s : State)
    (h : s.dget SYS_TIMESET_PPS_EN ≠ 1 ∨ rising ≠ decide (s.dget SYS_TIMESET_PPS_POL = 0)) :
    exec (.ppsEdge rising short) s = .next (s.modPins (fun p => { p with pps := rising })) := by
  refine (if_pos ?_ : execPpsEdge rising short s = _)
  show s.dget SYS_TIMESET_PPS_EN = 0 ∨ rising = (s.dget SYS_TIMESET_PPS_POL == 1)
  rcases s.dget_bit SYS_TIMESET_PPS_EN rfl with e | e
  · exact .inl e
  · right
    rcases s.dget_bit SYS_TIMESET_PPS_POL rfl with h' | h' <;> simpa [e, h'] using h

/-- PPS_LOST after 1.5 s without an edge in TRACK or LOCKED (R29). -/
theorem execPpsLost_lost {t0 : Nat} {s : State} (ht : s.tm.lastEdge = some t0) (hl : t0 + 1500 * msTicks < s.clk)
    (hs : s.dget SYS_TIMESTAT_STATE = 2 ∨ s.dget SYS_TIMESTAT_STATE = 3) :
    exec .ppsLost s = .next { ((s.dput SYS_TIMESTAT_STATE timeHoldover).lifeCount 38 unitDev).dinc FAULT_DCNT2_PPS_LOST with
      tm := { s.tm with good := 0 } } := by
  show execPpsLost s = _
  unfold execPpsLost
  rw [ht]
  exact (if_pos ⟨hs, hl⟩).trans (congrArg (fun u : State => Host.Outcome.next { u with tm := { u.tm with good := 0 } }) (State.count_dev (code := 38) _ rfl))

theorem execPpsLost_else {s : State} (h : ∀ t0 : Nat, s.tm.lastEdge = some t0 → t0 + 1500 * msTicks < s.clk →
    s.dget SYS_TIMESTAT_STATE ≠ 2 ∧ s.dget SYS_TIMESTAT_STATE ≠ 3) : exec .ppsLost s = .next s := by
  show execPpsLost s = _
  unfold execPpsLost
  cases ht : s.tm.lastEdge with
  | none => rfl
  | some t0 =>
    refine if_neg fun ⟨hs, hl⟩ => ?_
    obtain ⟨h2, h3⟩ := h t0 ht hl
    exact hs.elim h2 h3

/-- Settles O36: the branches of an edge, then those of its loss. -/
theorem timeBase : Obligations.TimeBase := by
  unfold Obligations.TimeBase
  intro t0 b s rising en st dly er good pin only counted far aim
  let u := s.modPins (fun p => { p with pps := rising })
  have hdly : dly = s.dget SYS_TIMESET_PPS_DLY := rfl
  have hex (short : Bool) (h : en) := execPpsEdge_enabled short s h
  rw [← hdly] at hex
  clear_value dly
  have hu (f : Fld) : u.dget f = s.dget f := rfl
  refine ⟨?_, fun h => ?_, fun h => ?_, fun h h0 => ?_, fun h h1 => ?_, fun h h2 hf => ?_, fun h h2 h4 hf => ?_, fun ht hl hs => ?_, fun h => ?_⟩
  · exact runs_of_exec (execPpsEdge_ignored _ b s (.inr (Bool.not_ne_self _))) rfl
  · exact runs_of_exec (execPpsEdge_ignored _ b s (.inl h)) rfl
  · refine runs_of_exec ((hex true h).trans (if_pos rfl)) ⟨rfl, u.dinc_dget _ (by decide), rfl, ?_⟩
    exact u.dinc_dget_fld SYS_TIMESTAT_REJECTS SYS_TIMESTAT_STATE rfl (by decide) (by decide)
  · exact runs_of_exec (((hex false h).trans (if_neg (by decide))).trans (if_pos h0)) rfl
  · have h0 : ¬ s.dget SYS_TIMESTAT_STATE = 0 := fun e => by rw [show st = 0 from e] at h1; cases h1
    refine runs_of_exec ((((hex false h).trans (if_neg (by decide))).trans (if_neg h0)).trans (if_pos h1)) ?_
    exact u.armedEdge_stepTime (s.dget SYS_TIMESET_SEC * 1000000000 + dly)
  · have h0 : ¬ s.dget SYS_TIMESTAT_STATE = 0 := fun e => by rw [show st = 0 from e] at h2; cases h2
    have h1 : ¬ s.dget SYS_TIMESTAT_STATE = 1 := fun e => by rw [show st = 1 from e] at h2; cases h2; contradiction
    obtain ⟨hrej, hst, herr⟩ := u.ppsOutlier_dget
    exact runs_of_exec (((((hex false h).trans (if_neg (by decide))).trans (if_neg h0)).trans (if_neg h1)).trans (if_pos hf))
      ⟨u.ppsOutlier_only, hrej, u.ppsOutlier_tm, hst, herr⟩
  · have h0 : ¬ s.dget SYS_TIMESTAT_STATE = 0 := fun e => by rw [show st = 0 from e] at h2; cases h2
    have h1 : ¬ s.dget SYS_TIMESTAT_STATE = 1 := fun e => by rw [show st = 1 from e] at h2; cases h2; contradiction
    obtain ⟨herr, hst, htrim⟩ := u.ppsUsed_dget er
    obtain ⟨hacc, hlast, hgood⟩ := u.ppsUsed_tm er
    refine runs_of_exec (((((hex false h).trans (if_neg (by decide))).trans (if_neg h0)).trans (if_neg h1)).trans (if_neg (Nat.not_lt.2 hf)))
      ⟨u.ppsUsed_only er, hacc, hlast, hgood, herr, fun hlo hhi => ?_, hst.trans (stateAfterEdge_eq _ _ _ h2 h4)⟩
    rw [htrim]
    exact trimToward_between s.trim er _ hlo hhi
  · refine runs_of_exec (execPpsLost_lost ht hl hs) ⟨?_, ?_, rfl, rfl, rfl⟩
    · exact (State.dinc_dget_reg _ FAULT_DCNT2_PPS_LOST SYS_TIMESTAT_STATE (by decide)).trans
        (s.dput_dget_same SYS_TIMESTAT_STATE timeHoldover (by decide))
    · refine (State.dinc_dget _ FAULT_DCNT2_PPS_LOST (by decide)).trans ?_
      exact congrArg (min · 65535) (congrArg (· + 1) (s.dput_dget_reg SYS_TIMESTAT_STATE FAULT_DCNT2_PPS_LOST timeHoldover (by decide)))
  · refine runs_of_exec (execPpsLost_else fun t1 e hl => ?_) rfl
    rcases h with h | ⟨h, hc⟩ | h
    · rw [h] at e; cases e
    · rw [h] at e; cases e; omega
    · exact h

end Sys2Proof.Machine
end

section
namespace Sys2Proof.Machine
open Sys2Proof

/-! ### What the ports send (R321, R340, R343) -/

/-- Packets that leave port p change only what that port has sent. -/
structure SendsOnly (p : Port) (s t : State) : Prop where
  only : t = { s with ports := t.ports }
  others : ∀ k : Port, k ≠ p → t.port k = s.port k
  own : t.port p = { s.port p with tx := (t.port p).tx, sentBytes := (t.port p).sentBytes, sentFrames := (t.port p).sentFrames }

namespace SendsOnly

theorem refl (p : Port) (s : State) : SendsOnly p s s := ⟨rfl, fun _ _ => rfl, rfl⟩

theorem trans {p : Port} {s t u : State} (h : SendsOnly p s t) (g : SendsOnly p t u) : SendsOnly p s u :=
  ⟨g.only.trans (by rw [h.only]), fun k hk => (g.others k hk).trans (h.others k hk), g.own.trans (by rw [h.own])⟩

theorem foldl {α : Type} {p : Port} {f : State → α → State} (hf : ∀ s a, SendsOnly p s (f s a)) :
    ∀ (l : List α) (s : State), SendsOnly p s (l.foldl f s)
  | [], s => refl p s
  | a :: l, s => (hf s a).trans (foldl hf l (f s a))

end SendsOnly

theorem State.send_only (s : State) (p : Port) (ws : List W64) : SendsOnly p s (s.send p ws) := by
  refine ⟨rfl, fun k hk => State.modPort_port_ne _ hk _, ?_⟩
  unfold State.send
  rw [State.modPort_port_same]
  split
  · rfl
  · split
    · rfl
    · split <;> rfl

theorem State.delivered_congr {s t : State} (h : t.time = s.time) (c : Completion) : t.delivered c = s.delivered c := by
  unfold State.delivered; rw [h]

/-- A port as it stands after sending: of its completions some are marked as delivered. -/
def PortSt.SentFrom (s : State) (q r : PortSt) : Prop := ∃ f : Completion → Completion, (∀ c, f c = c ∨ f c = s.delivered c) ∧
  r = { q with ring := q.ring.map f, notes := r.notes, tx := r.tx, sentBytes := r.sentBytes, sentFrames := r.sentFrames }

theorem PortSt.SentFrom.refl (s : State) (q : PortSt) : PortSt.SentFrom s q q := ⟨id, fun _ => .inl rfl, by simp⟩

/-- The completion as `feed` leaves it. -/
def State.stamped (s : State) (c : Completion) : Completion := if c.sent then c else s.delivered c

theorem State.feed_port (s : State) (p : Port) : s.feed p = { s with ports := (s.feed p).ports } ∧
    (∀ k : Port, k ≠ p → (s.feed p).port k = s.port k) ∧ PortSt.SentFrom s (s.port p) ((s.feed p).port p) := by
  let u := ((s.port p).ring.filter (fun c => !c.sent)).foldl (fun s c => s.send p ((s.delivered c).packet false)) s
  let v := ((s.port p).notes.filter (fun n => !n.sent)).foldl (fun s n => s.send p n.packet) u
  have h : SendsOnly p s v :=
    (SendsOnly.foldl (fun s (c : Completion) => s.send_only p ((s.delivered c).packet false)) _ s).trans
      (SendsOnly.foldl (fun s (n : Note) => s.send_only p n.packet) _ u)
  have hv : s.feed p = v.modPort p (fun q => { q with ring := q.ring.map v.stamped, notes := q.notes.map (fun (n : Note) => { n with sent := true }) }) := rfl
  have ht : v.time = s.time := part_of_eq State.time h.only rfl
  refine ⟨?_, fun k hk => ?_, v.stamped, fun c => ?_, ?_⟩
  · rw [hv]; exact (show v.modPort p _ = { v with ports := _ } from rfl).trans (by rw [h.only]; rfl)
  · rw [hv, State.modPort_port_ne _ hk, h.others k hk]
  · unfold State.stamped
    split
    · exact .inl rfl
    · exact .inr (State.delivered_congr ht c)
  · rw [hv, State.modPort_port_same, h.own]

/-- A port sends or not. -/
theorem State.feedIf_port (s : State) (b : Bool) (p : Port) : let t := if b then s.feed p else s
    t = { s with ports := t.ports } ∧ (∀ k : Port, k ≠ p → t.port k = s.port k) ∧ PortSt.SentFrom s (s.port p) (t.port p) := by
  cases b
  · exact ⟨rfl, fun _ _ => rfl, .refl s _⟩
  · exact s.feed_port p

/-- What is sent changes only the ports: what they have sent, and the marks of their completions and notifications. -/
theorem State.sendPosted_port (s : State) : s.sendPosted = { s with ports := s.sendPosted.ports } ∧
    ∀ k : Port, PortSt.SentFrom s (s.port k) (s.sendPosted.port k) := by
  let feeds (s : State) (p : Port) := s.portUp p && s.gen p == 3 && (p != 2 || s.canCarries)
  let u := if feeds s 2 then s.feed 2 else s
  have ht : s.sendPosted = if feeds u 3 then u.feed 3 else u := rfl
  obtain ⟨uonly, uothers, uport⟩ := s.feedIf_port (feeds s 2) 2
  obtain ⟨tonly, tothers, f, hf, tport⟩ := u.feedIf_port (feeds u 3) 3
  have htime : u.time = s.time := part_of_eq State.time uonly rfl
  rw [ht]
  refine ⟨tonly.trans ?_, fun k => ?_⟩
  · exact congrArg (fun w : State => { w with ports := (if feeds u 3 then u.feed 3 else u).ports }) uonly
  · by_cases h3 : k = 3
    · subst h3
      rw [← uothers 3 (by decide)]
      exact ⟨f, fun c => (hf c).imp_right fun h => h.trans (State.delivered_congr htime c), tport⟩
    · rw [tothers k h3]
      by_cases h2 : k = 2
      · subst h2; exact uport
      · exact (uothers k h2).symm ▸ .refl s _

namespace PortSt.SentFrom
variable {s : State} {q r : PortSt} (h : PortSt.SentFrom s q r)
include h

theorem cmds : r.cmds = q.cmds := by obtain ⟨f, -, e⟩ := h; rw [e]
theorem cseq : r.cseq = q.cseq := by obtain ⟨f, -, e⟩ := h; rw [e]
theorem ring_nil (e : q.ring = []) : r.ring = [] := by obtain ⟨f, -, hr⟩ := h; rw [hr, e]; rfl

/-- Sending leaves the completions but for their marks and the TIME of a delivery. -/
theorem ring_untimed {α : Type} (g : Completion → α) (hg : ∀ (c : Completion) (t : W64), g { c with sent := true, time := t } = g c)
    (hs : ∀ c : Completion, g { c with sent := true } = g c) : r.ring.map g = q.ring.map g := by
  obtain ⟨f, hf, hr⟩ := h
  rw [hr, List.map_map]
  refine List.map_congr_left fun c _ => ?_
  show g (f c) = g c
  rcases hf c with e | e
  · rw [e]
  · rw [e]; unfold State.delivered
    split
    · exact hg c s.time
    · exact hs c

/-- A completion other than ABANDONED_RESET keeps its TIME. -/
theorem ring_timed {α : Type} (g : Completion → α) (hs : ∀ c : Completion, g { c with sent := true } = g c)
    (ha : ∀ c ∈ q.ring, c.status ≠ stAbandoned) : r.ring.map g = q.ring.map g := by
  obtain ⟨f, hf, hr⟩ := h
  rw [hr, List.map_map]
  refine List.map_congr_left fun c hc => ?_
  show g (f c) = g c
  rcases hf c with e | e
  · rw [e]
  · rw [e, State.delivered, if_neg (ha c hc), hs]

end PortSt.SentFrom

/-! ### Commands start (R317) -/

theorem State.idleSwap_of_none (s : State) (n : Ax) (h : s.aget n AX_MBCTL_PEND = 0) : s.idleSwap n = s :=
  if_neg fun hp => by rw [h] at hp; exact absurd hp.1 (by decide)

theorem foldl_idleSwap {s : State} (h : ∀ n : Ax, s.aget n AX_MBCTL_PEND = 0) : ∀ l : List Ax, l.foldl (fun s n => s.idleSwap n) s = s
  | [] => rfl
  | n :: l => by rw [List.foldl_cons, s.idleSwap_of_none n (h n), foldl_idleSwap h l]

theorem State.pumpPort_of_nil {s : State} {p : Port} (h : (s.port p).cmds = []) : s.pumpPort p = s := by
  unfold State.pumpPort; rw [h]; rfl

theorem foldl_pumpPort_nil {s : State} : ∀ l : List Port, (∀ k ∈ l, (s.port k).cmds = []) → l.foldl (fun s p => s.pumpPort p) s = s
  | [], _ => rfl
  | k :: l, h => by
    rw [List.foldl_cons, State.pumpPort_of_nil (h k (List.mem_cons_self ..))]
    exact foldl_pumpPort_nil l fun k hk => h k (List.mem_cons_of_mem _ hk)

/-- With commands on one port only, and none after it, that port is all there is to pump. -/
theorem foldl_pumpPort_one {s : State} {p : Port} (hs : ∀ k : Port, k ≠ p → (s.port k).cmds = []) (ht : NoCommands (s.pumpPort p)) :
    ∀ l : List Port, p ∈ l → l.foldl (fun s p => s.pumpPort p) s = s.pumpPort p
  | k :: l, h => by
    rw [List.foldl_cons]
    by_cases e : k = p
    · rw [e]; exact foldl_pumpPort_nil l fun k _ => ht k
    · rw [State.pumpPort_of_nil (hs k e)]
      exact foldl_pumpPort_one hs ht l ((List.mem_cons.1 h).resolve_left (Ne.symm e))

/-- The commands of one port start where no swap and no restart is pending. -/
theorem State.pump_one {s : State} {p : Port} (hr : s.pool.restart = false) (hn : s.pins.noClock = false)
    (hpend : ∀ n : Ax, s.aget n AX_MBCTL_PEND = 0) (hs : ∀ k : Port, k ≠ p → (s.port k).cmds = []) (ht : NoCommands (s.pumpPort p)) :
    s.pump = (s.pumpPort p).sendPosted := by
  unfold State.pump
  rw [hr, hn, foldl_idleSwap hpend, foldl_pumpPort_one hs ht allPorts (mem_allPorts p)]
  rfl

/-- Without commands only what was posted is sent, if that. -/
theorem State.pump_of_noCommands {s : State} (hpend : ∀ n : Ax, s.aget n AX_MBCTL_PEND = 0) (hc : NoCommands s) :
    s.pump = { s with ports := s.pump.ports } ∧ ∀ k : Port, PortSt.SentFrom s (s.port k) (s.pump.port k) := by
  unfold State.pump
  split
  · exact ⟨rfl, fun k => .refl s _⟩
  · rw [foldl_idleSwap hpend, foldl_pumpPort_nil allPorts fun k _ => hc k]
    exact s.sendPosted_port

/-- The one command of a port, when it ends at its start. -/
theorem State.pumpPort_ends {s u : State} {p : Port} {c x : Cmd} {st : Byte} {d : List W64} (hc : (s.port p).cmds = [c]) (ho : c.open_ = true)
    (hs : s.start p c.tag c = .ends u st d) (hu : (u.port p).cmds = [x]) (hx : x.tag = c.tag) :
    s.pumpPort p = u.completeWith p c.tag st c.axisNo d (u.wroteOf p c.tag st) ∧ ((s.pumpPort p).port p).cmds = [] := by
  have hf : (s.port p).cmds.find? (fun x => x.tag == c.tag) = some c := by rw [hc]; simp
  have ha : State.advance 70 s p c.tag = u.completeWith p c.tag st c.axisNo d (u.wroteOf p c.tag st) := by
    unfold State.advance
    simp only [hf, hs]
  have hn : ((u.completeWith p c.tag st c.axisNo d (u.wroteOf p c.tag st)).port p).cmds = [] := by
    rw [(u.completeWith_port p c.tag st c.axisNo d (u.wroteOf p c.tag st)).cmds, hu]
    simp [hx]
  have he : s.pumpPort p = u.completeWith p c.tag st c.axisNo d (u.wroteOf p c.tag st) := by
    unfold State.pumpPort
    rw [hc]
    simp [State.pumpTags, hf, ho, ha, hn]
  exact ⟨he, he ▸ hn⟩

end Sys2Proof.Machine
end

section
namespace Sys2Proof.Machine
open Sys2Proof

/-! ### Commands refused on arrival (R316) -/

theorem State.dput_lastref_gen (s : State) (p k : Port) (v : Nat) : (s.dput (HOST_QSTAT_LASTREF p.val) v).gen k = s.gen k := by
  refine State.dput_dget_reg _ _ _ _ ?_
  show HOST_PCFG k.val ≠ HOST_QSTAT p.val
  unfold HOST_PCFG HOST_QSTAT
  omega

/-- A refused command leaves its status in LASTREF and in its port's answer, and nothing else. -/
theorem State.refuse_refused (s : State) (p : Port) (tag : W16) (st : Byte) (axis : BitVec 4) : Refused s (s.refuse p tag st axis) p st := by
  let u := s.dput (HOST_QSTAT_LASTREF p.val) st.toNat
  have hlast : u.dget (HOST_QSTAT_LASTREF p.val) = st.toNat :=
    (s.dput_dget_same (HOST_QSTAT_LASTREF p.val) st.toNat (by show 16 + 8 ≤ 64; decide)).trans (Nat.mod_eq_of_lt st.isLt)
  have hreg (b : Nat) (h : b ≠ HOST_QSTAT p.val) : u.dreg b = s.dreg b := State.setDreg_dreg_ne _ h _
  have hgen : u.gen p = s.gen p := s.dput_lastref_gen p p _
  show Refused s (u.inline p tag st axis) p st
  unfold State.inline
  dsimp only
  by_cases hg : u.gen p = 3
  · rw [if_pos hg]
    have hs := u.send_only p (Completion.packet { tag := tag, status := st, axis := axis, data := [], time := u.time, cseq := 0, wrote := none, sent := false } true)
    generalize u.send p _ = t at hs ⊢
    have hd (b : Nat) : t.dreg b = u.dreg b := State.dreg_congr (t := t) (part_of_eq State.dev hs.only rfl : t.dev = u.dev) b
    refine ⟨?_, by rw [hs.own]; rfl, by rw [hs.own]; rfl, fun h => absurd (hgen ▸ hg) h, fun k hk => (hs.others k hk).trans rfl, ?_,
      fun b hb => (hd b).trans (hreg b hb)⟩
    · unfold State.dget; rw [hd]; exact hlast
    · rw [hs.only]; rfl
  · rw [if_neg hg]
    refine ⟨hlast, ?_, ?_, fun _ => ?_, fun k hk => State.modPort_port_ne _ hk _, rfl, fun b hb => hreg b hb⟩
    all_goals rw [State.modPort_port_same]
    · rfl
    · rfl
    · dsimp only
      split
      · rfl
      · exact List.map_append

/-! ### Changes of the ports alone -/

theorem PortsOnly.trans {s t u : State} (h : PortsOnly s t) (g : PortsOnly t u) : PortsOnly s u :=
  Eq.trans g (congrArg (fun x : State => { x with ports := u.ports }) h)

theorem State.modPort_portsOnly (s : State) (p : Port) (f : PortSt → PortSt) : PortsOnly s (s.modPort p f) := rfl

theorem PortsOnly.time {s t : State} (h : PortsOnly s t) : t.time = s.time := part_of_eq State.time h rfl
theorem PortsOnly.dreg {s t : State} (h : PortsOnly s t) (b : Nat) : t.dreg b = s.dreg b := part_of_eq (State.dreg · b) h rfl
theorem PortsOnly.dget {s t : State} (h : PortsOnly s t) (f : Fld) : t.dget f = s.dget f := part_of_eq (State.dget · f) h rfl
theorem PortsOnly.ax {s t : State} (h : PortsOnly s t) (n : Ax) : t.ax n = s.ax n := part_of_eq (State.ax · n) h rfl

/-! ### Commands accepted (R316) -/

/-- The slot of an accepted command. -/
def State.slotOf (s : State) (p : Port) (tag : W16) (o : Op) : Cmd :=
  { tag := (s.assignTag p tag).1, axes := o.axes, op := o, rest := none, wrote := o.counts, started := false, at_ := s.clk }

/-- The state in which an accepted command has its tag and its slot. -/
def State.issuing (s : State) (p : Port) (tag : W16) (o : Op) : State :=
  (s.assignTag p tag).2.modPort p (fun q => { q with cmds := q.cmds ++ [s.slotOf p tag o] })

theorem State.assignTag_state (s : State) (p : Port) (tag : W16) :
    (s.assignTag p tag).2 = { s with ports := (s.assignTag p tag).2.ports } ∧
    (∀ k : Port, k ≠ p → (s.assignTag p tag).2.port k = s.port k) ∧
    (s.assignTag p tag).2.port p = { s.port p with nextTag := ((s.assignTag p tag).2.port p).nextTag } := by
  unfold State.assignTag
  split
  · exact ⟨rfl, fun _ _ => rfl, rfl⟩
  · refine ⟨rfl, fun k hk => State.modPort_port_ne _ hk _, ?_⟩
    rw [State.modPort_port_same]

theorem State.accept_wr (s : State) (p : Port) (tag : W16) (a : W16) (vs : List W64) :
    s.accept p tag (.wr a vs) = (s.issuing p tag (.wr a vs)).pump := by
  have h : (s.assignTag p tag).2.clk = s.clk := part_of_eq State.clk (s.assignTag_state p tag).1 rfl
  unfold State.accept State.issuing State.slotOf
  rw [← h]; rfl

theorem State.issuing_parts (s : State) (p : Port) (tag : W16) (o : Op) :
    PortsOnly s (s.issuing p tag o) ∧ (∀ k : Port, k ≠ p → (s.issuing p tag o).port k = s.port k) ∧
    (s.issuing p tag o).port p =
      { s.port p with cmds := (s.port p).cmds ++ [s.slotOf p tag o], nextTag := ((s.issuing p tag o).port p).nextTag } := by
  obtain ⟨honly, hothers, hown⟩ := s.assignTag_state p tag
  unfold State.issuing
  refine ⟨?_, fun k hk => ?_, ?_⟩
  · exact PortsOnly.trans honly (State.modPort_portsOnly _ p _)
  · rw [State.modPort_port_ne _ hk, hothers k hk]
  · rw [State.modPort_port_same, hown]

/-- A command that passes every check and contends for nothing is accepted. -/
theorem State.hostRequest_accepts {s : State} {p : Port} {tag : W16} {o : Op} (hup : s.portUp p = true) (hw : s.pins.warning = false)
    (hb : s.pins.standby = none) (ha : s.arrival p tag o = none) (hr : o.res = none) : s.hostRequest p tag o = s.accept p tag o := by
  have hc : s.contend p o = (s, false) := by unfold State.contend; rw [hr]
  unfold State.hostRequest
  rw [hup, hw, hb, ha]
  simp [hc]

theorem State.hostRequest_refuses {s : State} {p : Port} {tag : W16} {o : Op} {st : Byte} (hup : s.portUp p = true)
    (hw : s.pins.warning = false) (hb : s.pins.standby = none) (ha : s.arrival p tag o = some st) :
    s.hostRequest p tag o = s.refuse p tag st o.axisNo := by
  unfold State.hostRequest
  rw [hup, hw, hb, ha]
  simp

/-! ### A write of one register of the SYS block -/

theorem sysAddr_toNat {a : Nat} (h : a < 0x400) : (BitVec.ofNat 16 a).toNat = a := by
  rw [BitVec.toNat_ofNat]; omega

theorem place_sys {a : Nat} (h : a < 0x400) : place a = .dev a := if_pos (by omega)

/-- A write of a SYS register passes every check but the permission. -/
theorem State.arrival_sys {s : State} {p : Port} (tag : W16) {a : Nat} (v : W64) (hc : (s.port p).cmds = [] ∧ (s.port p).ring = []) (h : a < 0x400) :
    s.arrival p tag (.wr (BitVec.ofNat 16 a) [v]) = s.writePerm p a v := by
  obtain ⟨hcmds, hring⟩ := hc
  have hn := sysAddr_toNat h
  have haddr : (Op.wr (BitVec.ofNat 16 a) [v]).addrs = [a] := by simp [Op.addrs, hn]
  have ht : s.tagUsed p tag = false := by simp [State.tagUsed, hcmds, hring]
  have hs : (s.port p).slots = 0 := by simp [PortSt.slots, hcmds, hring]
  have hr : ¬ (0x800 ≤ a ∧ a < 0xA00) := by omega
  have hperm : s.opPerm p (.wr (BitVec.ofNat 16 a) [v]) = s.writePerm p a v := by
    simp only [State.opPerm, hn, State.writePerms]
    cases s.writePerm p a v <;> rfl
  unfold State.arrival
  rw [haddr, ht, hs, hperm]
  simp only [List.any_cons, List.any_nil, Bool.or_false, place_sys h, hr, decide_false, Bool.false_eq_true, and_false, if_false]
  cases s.writePerm p a v <;> rfl

theorem sysWrite_res {a : Nat} (v : W64) (h : a < 0x400) : (Op.wr (BitVec.ofNat 16 a) [v]).res = none := by
  have h1 : ¬ (HOST_OWNREQ < a + 1) := by unfold HOST_OWNREQ; omega
  have h2 : ¬ (FUSE_CMD < a + 1) := by unfold FUSE_CMD; omega
  simp [Op.res, sysAddr_toNat h, h1, h2]

/-- A write of a SYS register addresses no axis. -/
theorem sysWrite_axisNo {c : Cmd} {a : Nat} (v : W64) (h : a < 0x400) (hop : c.op = .wr (BitVec.ofNat 16 a) [v])
    (hax : c.axes = c.op.axes) : c.axisNo = 15 := by
  have h0 : c.axes = 0 := by
    rw [hax, hop]
    simp [Op.axes, Op.addrs, addrAxes, sysAddr_toNat h, place_sys h]
  unfold Cmd.axisNo
  rw [hop, h0]
  rfl

/-- The write starts at once and ends with the status of its register. -/
theorem State.start_sys {s u : State} {p : Port} {tag : W16} {c : Cmd} {a : Nat} {v : W64} {st : Byte} (h : a < 0x400)
    (hop : c.op = .wr (BitVec.ofNat 16 a) [v]) (hw : s.writeDev p tag a v = (u, .done st)) :
    ∃ k : Nat, s.start p tag c = .ends (u.addWrote p tag k) st [] := by
  have hready : s.regReady a v = true := by
    have hd : (a == ENGINE_DBGCTL) = false := by rw [beq_eq_false_iff_ne]; unfold ENGINE_DBGCTL; omega
    unfold State.regReady
    rw [place_sys h]
    simp [hd]
  have hreg : s.writeReg p tag a v = (u, .done st) := by unfold State.writeReg; rw [place_sys h]; exact hw
  by_cases hst : st = stOk
  · refine ⟨1, ?_⟩
    unfold State.start
    simp [hop, State.writeRegs, sysAddr_toNat h, hready, hreg, hst]
  · refine ⟨0, ?_⟩
    unfold State.start
    simp only [hop, State.writeRegs, sysAddr_toNat h, hready, hreg, Bool.not_true, Bool.false_eq_true, if_false, if_neg hst]
    rfl

/-- A SYS register written by a port that has the permission: the command starts at once, writes the register and completes. -/
theorem State.hostWrite_sys {s u : State} {p : Port} {tag : W16} {a : Nat} {v : W64} {st : Byte} (hc : Calm s p) (h : a < 0x400)
    (hperm : s.writePerm p a v = none)
    (hw : (s.issuing p tag (.wr (BitVec.ofNat 16 a) [v])).writeDev p (s.assignTag p tag).1 a v = (u, .done st))
    (hu : u.ports = (s.issuing p tag (.wr (BitVec.ofNat 16 a) [v])).ports) (ha : st ≠ stAbandoned) :
    PortsOnly u (s.hostWrite p tag a v) ∧ Done s (s.hostWrite p tag a v) p tag st 15 [] := by
  obtain ⟨hup, hwarn, hstby, hrestart, -, -, -, hports, hpend⟩ := hc
  have hclock : s.pins.noClock = false := by
    simp only [State.portUp, Bool.and_eq_true, Bool.not_eq_true'] at hup
    exact hup.1.1.2
  let o := Op.wr (BitVec.ofNat 16 a) [v]
  let i := s.issuing p tag o
  let c := s.slotOf p tag o
  obtain ⟨ionly, iothers, iown⟩ := s.issuing_parts p tag o
  have icmds : (i.port p).cmds = [c] := by rw [iown, (hports p).1]; rfl
  have hno : c.axisNo = 15 := sysWrite_axisNo v h rfl rfl
  obtain ⟨k, hk⟩ : ∃ k : Nat, i.start p c.tag c = .ends (u.addWrote p c.tag k) st [] := State.start_sys h rfl hw
  have uport (j : Port) : u.port j = i.port j := State.port_congr hu j
  let w := u.addWrote p c.tag k
  have wown : w.port p = { i.port p with cmds := [{ c with wrote := c.wrote.map (· + BitVec.ofNat 16 k) }] } := by
    refine (State.modPort_port_same ..).trans ?_
    rw [uport, icmds]
    simp
  have wothers (j : Port) (hj : j ≠ p) : w.port j = s.port j := by
    rw [show w.port j = u.port j from State.modPort_port_ne _ hj _, uport, iothers j hj]
  obtain ⟨hend, hnil⟩ := State.pumpPort_ends icmds rfl hk (congrArg PortSt.cmds wown) rfl
  let x := w.completeWith p c.tag st c.axisNo [] (w.wroteOf p c.tag st)
  have xown := w.completeWith_port p c.tag st c.axisNo [] (w.wroteOf p c.tag st)
  have xothers (j : Port) (hj : j ≠ p) : x.port j = s.port j := (w.completeWith_port_ne _ _ _ _ _ hj).trans (wothers j hj)
  have hquiet : NoCommands (i.pumpPort p) := fun j => by
    by_cases hj : j = p
    · rw [hj]; exact hnil
    · rw [hend]; exact (congrArg PortSt.cmds (xothers j hj)).trans (hports j).1
  have hpump : s.hostWrite p tag a v = x.sendPosted := by
    unfold State.hostWrite
    have ir : i.pool.restart = false := (part_of_eq (fun t => t.pool.restart) ionly rfl).trans hrestart
    have ic : i.pins.noClock = false := (part_of_eq (fun t => t.pins.noClock) ionly rfl).trans hclock
    have ip (n : Ax) : i.aget n AX_MBCTL_PEND = 0 := (congrArg (Axis.get · AX_MBCTL_PEND) (ionly.ax n)).trans (hpend n)
    have ij (j : Port) (hj : j ≠ p) : (i.port j).cmds = [] := (congrArg PortSt.cmds (iothers j hj)).trans (hports j).1
    rw [State.hostRequest_accepts hup hwarn hstby ((State.arrival_sys tag v (hports p) h).trans hperm) (sysWrite_res v h), State.accept_wr,
      State.pump_one ir ic ip ij hquiet, hend]
  obtain ⟨tonly, tport⟩ := x.sendPosted_port
  rw [hpump]
  have xonly : PortsOnly u x := (State.modPort_portsOnly u p _).trans (w.completeWith_only p c.tag st c.axisNo [] _)
  refine ⟨xonly.trans tonly, ?_, ?_, fun j hj => ⟨?_, ?_⟩, ?_⟩
  · rw [(tport p).cmds]; exact (congrArg (fun z : State => (z.port p).cmds) hend).symm.trans hnil
  · rw [(tport p).cseq, xown.cseq, wown, iown]
  · rw [(tport j).cmds, xothers j hj]; exact (hports j).1
  · exact (tport j).ring_nil (by rw [xothers j hj]; exact (hports j).2)
  · have hring : (x.port p).ring = [⟨c.tag, st, 15, [], u.time, (s.port p).cseq, w.wroteOf p c.tag st, false⟩] := by
      rw [xown.ring, wown, iown, (hports p).2, hno]; rfl
    have htime : x.sendPosted.time = u.time := (xonly.trans tonly).time
    rw [(tport p).ring_timed _ (fun _ => rfl), hring, htime]
    · rfl
    · rw [hring]; simpa using ha

/-- A SYS register written by a port without the permission. -/
theorem State.hostWrite_sys_refused {s : State} {p : Port} {tag : W16} {a : Nat} {v : W64} {st : Byte} (hc : Calm s p) (h : a < 0x400)
    (hperm : s.writePerm p a v = some st) : Refused s (s.hostWrite p tag a v) p st := by
  obtain ⟨hup, hwarn, hstby, -, -, -, -, hports, -⟩ := hc
  unfold State.hostWrite
  rw [State.hostRequest_refuses hup hwarn hstby ((State.arrival_sys tag v (hports p) h).trans hperm)]
  exact s.refuse_refused ..

/-! ### Functions of the state without the ports -/

def State.withPorts (s : State) (ps : Vector PortSt 4) : State := { s with ports := ps }

/-- A function of the state that does not look at the ports and leaves them. -/
def SparesPorts (F : State → State) : Prop := ∀ (s : State) (ps : Vector PortSt 4), F (s.withPorts ps) = (F s).withPorts ps

namespace SparesPorts

theorem self : SparesPorts (fun s => s) := fun _ _ => rfl
theorem dput (f : Fld) (x : State → Nat) (hx : ∀ s ps, x (s.withPorts ps) = x s) : SparesPorts (fun s => s.dput f (x s)) := fun s ps => by
  show (s.withPorts ps).dput f (x (s.withPorts ps)) = _
  rw [hx]; rfl
theorem modAx (n : Ax) (g : Nat → Axis → Axis) : SparesPorts (fun s => s.modAx n (g s.clk)) := fun _ _ => rfl

theorem comp {F G : State → State} (hG : SparesPorts G) (hF : SparesPorts F) : SparesPorts (fun s => G (F s)) := fun s ps =>
  (congrArg G (hF s ps)).trans (hG (F s) ps)

theorem foldl {α : Type} {f : State → α → State} (hf : ∀ a, SparesPorts (f · a)) : ∀ l : List α, SparesPorts (fun s => l.foldl f s)
  | [] => self
  | a :: l => comp (foldl hf l) (hf a)

end SparesPorts

/-- A SYS register written by a port that has the permission, where the write is a function of the state without the ports. -/
theorem State.hostWrite_sys_eq {F : State → State} {s : State} {p : Port} {tag : W16} {a : Nat} {v : W64} {st : Byte} (hF : SparesPorts F)
    (hc : Calm s p) (h : a < 0x400) (hperm : s.writePerm p a v = none)
    (hw : (s.issuing p tag (.wr (BitVec.ofNat 16 a) [v])).writeDev p (s.assignTag p tag).1 a v =
      (F (s.issuing p tag (.wr (BitVec.ofNat 16 a) [v])), .done st)) (ha : st ≠ stAbandoned) :
    PortsOnly (F s) (s.hostWrite p tag a v) ∧ Done s (s.hostWrite p tag a v) p tag st 15 [] := by
  obtain ⟨ionly, -, -⟩ := s.issuing_parts p tag (.wr (BitVec.ofNat 16 a) [v])
  have e : F (s.issuing p tag (.wr (BitVec.ofNat 16 a) [v])) = { F s with ports := (s.issuing p tag (.wr (BitVec.ofNat 16 a) [v])).ports } :=
    (congrArg F (show _ = s.withPorts _ from ionly)).trans (hF s _)
  obtain ⟨tonly, tdone⟩ := State.hostWrite_sys hc h hperm hw (congrArg State.ports e :) ha
  have fonly : PortsOnly (F s) (F (s.issuing p tag (.wr (BitVec.ofNat 16 a) [v]))) := by rw [e]; rfl
  exact ⟨fonly.trans tonly, tdone⟩

end Sys2Proof.Machine
end

section
namespace Sys2Proof.Machine
open Sys2Proof

/-! ### The time and clock registers as functions of the state -/

theorem setTrim_sparesPorts (x : Int) : SparesPorts (State.setTrim · x) := fun _ _ => rfl
theorem stepTime_sparesPorts (ns : Nat) : SparesPorts (State.stepTime · ns) := fun _ _ => rfl

/-- The bits of SYS_TIMESET that a write stores. -/
theorem State.timeset_eq (s : State) (v : W64) : s.timeset v =
    if SYS_TIMESET_PPS_EN.get v = 1 ∧ SYS_TIMESET_ARM.get v = 1 then (s.setDreg SYS_TIMESET (v &&& 0x7FFFFFFFFFFFF)).dput SYS_TIMESTAT_STATE 1
    else s.setDreg SYS_TIMESET (v &&& 0x7FFFFFFFFFFFF) := by
  have hr : devRow SYS_TIMESET = some ⟨0x21, 1, 1, 0x0, 0x7FFFFFFFFFFFF, 0x0, 0x0, 0x0⟩ := by decide
  unfold State.timeset
  rw [hr]
  rfl

theorem timeset_sparesPorts (v : W64) : SparesPorts (State.timeset · v) := fun s ps => by
  show (s.withPorts ps).timeset v = (s.timeset v).withPorts ps
  rw [State.timeset_eq, State.timeset_eq]
  split <;> rfl

theorem hresStart_sparesPorts (f : Fld) (x : Nat) :
    SparesPorts (fun s => (s.dput f x).modPins (fun p => { p with hresAt := s.clk })) := fun _ _ => rfl

theorem recalibrate_sparesPorts : SparesPorts State.recalibrate := by
  rw [show State.recalibrate = _ from funext State.recalibrate_eq]
  exact (SparesPorts.foldl (fun n => SparesPorts.modAx n (fun c a => a.recalibrated c)) allAx).comp (hresStart_sparesPorts _ _)

theorem switchPll_sparesPorts : SparesPorts State.switchPll :=
  recalibrate_sparesPorts.comp ((SparesPorts.dput SYS_CLKSTAT_SWITCHED (fun _ => 1) fun _ _ => rfl).comp
    (SparesPorts.dput SYS_CLKSTAT_ACTIVE (fun s => s.standbyPll) fun _ _ => rfl))

theorem backToXin_sparesPorts : SparesPorts State.backToXin := fun s ps => by
  by_cases h : s.dget SYS_CLKSTAT_REF_SRC = 1 ∧ s.pins.xinBad = false
  · rw [State.backToXin_taken s h.1 h.2, (s.withPorts ps).backToXin_taken h.1 h.2]
    exact recalibrate_sparesPorts ((s.dput SYS_CLKSTAT_REF_SRC 0).dput SYS_TIMESTAT_DEGRADED 0) ps
  · rw [State.backToXin_left s h, (s.withPorts ps).backToXin_left h]

/-- What SWAP does: the standby PLL takes over unless it is bad (R10). -/
def State.swapped (s : State) : State := if s.dget SYS_CLKSTAT_STBY_BAD = 0 then s.switchPll else s

theorem swapped_sparesPorts : SparesPorts State.swapped := fun s ps => by
  show (if s.dget SYS_CLKSTAT_STBY_BAD = 0 then (s.withPorts ps).switchPll else s.withPorts ps) = _
  unfold State.swapped
  split
  · exact switchPll_sparesPorts s ps
  · rfl

theorem clkctl_sparesPorts (v : W64) : SparesPorts (State.clkctl · v) := fun s ps => by
  let F (s : State) : State := s.dput SYS_CLKCTL_REF_RET (SYS_CLKCTL_REF_RET.get v)
  let G (s : State) : State := if SYS_CLKCTL_SWAP.get v = 1 then s.swapped else s
  let H (s : State) : State := if SYS_CLKCTL_REF_REARM.get v = 1 ∨ SYS_CLKCTL_REF_RET.get v = 1 then s.backToXin else s
  have hF : SparesPorts F := SparesPorts.dput _ (fun _ => _) fun _ _ => rfl
  have hG : SparesPorts G := fun s ps => by
    by_cases h : SYS_CLKCTL_SWAP.get v = 1
    · exact (if_pos h).trans ((swapped_sparesPorts s ps).trans (congrArg (State.withPorts · ps) (if_pos h).symm))
    · exact (if_neg h).trans (congrArg (State.withPorts · ps) (if_neg h).symm)
  have hH : SparesPorts H := fun s ps => by
    by_cases h : SYS_CLKCTL_REF_REARM.get v = 1 ∨ SYS_CLKCTL_REF_RET.get v = 1
    · exact (if_pos h).trans ((backToXin_sparesPorts s ps).trans (congrArg (State.withPorts · ps) (if_pos h).symm))
    · exact (if_neg h).trans (congrArg (State.withPorts · ps) (if_neg h).symm)
  have e (s : State) : s.clkctl v = H (G (F s)) := by
    unfold State.clkctl
    dsimp only [F, G, H, State.swapped]
    by_cases h : SYS_CLKCTL_SWAP.get v = 1
    · simp only [h, true_and, if_true]
    · simp only [h, false_and, if_false]
  show (s.withPorts ps).clkctl v = (s.clkctl v).withPorts ps
  rw [e, e]
  exact (hH.comp (hG.comp hF)) s ps

/-- A field written with the value it has. -/
theorem Fld.put_get_self (f : Fld) (w : W64) : f.put w (f.get w) = w := by
  refine BitVec.eq_of_getLsbD_eq fun i hi => ?_
  rw [Fld.put_getLsbD _ _ _ _ hi]
  split
  · rename_i hr
    rw [Fld.testBit_get, Nat.add_sub_cancel' hr.1]
    simp [show i - f.lo < f.w by omega]
  · rfl

theorem State.dput_dget_self (s : State) (f : Fld) (b : Nat) : (s.dput f (s.dget f)).dreg b = s.dreg b := by
  unfold State.dput State.dget
  rw [Fld.put_get_self f _]
  by_cases e : b = f.a
  · rw [e, State.setDreg_dreg_same]
  · exact State.setDreg_dreg_ne _ e _

/-- The word of SYS_CLKCTL as it stands, with one of its trigger bits. -/
theorem State.clkctlWord_get (s : State) (f : Fld) (hf : f.lo + f.w ≤ 64) (hr : SYS_CLKCTL_REF_RET.lo + 1 ≤ f.lo ∨ f.lo + f.w ≤ SYS_CLKCTL_REF_RET.lo) :
    SYS_CLKCTL_REF_RET.get (f.put s.clkctlWord 1) = s.dget SYS_CLKCTL_REF_RET ∧ f.get (f.put s.clkctlWord 1) = 1 % 2 ^ f.w := by
  refine ⟨?_, Fld.get_put_same _ _ _ hf⟩
  rw [Fld.get_put_ne f SYS_CLKCTL_REF_RET _ _ hr (by decide)]
  unfold State.clkctlWord
  rw [Fld.get_put_same _ _ _ (by decide)]
  exact Nat.mod_eq_of_lt (s.dget_lt SYS_CLKCTL_REF_RET)

/-- SYS_CLKCTL with REF_RET written as it stands. -/
def State.clkctlKept (s : State) : State := s.dput SYS_CLKCTL_REF_RET (s.dget SYS_CLKCTL_REF_RET)

theorem State.clkctlKept_dreg (s : State) (b : Nat) : s.clkctlKept.dreg b = s.dreg b := s.dput_dget_self _ b
theorem State.clkctlKept_dget (s : State) (f : Fld) : s.clkctlKept.dget f = s.dget f := by
  unfold State.dget; rw [s.clkctlKept_dreg]

/-- SYS_CLKCTL rewritten as it stands but for SWAP: XIN is taken back where REF_RET allows it. -/
theorem State.clkctl_swap (s : State) : s.clkctl (SYS_CLKCTL_SWAP.put s.clkctlWord 1) =
    if s.dget SYS_CLKCTL_REF_RET = 1 then s.clkctlKept.swapped.backToXin else s.clkctlKept.swapped := by
  obtain ⟨hret, hswap⟩ := s.clkctlWord_get SYS_CLKCTL_SWAP (by decide) (by decide)
  have hrearm : SYS_CLKCTL_REF_REARM.get (SYS_CLKCTL_SWAP.put s.clkctlWord 1) = 0 := by
    unfold State.clkctlWord
    rw [Fld.get_put_ne _ _ _ _ (by decide) (by decide), Fld.get_put_ne _ _ _ _ (by decide) (by decide)]
    rfl
  unfold State.clkctl
  rw [hret, hswap, hrearm]
  have hs : s.clkctlKept.swapped = if s.clkctlKept.dget SYS_CLKSTAT_STBY_BAD = 0 then s.clkctlKept.switchPll else s.clkctlKept := rfl
  rw [hs]
  simp only [State.clkctlKept]
  simp
  rfl

/-- SYS_CLKCTL rewritten as it stands but for REF_REARM. -/
theorem State.clkctl_rearm (s : State) : s.clkctl (SYS_CLKCTL_REF_REARM.put s.clkctlWord 1) = s.clkctlKept.backToXin := by
  obtain ⟨hret, hrearm⟩ := s.clkctlWord_get SYS_CLKCTL_REF_REARM (by decide) (by decide)
  have hswap : SYS_CLKCTL_SWAP.get (SYS_CLKCTL_REF_REARM.put s.clkctlWord 1) = 0 := by
    unfold State.clkctlWord
    rw [Fld.get_put_ne _ _ _ _ (by decide) (by decide), Fld.get_put_ne _ _ _ _ (by decide) (by decide)]
    rfl
  unfold State.clkctl
  rw [hret, hswap, hrearm]
  simp only [State.clkctlKept]
  simp

/-! ### Permissions of these registers (R312) -/

theorem State.writePerm_time (s : State) (p : Port) {a : Nat} (v : W64) (h : a = SYS_TIMESET ∨ a = SYS_TIMETRIM ∨ a = SYS_TIMELOAD) :
    s.writePerm p a v = needs (s.func p fnTime) := by
  have ha : a < 0x400 := by rcases h with rfl | rfl | rfl <;> decide
  unfold State.writePerm
  rw [place_sys ha]
  exact if_pos h

theorem State.writePerm_clkctl (s : State) (p : Port) (v : W64) : s.writePerm p SYS_CLKCTL v = needs (s.isSvc p) := by
  unfold State.writePerm
  rw [place_sys (by decide)]
  exact (if_neg (by decide)).trans (if_pos (by decide))

/-! ### Recalibrated delay lines (R11) -/

theorem wholeTick_wholeTick (t : Nat) : wholeTick (wholeTick t) = wholeTick t := by unfold wholeTick; omega

/-- Edges at whole base ticks stay there. -/
theorem Axis.recalibrated_twice (a : Axis) (clk : Nat) : (a.recalibrated clk).recalibrated clk = a.recalibrated clk := by
  unfold Axis.recalibrated
  simp only [List.map_map]
  congr 2
  refine List.map_congr_left fun e _ => ?_
  show (if (if e.t < 32 * (clk + 2 * usTicks) then { e with t := wholeTick e.t } else e).t < _ then _ else _) = _
  by_cases h : e.t < 32 * (clk + 2 * usTicks)
  · simp only [if_pos h, wholeTick_wholeTick, ite_self]
  · simp only [if_neg h]

/-- What a recalibration leaves: HRES_FB, its instant, and the edges of every axis. -/
def Recalibrated (s t : State) : Prop :=
  t = { s with dev := t.dev, pins := { s.pins with hresAt := s.clk }, axes := t.axes, ports := t.ports } ∧ t.dget SYS_CLKSTAT_HRES_FB = 1 ∧
    ∀ n : Ax, t.ax n = (s.ax n).recalibrated s.clk

theorem Recalibrated.ports {s t u : State} (h : Recalibrated s t) (g : PortsOnly t u) : Recalibrated s u := by
  obtain ⟨only, hres, ax⟩ := h
  refine ⟨?_, (g.dget _).trans hres, fun n => (g.ax n).trans (ax n)⟩
  have hd : u.dev = t.dev := part_of_eq State.dev g rfl
  have ha : u.axes = t.axes := part_of_eq State.axes g rfl
  rw [hd, ha]
  exact Eq.trans g (congrArg (fun x : State => x.withPorts u.ports) only)

/-- The delay lines recalibrate, after a change of registers alone. -/
theorem State.recalibrate_recalibrated {s u : State} (h : u = { s with dev := u.dev }) : Recalibrated s u.recalibrate := by
  have hc : u.clk = s.clk := part_of_eq State.clk h rfl
  have hp : u.pins = s.pins := part_of_eq State.pins h rfl
  refine ⟨?_, ?_, fun n => ?_⟩
  · have e := u.recalibrate_only
    have hports : u.recalibrate.ports = u.ports := part_of_eq State.ports e rfl
    have hpins : { u.pins with hresAt := u.clk } = { s.pins with hresAt := s.clk } := by rw [hc, hp]
    rw [hpins, ← u.recalibrate_dev] at e
    rw [hports]
    exact e.trans (congrArg (fun x : State => { x with
      dev := u.recalibrate.dev, pins := { s.pins with hresAt := s.clk }, axes := u.recalibrate.axes, ports := u.ports }) h)
  · rw [u.recalibrate_dget]; exact u.dput_dget_same SYS_CLKSTAT_HRES_FB 1 (by decide)
  · rw [u.recalibrate_ax, hc, part_of_eq (State.ax · n) h rfl]; rfl

/-- They recalibrate again at the same instant. -/
theorem Recalibrated.again {s u v : State} (h : Recalibrated s u) (hv : v = { u with dev := v.dev }) : Recalibrated s v.recalibrate := by
  obtain ⟨uonly, -, uax⟩ := h
  obtain ⟨vonly, vhres, vax⟩ := State.recalibrate_recalibrated hv
  have hc : u.clk = s.clk := part_of_eq State.clk uonly rfl
  have hp : u.pins = { s.pins with hresAt := s.clk } := (congrArg State.pins uonly :)
  refine ⟨?_, vhres, fun n => ?_⟩
  · have hpins : { u.pins with hresAt := u.clk } = { s.pins with hresAt := s.clk } := by rw [hc, hp]
    rw [hpins] at vonly
    exact vonly.trans (congrArg (fun x : State => { x with
      dev := v.recalibrate.dev, pins := { s.pins with hresAt := s.clk }, axes := v.recalibrate.axes, ports := v.recalibrate.ports }) uonly)
  · rw [vax, uax, hc, Axis.recalibrated_twice]

/-! ### XIN taken back (R15) -/

/-- The registers with the reference taken back. -/
def State.xinTaken (s : State) : State := (s.dput SYS_CLKSTAT_REF_SRC 0).dput SYS_TIMESTAT_DEGRADED 0

theorem State.dput_only (s : State) (f : Fld) (x : Nat) : s.dput f x = { s with dev := (s.dput f x).dev } := rfl

theorem State.dput_dput_only (s : State) (f g : Fld) (x y : Nat) : (s.dput f x).dput g y = { s with dev := ((s.dput f x).dput g y).dev } := rfl

theorem State.xinTaken_only (s : State) : s.xinTaken = { s with dev := s.xinTaken.dev } := s.dput_dput_only _ _ _ _

theorem State.clkctlKept_xinTaken_only (s : State) : s.clkctlKept.xinTaken = { s with dev := s.clkctlKept.xinTaken.dev } :=
  s.clkctlKept.xinTaken_only

theorem State.xinTaken_dget (s : State) : s.xinTaken.recalibrate.dget SYS_CLKSTAT_REF_SRC = 0 ∧
    s.xinTaken.recalibrate.dget SYS_TIMESTAT_DEGRADED = 0 ∧
    s.xinTaken.recalibrate.dget SYS_CLKSTAT_ACTIVE = s.dget SYS_CLKSTAT_ACTIVE ∧
    s.xinTaken.recalibrate.dget SYS_CLKSTAT_SWITCHED = s.dget SYS_CLKSTAT_SWITCHED := by
  have hreg (g : Fld) (h : g.a = SYS_CLKSTAT) (ho : g.lo + g.w ≤ SYS_CLKSTAT_HRES_FB.lo ∨ SYS_CLKSTAT_HRES_FB.lo + 1 ≤ g.lo) (hg : g.lo + g.w ≤ 64) :
      s.xinTaken.recalibrate.dget g = (s.dput SYS_CLKSTAT_REF_SRC 0).dget g := by
    rw [State.recalibrate_dget, State.dput_dget_fld _ SYS_CLKSTAT_HRES_FB g _ h ho hg]
    exact State.dput_dget_reg _ SYS_TIMESTAT_DEGRADED g _ (by rw [h]; decide)
  refine ⟨?_, ?_, ?_, ?_⟩
  · rw [hreg _ rfl (by decide) (by decide)]
    exact State.dput_dget_same _ SYS_CLKSTAT_REF_SRC _ (by decide)
  · rw [State.recalibrate_dget, State.dput_dget_reg _ SYS_CLKSTAT_HRES_FB SYS_TIMESTAT_DEGRADED _ (by decide)]
    exact State.dput_dget_same _ SYS_TIMESTAT_DEGRADED _ (by decide)
  · rw [hreg _ rfl (by decide) (by decide)]
    exact State.dput_dget_fld _ SYS_CLKSTAT_REF_SRC SYS_CLKSTAT_ACTIVE _ rfl (by decide) (by decide)
  · rw [hreg _ rfl (by decide) (by decide)]
    exact State.dput_dget_fld _ SYS_CLKSTAT_REF_SRC SYS_CLKSTAT_SWITCHED _ rfl (by decide) (by decide)

theorem State.switchPll_regs (s : State) : s.switchPll.dget SYS_CLKSTAT_ACTIVE = 1 - s.dget SYS_CLKSTAT_ACTIVE ∧
    s.switchPll.dget SYS_CLKSTAT_SWITCHED = 1 ∧ s.switchPll.dget SYS_CLKSTAT_REF_SRC = s.dget SYS_CLKSTAT_REF_SRC ∧
    s.switchPll.dget SYS_TIMESTAT_DEGRADED = s.dget SYS_TIMESTAT_DEGRADED := by
  have hact : s.dget SYS_CLKSTAT_ACTIVE < 2 := s.dget_lt _
  have hmod : (1 - s.dget SYS_CLKSTAT_ACTIVE) % 2 ^ 1 = 1 - s.dget SYS_CLKSTAT_ACTIVE := by omega
  refine ⟨?_, ?_, ?_, ?_⟩ <;> rw [State.switchPll_dget]
  · rw [State.dput_dget_fld _ SYS_CLKSTAT_HRES_FB SYS_CLKSTAT_ACTIVE _ rfl (by decide) (by decide),
      State.dput_dget_fld _ SYS_CLKSTAT_SWITCHED SYS_CLKSTAT_ACTIVE _ rfl (by decide) (by decide),
      State.dput_dget_same _ SYS_CLKSTAT_ACTIVE _ (by decide)]
    exact hmod
  · rw [State.dput_dget_fld _ SYS_CLKSTAT_HRES_FB SYS_CLKSTAT_SWITCHED _ rfl (by decide) (by decide),
      State.dput_dget_same _ SYS_CLKSTAT_SWITCHED _ (by decide)]
    rfl
  · rw [State.dput_dget_fld _ SYS_CLKSTAT_HRES_FB SYS_CLKSTAT_REF_SRC _ rfl (by decide) (by decide),
      State.dput_dget_fld _ SYS_CLKSTAT_SWITCHED SYS_CLKSTAT_REF_SRC _ rfl (by decide) (by decide),
      State.dput_dget_fld _ SYS_CLKSTAT_ACTIVE SYS_CLKSTAT_REF_SRC _ rfl (by decide) (by decide)]
  · rw [State.dput_dget_reg _ SYS_CLKSTAT_HRES_FB SYS_TIMESTAT_DEGRADED _ (by decide),
      State.dput_dget_reg _ SYS_CLKSTAT_SWITCHED SYS_TIMESTAT_DEGRADED _ (by decide),
      State.dput_dget_reg _ SYS_CLKSTAT_ACTIVE SYS_TIMESTAT_DEGRADED _ (by decide)]

/-! ### The writes of SYS_CLKCTL by their cases -/

/-- XIN can be taken back: the device runs on its RC and XIN is correct again. -/
def State.XinBack (s : State) : Prop := s.dget SYS_CLKSTAT_REF_SRC = 1 ∧ s.pins.xinBad = false

theorem State.clkctlKept_back (s : State) (h : s.XinBack) : s.clkctlKept.backToXin = s.clkctlKept.xinTaken.recalibrate :=
  State.backToXin_taken _ ((s.clkctlKept_dget _).trans h.1) h.2

theorem State.clkctlKept_left (s : State) (h : ¬ s.XinBack) : s.clkctlKept.backToXin = s.clkctlKept :=
  State.backToXin_left _ fun ⟨h1, h2⟩ => h ⟨(s.clkctlKept_dget _).symm.trans h1, h2⟩

/-- Recalibration after the reference is taken back. -/
theorem State.clkctlKept_taken (s : State) : let t := s.clkctlKept.xinTaken.recalibrate
    Recalibrated s t ∧ t.dget SYS_CLKSTAT_ACTIVE = s.dget SYS_CLKSTAT_ACTIVE ∧ t.dget SYS_CLKSTAT_REF_SRC = 0 ∧
      t.dget SYS_TIMESTAT_DEGRADED = 0 := by
  obtain ⟨href, hdeg, hact, -⟩ := s.clkctlKept.xinTaken_dget
  exact ⟨State.recalibrate_recalibrated s.clkctlKept_xinTaken_only, hact.trans (s.clkctlKept_dget _), href, hdeg⟩

/-- SWAP to a good standby PLL, with XIN taken back where REF_RET allows it. -/
theorem State.clkctl_swap_good (s : State) (h : s.dget SYS_CLKSTAT_STBY_BAD = 0) :
    let t := s.clkctl (SYS_CLKCTL_SWAP.put s.clkctlWord 1)
    let ret := s.XinBack ∧ s.dget SYS_CLKCTL_REF_RET = 1
    Recalibrated s t ∧ t.dget SYS_CLKSTAT_ACTIVE = 1 - s.dget SYS_CLKSTAT_ACTIVE ∧ t.dget SYS_CLKSTAT_SWITCHED = 1 ∧
      (ret → t.dget SYS_CLKSTAT_REF_SRC = 0 ∧ t.dget SYS_TIMESTAT_DEGRADED = 0) ∧
      (¬ret → t.dget SYS_CLKSTAT_REF_SRC = s.dget SYS_CLKSTAT_REF_SRC ∧ t.dget SYS_TIMESTAT_DEGRADED = s.dget SYS_TIMESTAT_DEGRADED) := by
  intro t ret
  let w := s.clkctlKept.switchPll
  have hw : s.clkctlKept.swapped = w := if_pos ((s.clkctlKept_dget _).trans h)
  have hrec : Recalibrated s w := State.recalibrate_recalibrated rfl
  obtain ⟨wact, wsw, wref, wdeg⟩ := s.clkctlKept.switchPll_regs
  rw [s.clkctlKept_dget] at wact wref wdeg
  have ht : t = if s.dget SYS_CLKCTL_REF_RET = 1 then w.backToXin else w := hw ▸ s.clkctl_swap
  by_cases hret : ret
  · have hx : w.pins.xinBad = false := (congrArg Pins.xinBad s.clkctlKept.switchPll_fields.2.2.2.2.2.2).trans hret.1.2
    have e : t = w.xinTaken.recalibrate := by rw [ht, if_pos hret.2]; exact w.backToXin_taken (wref.trans hret.1.1) hx
    obtain ⟨xref, xdeg, xact, xsw⟩ := w.xinTaken_dget
    rw [e]
    exact ⟨hrec.again w.xinTaken_only, xact.trans wact, xsw.trans wsw, fun _ => ⟨xref, xdeg⟩, fun h => absurd hret h⟩
  · have e : t = w := by
      rw [ht]
      split
      · rename_i hr
        exact w.backToXin_left fun ⟨h1, h2⟩ => hret ⟨⟨wref.symm.trans h1,
          (congrArg Pins.xinBad s.clkctlKept.switchPll_fields.2.2.2.2.2.2).symm.trans h2⟩, hr⟩
      · rfl
    rw [e]
    exact ⟨hrec, wact, wsw, fun h => absurd h hret, fun _ => ⟨wref, wdeg⟩⟩

/-- SWAP to a bad standby PLL does not switch. -/
theorem State.clkctl_swap_bad (s : State) (h : s.dget SYS_CLKSTAT_STBY_BAD = 1) : s.clkctl (SYS_CLKCTL_SWAP.put s.clkctlWord 1) =
    if s.dget SYS_CLKCTL_REF_RET = 1 then s.clkctlKept.backToXin else s.clkctlKept := by
  have hw : s.clkctlKept.swapped = s.clkctlKept := if_neg (by rw [s.clkctlKept_dget, h]; decide)
  rw [s.clkctl_swap, hw]

/-! ### What the registers do with a write (R433) -/

section
variable (s : State) (p : Port) (tag : W16) (v : W64)

/-- A write of a SYS register (R32, R402). -/
theorem State.writeDev_sys {a : Nat} (h : a < 0x400) : s.writeDev p tag a v =
    if a = SYS_CLKCTL then (s.clkctl v, Wr.ok) else if a = SYS_ISLGATE then (s.islgate v, Wr.ok)
    else if a = SYS_TIMESET then (s.timeset v, Wr.ok)
    else if a = SYS_TIMETRIM then (s.setTrim (SYS_TIMETRIM_TRIM.sget v), Wr.ok)
    else if a = SYS_TIMELOAD then
      if s.dget SYS_TIMESTAT_STATE = 0 then (s.stepTime v.toNat, Wr.ok) else (s, .done stNotPermitted)
    else if a = SYS_STBY then ((s.writeStby p tag v).1, .done (s.writeStby p tag v).2)
    else (s.setDreg a (merged (devRow a) (s.dreg a) v), Wr.ok) := if_pos h

theorem State.writeDev_clkctl : s.writeDev p tag SYS_CLKCTL v = (s.clkctl v, Wr.ok) := s.writeDev_sys p tag v (by decide)
theorem State.writeDev_timeset : s.writeDev p tag SYS_TIMESET v = (s.timeset v, Wr.ok) := s.writeDev_sys p tag v (by decide)
theorem State.writeDev_timetrim : s.writeDev p tag SYS_TIMETRIM v = (s.setTrim (SYS_TIMETRIM_TRIM.sget v), Wr.ok) :=
  s.writeDev_sys p tag v (by decide)
theorem State.writeDev_timeload : s.writeDev p tag SYS_TIMELOAD v =
    if s.dget SYS_TIMESTAT_STATE = 0 then (s.stepTime v.toNat, Wr.ok) else (s, .done stNotPermitted) := s.writeDev_sys p tag v (by decide)

end

/-! ### The writes at a calm port -/

theorem State.issuing_dget (s : State) (p : Port) (tag : W16) (o : Op) (f : Fld) : (s.issuing p tag o).dget f = s.dget f :=
  (s.issuing_parts p tag o).1.dget f

section
variable {s : State} {p : Port} (tag : W16) (hc : Calm s p)
include hc

/-- SYS_CLKCTL written by a port with the service permission. -/
theorem State.hostWrite_clkctl (v : W64) (h : s.isSvc p = true) :
    PortsOnly (s.clkctl v) (s.hostWrite p tag SYS_CLKCTL v) ∧ Done s (s.hostWrite p tag SYS_CLKCTL v) p tag stOk 15 [] :=
  State.hostWrite_sys_eq (clkctl_sparesPorts v) hc (by decide) ((s.writePerm_clkctl p v).trans (by rw [h]; rfl)) (State.writeDev_clkctl ..) (by decide)

theorem State.hostWrite_timetrim (v : W64) (h : s.func p fnTime = true) :
    PortsOnly (s.setTrim (SYS_TIMETRIM_TRIM.sget v)) (s.hostWrite p tag SYS_TIMETRIM v) ∧
    Done s (s.hostWrite p tag SYS_TIMETRIM v) p tag stOk 15 [] :=
  State.hostWrite_sys_eq (setTrim_sparesPorts _) hc (by decide) ((s.writePerm_time p v (by decide)).trans (by rw [h]; rfl)) (State.writeDev_timetrim ..) (by decide)

theorem State.hostWrite_timeset (v : W64) (h : s.func p fnTime = true) :
    PortsOnly (s.timeset v) (s.hostWrite p tag SYS_TIMESET v) ∧ Done s (s.hostWrite p tag SYS_TIMESET v) p tag stOk 15 [] :=
  State.hostWrite_sys_eq (timeset_sparesPorts v) hc (by decide) ((s.writePerm_time p v (by decide)).trans (by rw [h]; rfl)) (State.writeDev_timeset ..) (by decide)

theorem State.hostWrite_timeload_free (v : W64) (h : s.func p fnTime = true) (hs : s.dget SYS_TIMESTAT_STATE = 0) :
    PortsOnly (s.stepTime v.toNat) (s.hostWrite p tag SYS_TIMELOAD v) ∧ Done s (s.hostWrite p tag SYS_TIMELOAD v) p tag stOk 15 [] :=
  State.hostWrite_sys_eq (stepTime_sparesPorts _) hc (by decide) ((s.writePerm_time p v (by decide)).trans (by rw [h]; rfl)) ((State.writeDev_timeload ..).trans (if_pos ((s.issuing_dget ..).trans hs))) (by decide)

theorem State.hostWrite_timeload_else (v : W64) (h : s.func p fnTime = true) (hs : s.dget SYS_TIMESTAT_STATE ≠ 0) :
    PortsOnly s (s.hostWrite p tag SYS_TIMELOAD v) ∧ Done s (s.hostWrite p tag SYS_TIMELOAD v) p tag stNotPermitted 15 [] :=
  State.hostWrite_sys_eq .self hc (by decide) ((s.writePerm_time p v (by decide)).trans (by rw [h]; rfl)) ((State.writeDev_timeload ..).trans (if_neg (fun e => hs ((s.issuing_dget ..).symm.trans e)))) (by decide)

end

/-- What a write of SYS_TIMESET leaves (R26). -/
theorem State.timeset_regs (s : State) (v : W64) : s.timeset v = { s with dev := (s.timeset v).dev } ∧
    (s.timeset v).dreg SYS_TIMESET = (v &&& 0x7FFFFFFFFFFFF) ∧
    (∀ b : Nat, b ≠ SYS_TIMESET → b ≠ SYS_TIMESTAT → (s.timeset v).dreg b = s.dreg b) ∧
    (s.timeset v).dget SYS_TIMESTAT_STATE = (if SYS_TIMESET_PPS_EN.get v = 1 ∧ SYS_TIMESET_ARM.get v = 1 then 1 else s.dget SYS_TIMESTAT_STATE) ∧
    (s.timeset v).dget SYS_TIMESTAT_LAST_ERR = s.dget SYS_TIMESTAT_LAST_ERR ∧
    (s.timeset v).dget SYS_TIMESTAT_REJECTS = s.dget SYS_TIMESTAT_REJECTS := by
  let u := s.setDreg SYS_TIMESET (v &&& 0x7FFFFFFFFFFFF)
  have hstat (f : Fld) (h : f.a = SYS_TIMESTAT) : u.dget f = s.dget f :=
    congrArg f.get (State.setDreg_dreg_ne s (h ▸ (by decide)) _)
  have honly : s.timeset v = { s with dev := (s.timeset v).dev } := by rw [State.timeset_eq]; split <;> rfl
  refine ⟨honly, ?_⟩
  rw [State.timeset_eq]
  split
  · refine ⟨?_, fun b h1 h2 => ?_, State.dput_dget_same _ SYS_TIMESTAT_STATE 1 (by decide), ?_, ?_⟩
    · exact (State.setDreg_dreg_ne _ (by decide) _).trans (State.setDreg_dreg_same ..)
    · exact (State.setDreg_dreg_ne _ h2 _).trans (State.setDreg_dreg_ne _ h1 _)
    · exact (State.dput_dget_fld _ SYS_TIMESTAT_STATE SYS_TIMESTAT_LAST_ERR _ rfl (by decide) (by decide)).trans (hstat _ rfl)
    · exact (State.dput_dget_fld _ SYS_TIMESTAT_STATE SYS_TIMESTAT_REJECTS _ rfl (by decide) (by decide)).trans (hstat _ rfl)
  · exact ⟨State.setDreg_dreg_same .., fun b h1 _ => State.setDreg_dreg_ne _ h1 _, hstat _ rfl, hstat _ rfl, hstat _ rfl⟩

theorem PortsOnly.of_dev {s u t : State} (hu : u = { s with dev := u.dev }) (h : PortsOnly u t) :
    t = { s with dev := t.dev, ports := t.ports } := by
  have hd : t.dev = u.dev := part_of_eq State.dev h rfl
  rw [hd]
  exact Eq.trans h (congrArg (fun x : State => x.withPorts t.ports) hu)

theorem State.taken_of_ports (s : State) (n : Ax) {t : State} (h : PortsOnly s.clkctlKept.xinTaken.recalibrate t) :
    (t = { s with dev := t.dev, pins := { s.pins with hresAt := s.clk }, axes := t.axes, ports := t.ports } ∧
      t.dget SYS_CLKSTAT_HRES_FB = 1 ∧ t.ax n = (s.ax n).recalibrated s.clk) ∧
    t.dget SYS_CLKSTAT_ACTIVE = s.dget SYS_CLKSTAT_ACTIVE ∧ t.dget SYS_CLKSTAT_REF_SRC = 0 ∧ t.dget SYS_TIMESTAT_DEGRADED = 0 := by
  obtain ⟨hrec, hact, href, hdeg⟩ := s.clkctlKept_taken
  obtain ⟨only, hres, ax⟩ := hrec.ports h
  exact ⟨⟨only, hres, ax n⟩, (h.dget _).trans hact, (h.dget _).trans href, (h.dget _).trans hdeg⟩

theorem State.idle_of_ports (s : State) {t : State} (h : PortsOnly s.clkctlKept t) :
    t = { s with dev := t.dev, ports := t.ports } ∧ ∀ b : Nat, t.dreg b = s.dreg b :=
  ⟨PortsOnly.of_dev (State.dput_only ..) h, fun b => (h.dreg b).trans (s.clkctlKept_dreg b)⟩

/-- Settles O37: each write is a function of the state without the ports, applied by a command that completes at once. -/
theorem timeRegisters : Obligations.TimeRegisters := by
  unfold Obligations.TimeRegisters
  intro p tag v n s ok no act arms back ret recal taken left idle hc
  refine ⟨fun h => ?_, fun h hs => ?_, fun h hs => ?_, fun h => ?_, fun h => ?_, fun h hb => ?_, fun h hb hr => ?_, fun h hb hr => ?_,
    fun h hb => ?_, fun h hb => ?_, fun h => ?_⟩
  · obtain ⟨tonly, tdone⟩ := State.hostWrite_timetrim tag hc v h
    refine ⟨_, rfl, tdone, ⟨PortsOnly.of_dev (State.dput_only ..) tonly, fun b hb => ?_⟩, ?_⟩
    · exact (tonly.dreg b).trans (State.setDreg_dreg_ne _ hb _)
    · refine (tonly.dget _).trans ((s.dput_dget_same SYS_TIMETRIM_TRIM _ (by decide)).trans (Nat.mod_eq_of_lt ?_))
      show _ < 2 ^ 32
      omega
  · obtain ⟨tonly, tdone⟩ := State.hostWrite_timeload_free tag hc v h hs
    refine ⟨_, rfl, tdone, tonly.time.trans ((s.stepTime_time v.toNat).trans (BitVec.ofNat_toNat ..)), ?_⟩
    have htm := part_of_eq State.tm tonly rfl
    rw [htm]
    exact tonly
  · obtain ⟨tonly, tdone⟩ := State.hostWrite_timeload_else tag hc v h hs
    exact ⟨_, rfl, tdone, tonly⟩
  · obtain ⟨tonly, tdone⟩ := State.hostWrite_timeset tag hc v h
    obtain ⟨honly, hset, hreg, hstate, herr, hrej⟩ := s.timeset_regs v
    exact ⟨_, rfl, tdone, PortsOnly.of_dev honly tonly, (tonly.dreg _).trans hset, fun b h1 h2 => (tonly.dreg b).trans (hreg b h1 h2),
      (tonly.dget _).trans hstate, (tonly.dget _).trans herr, (tonly.dget _).trans hrej⟩
  · have hperm (a : Nat) (ha : a = SYS_TIMESET ∨ a = SYS_TIMETRIM ∨ a = SYS_TIMELOAD) (hl : a < 0x400) :
        Refused s (s.hostWrite p tag a v) p stNotPermitted :=
      State.hostWrite_sys_refused hc hl ((s.writePerm_time p v ha).trans (by rw [h]; rfl))
    exact ⟨runs_of_exec rfl (hperm _ (by decide) (by decide)), runs_of_exec rfl (hperm _ (by decide) (by decide)),
      runs_of_exec rfl (hperm _ (by decide) (by decide))⟩
  · obtain ⟨tonly, tdone⟩ := State.hostWrite_clkctl tag hc (SYS_CLKCTL_SWAP.put s.clkctlWord 1) h
    obtain ⟨hrec, hact, hsw, htaken, hleft⟩ := s.clkctl_swap_good hb
    refine ⟨_, rfl, tdone, ?_⟩
    have hrec' := hrec.ports tonly
    refine ⟨⟨hrec'.1, hrec'.2.1, hrec'.2.2 n⟩, (tonly.dget _).trans hact, (tonly.dget _).trans hsw, fun hr => ?_, fun hr => ?_⟩
    · exact ⟨(tonly.dget _).trans (htaken hr).1, (tonly.dget _).trans (htaken hr).2⟩
    · exact ⟨(tonly.dget _).trans (hleft hr).1, (tonly.dget _).trans (hleft hr).2⟩
  · obtain ⟨tonly, tdone⟩ := State.hostWrite_clkctl tag hc (SYS_CLKCTL_SWAP.put s.clkctlWord 1) h
    rw [s.clkctl_swap_bad hb, if_pos hr.2, s.clkctlKept_back hr.1] at tonly
    exact ⟨_, rfl, tdone, s.taken_of_ports n tonly⟩
  · obtain ⟨tonly, tdone⟩ := State.hostWrite_clkctl tag hc (SYS_CLKCTL_SWAP.put s.clkctlWord 1) h
    have e : s.clkctl (SYS_CLKCTL_SWAP.put s.clkctlWord 1) = s.clkctlKept := by
      rw [s.clkctl_swap_bad hb]
      split
      · rename_i hret
        exact s.clkctlKept_left fun hx => hr ⟨hx, hret⟩
      · rfl
    rw [e] at tonly
    exact ⟨_, rfl, tdone, s.idle_of_ports tonly⟩
  · obtain ⟨tonly, tdone⟩ := State.hostWrite_clkctl tag hc (SYS_CLKCTL_REF_REARM.put s.clkctlWord 1) h
    rw [s.clkctl_rearm, s.clkctlKept_back hb] at tonly
    exact ⟨_, rfl, tdone, s.taken_of_ports n tonly⟩
  · obtain ⟨tonly, tdone⟩ := State.hostWrite_clkctl tag hc (SYS_CLKCTL_REF_REARM.put s.clkctlWord 1) h
    rw [s.clkctl_rearm, s.clkctlKept_left hb] at tonly
    exact ⟨_, rfl, tdone, s.idle_of_ports tonly⟩
  · have hperm (w : W64) : Refused s (s.hostWrite p tag SYS_CLKCTL w) p stNotPermitted :=
      State.hostWrite_sys_refused hc (by decide) ((s.writePerm_clkctl p w).trans (by rw [h]; rfl))
    exact ⟨runs_of_exec rfl (hperm _), runs_of_exec rfl (hperm _)⟩

end Sys2Proof.Machine
end

section
namespace Sys2Proof.Machine
open Sys2Proof

/-! ### Commands refused on arrival, and commands never started (R316, R318) -/

/-- A command that fails an arrival check is refused. -/
theorem State.hostRequest_refused {s : State} {p : Port} {tag : W16} {o : Op} {st : Byte} (hup : s.portUp p = true)
    (hw : s.pins.warning = false) (hb : s.pins.standby = none) (ha : s.arrival p tag o = some st) :
    Refused s (s.hostRequest p tag o) p st :=
  (State.hostRequest_refuses hup hw hb ha).symm ▸ s.refuse_refused ..

theorem State.hostRequest_down {s : State} {p : Port} (tag : W16) (o : Op) (hup : s.portUp p = false) : s.hostRequest p tag o = s := by
  unfold State.hostRequest; rw [hup]; rfl

theorem State.hostRequest_warning {s : State} {p : Port} (tag : W16) (o : Op) (hup : s.portUp p = true) (hw : s.pins.warning = true) :
    s.hostRequest p tag o = s.refuse p tag stDeviceFault o.axisNo := by
  unfold State.hostRequest; rw [hup, hw]; rfl

theorem State.hostRequest_standby {s : State} {p : Port} (tag : W16) (o : Op) (hup : s.portUp p = true) (hw : s.pins.warning = false)
    (hb : s.pins.standby ≠ none) : s.hostRequest p tag o = s.refuse p tag stNotPermitted o.axisNo := by
  unfold State.hostRequest
  rw [hup, hw, Option.isSome_iff_ne_none.2 hb]
  rfl

/-- The arrival checks of a POST: its tag, the ownership of its axis, the slots. -/
theorem State.arrival_post (s : State) (p : Port) (tag : W16) (n : Ax) : s.arrival p tag (.post n) =
    if s.gen p = 3 ∧ s.tagUsed p tag = true then some stBadFrame
    else if s.owns p n = false then some stNotOwner else if 16 ≤ (s.port p).slots then some stQueueFull else none := by
  have haddr : (Op.post n).addrs = [] := rfl
  unfold State.arrival
  rw [haddr]
  simp only [List.any_nil, Bool.false_eq_true, and_false, if_false, State.opPerm]
  cases s.owns p n <;> rfl

/-- SANDGLASS_EXPIRY of a command that has not started in time. -/
theorem execSandglassExpiry_due {s : State} {p : Port} {tag : W16} {c : Cmd} (hc : (s.port p).cmds.find? (fun x => x.tag == tag) = some c)
    (hd : c.started = false ∧ c.at_ + s.dget (HOST_PCFG_SGL p.val) * usTicks ≤ s.clk ∧ s.pool.restart = false) :
    exec (.sandglassExpiry p tag) s = .next (s.complete p tag stTimeout c.axisNo []).pump := by
  show execSandglassExpiry p tag s = _
  unfold execSandglassExpiry
  rw [hc]
  exact if_pos hd

theorem execSandglassExpiry_else {s : State} {p : Port} {tag : W16} (h : ∀ c : Cmd, (s.port p).cmds.find? (fun x => x.tag == tag) = some c →
    ¬(c.started = false ∧ c.at_ + s.dget (HOST_PCFG_SGL p.val) * usTicks ≤ s.clk ∧ s.pool.restart = false)) :
    exec (.sandglassExpiry p tag) s = .next s := by
  show execSandglassExpiry p tag s = _
  unfold execSandglassExpiry
  cases hc : (s.port p).cmds.find? (fun x => x.tag == tag) with
  | none => rfl
  | some c => exact if_neg (h c hc)

/-- Settles O46: the checks of `hostRequest` in their order, then the completion of a command alone on its port. -/
theorem refusalsAndTimeouts : Obligations.RefusalsAndTimeouts := by
  unfold Obligations.RefusalsAndTimeouts
  intro p tag n c s q no heard fresh due
  have harr := s.arrival_post p tag n
  refine ⟨fun h => ?_, fun h hw => ?_, fun h hw hb => ?_, fun ⟨h, hw, hb⟩ hf => ?_, fun ⟨h, hw, hb⟩ hf ho => ?_, fun ⟨h, hw, hb⟩ hf ho hq => ?_,
    fun hc ht hd hk hp => ?_, fun hc hd => ?_, fun h => ?_⟩
  · exact runs_of_exec rfl (State.hostRequest_down tag _ h)
  · exact runs_of_exec rfl (State.hostRequest_warning tag _ h hw ▸ s.refuse_refused ..)
  · exact runs_of_exec rfl (State.hostRequest_standby tag _ h hw hb ▸ s.refuse_refused ..)
  · have hu : s.gen p = 3 ∧ s.tagUsed p tag = true := by simpa [fresh] using hf
    exact runs_of_exec rfl (State.hostRequest_refused h hw hb (harr.trans (if_pos hu)))
  · have hu : ¬(s.gen p = 3 ∧ s.tagUsed p tag = true) := fun ⟨h1, h2⟩ => hf.elim (fun e => e h1) fun e => by rw [e] at h2; cases h2
    exact runs_of_exec rfl (State.hostRequest_refused h hw hb (harr.trans ((if_neg hu).trans (if_pos ho))))
  · have hu : ¬(s.gen p = 3 ∧ s.tagUsed p tag = true) := fun ⟨h1, h2⟩ => hf.elim (fun e => e h1) fun e => by rw [e] at h2; cases h2
    exact runs_of_exec rfl (State.hostRequest_refused h hw hb (harr.trans ((if_neg hu).trans ((if_neg (by rw [ho]; decide)).trans (if_pos hq)))))
  · let u := s.complete p tag stTimeout c.axisNo []
    have uport : PortSt.pulsed _ (u.port p) := s.completeWith_port p tag stTimeout c.axisNo [] none
    have uonly : PortsOnly s u := s.complete_only ..
    have ucmds : (u.port p).cmds = [] := by rw [uport.cmds, show (s.port p).cmds = [c] from hc]; simp [ht]
    have unone : NoCommands u := fun k => by
      by_cases e : k = p
      · rw [e]; exact ucmds
      · exact (congrArg PortSt.cmds (s.completeWith_port_ne _ _ _ _ _ e)).trans (hk k e)
    have upend (m : Ax) : u.aget m AX_MBCTL_PEND = 0 := (congrArg (Axis.get · AX_MBCTL_PEND) (uonly.ax m)).trans (hp m)
    obtain ⟨tonly, tport⟩ := State.pump_of_noCommands upend unone
    have hfind : (s.port p).cmds.find? (fun x => x.tag == tag) = some c := by rw [show (s.port p).cmds = [c] from hc]; simp [ht]
    refine runs_of_exec (execSandglassExpiry_due hfind hd) ⟨uonly.trans tonly, (tport p).cmds.trans ucmds, ?_⟩
    rw [(tport p).ring_untimed _ (fun _ _ => rfl) (fun _ => rfl), uport.ring]
    simp [q]
  · refine runs_of_exec (execSandglassExpiry_else fun x hx => ?_) rfl
    rw [show (s.port p).cmds.find? _ = some c from hc] at hx
    cases hx
    exact hd
  · refine runs_of_exec (execSandglassExpiry_else fun x hx => ?_) rfl
    have hx1 := List.find?_some hx
    have hx2 := List.all_eq_true.1 h x (List.mem_of_find?_eq_some hx)
    simp at hx1 hx2
    exact absurd hx1 hx2

end Sys2Proof.Machine
end

section
namespace Sys2Proof.Machine
open Sys2Proof

/-! ### Registers written (R4) -/

/-- From s to t only registers outside the axis blocks have changed, and of them only those in W. -/
structure DevWrites (W : Nat → Prop) (s t : State) : Prop where
  only : t = { s with dev := t.dev }
  dreg : ∀ b : Nat, ¬ W b → t.dreg b = s.dreg b

namespace DevWrites
variable {W : Nat → Prop}

theorem refl (s : State) : DevWrites W s s := ⟨rfl, fun _ _ => rfl⟩

theorem trans {s t u : State} (h : DevWrites W s t) (g : DevWrites W t u) : DevWrites W s u :=
  ⟨g.only.trans (by rw [h.only]), fun b hb => (g.dreg b hb).trans (h.dreg b hb)⟩

theorem setDreg (s : State) (a : Nat) (v : W64) (h : W a) : DevWrites W s (s.setDreg a v) :=
  ⟨rfl, fun b hb => State.setDreg_dreg_ne s (fun e : b = a => hb (by rw [e]; exact h)) v⟩

theorem dput (s : State) (f : Fld) (v : Nat) (h : W f.a) : DevWrites W s (s.dput f v) := setDreg s f.a _ h

theorem dinc (s : State) (f : Fld) (h : W f.a) : DevWrites W s (s.dinc f) := setDreg s f.a _ h

theorem foldl {α : Type} {f : State → α → State} : ∀ (l : List α) (s : State), (∀ s, ∀ a ∈ l, DevWrites W s (f s a)) → DevWrites W s (l.foldl f s)
  | [], s, _ => refl s
  | a :: l, s, hf => (hf s a (List.mem_cons_self ..)).trans (foldl l (f s a) fun s b hb => hf s b (List.mem_cons_of_mem _ hb))

variable {s t : State} (h : DevWrites W s t)
include h

theorem ax (n : Ax) : t.ax n = s.ax n := part_of_eq (State.ax · n) h.only rfl
theorem port (k : Port) : t.port k = s.port k := part_of_eq (State.port · k) h.only rfl
theorem pins : t.pins = s.pins := part_of_eq State.pins h.only rfl
theorem fuses : t.fuses = s.fuses := part_of_eq State.fuses h.only rfl
theorem dget (f : Fld) (hf : ¬ W f.a) : t.dget f = s.dget f := by
  unfold State.dget; rw [h.dreg f.a hf]

end DevWrites

/-! ### What the boot changes outside the axes (R396) -/

/-- What the NAND devices of a store hold. -/
def Store.devices (c : Store) : List (List Record) × List (List Record) × Vector Bank 2 × List (Byte × Nat × List W64) :=
  (c.log, c.trace, c.banks, c.blobs)

/-- From s to t a phase of the boot has run: registers in W, counts, and notes about XIN and the scrubber have changed. -/
structure BootWrites (W : Nat → Prop) (s t : State) : Prop where
  only : t = { s with dev := t.dev, store := t.store, pool := t.pool, pins := { s.pins with xinBad := t.pins.xinBad } }
  dreg : ∀ b : Nat, ¬ W b → t.dreg b = s.dreg b
  restart : t.pool.restart = s.pool.restart
  devices : t.store.devices = s.store.devices
  inflight : t.store.inflight = s.store.inflight

namespace BootWrites
variable {W : Nat → Prop}

theorem refl (s : State) : BootWrites W s s := ⟨rfl, fun _ _ => rfl, rfl, rfl, rfl⟩

theorem trans {s t u : State} (h : BootWrites W s t) (g : BootWrites W t u) : BootWrites W s u :=
  ⟨g.only.trans (by rw [h.only]), fun b hb => (g.dreg b hb).trans (h.dreg b hb), g.restart.trans h.restart,
    g.devices.trans h.devices, g.inflight.trans h.inflight⟩

theorem of_dev {s t : State} (h : DevWrites W s t) : BootWrites W s t := by
  have hs : t.store = s.store := part_of_eq State.store h.only rfl
  have hp : t.pool = s.pool := part_of_eq State.pool h.only rfl
  have hi : t.pins = s.pins := part_of_eq State.pins h.only rfl
  refine ⟨?_, h.dreg, by rw [hp], by rw [hs], by rw [hs]⟩
  rw [hs, hp, hi]
  exact h.only

theorem foldl {α : Type} {f : State → α → State} : ∀ (l : List α) (s : State), (∀ s, ∀ a ∈ l, BootWrites W s (f s a)) → BootWrites W s (l.foldl f s)
  | [], s, _ => refl s
  | a :: l, s, hf => (hf s a (List.mem_cons_self ..)).trans (foldl l (f s a) fun s b hb => hf s b (List.mem_cons_of_mem _ hb))

/-- A count of the device. -/
theorem count (s : State) {code : Nat} {f : Fld} (h : devCounter code = some f) (hf : W f.a) : BootWrites W s (s.count code unitDev) := by
  rw [s.count_dev h]
  have h1 : BootWrites W s (s.lifeCount code unitDev) := ⟨rfl, fun _ _ => rfl, rfl, rfl, rfl⟩
  exact h1.trans (of_dev (.dinc _ f hf))

theorem ax {s t : State} (h : BootWrites W s t) (n : Ax) : t.ax n = s.ax n := part_of_eq (State.ax · n) h.only rfl

end BootWrites

/-! ### The phases of the boot -/

/-- Registers of the fuses, and the counter of their faults. -/
def fuseReg (b : Nat) : Prop := (0x800 ≤ b ∧ b < 0x900) ∨ b = FAULT_DCNT3

theorem fuseReg_fld (i : Nat) (h : i < 15) : fuseReg (FUSE_FLD i) := by
  unfold fuseReg FUSE_FLD; omega

theorem fuseReg_stat : fuseReg FUSE_STAT := by unfold fuseReg FUSE_STAT; omega

theorem State.loadFields_writes (s : State) : DevWrites fuseReg s s.loadFields := by
  refine DevWrites.trans (DevWrites.foldl (List.range 14) s fun u i hi => ?_) (.dput _ _ _ fuseReg_stat)
  have hf : fuseReg (FUSE_FLD (i + 1)) := fuseReg_fld _ (by have := List.mem_range.1 hi; omega)
  dsimp only
  split <;> exact .setDreg _ _ _ hf

theorem State.loadSeals_writes (s : State) : DevWrites fuseReg s s.loadSeals := by
  unfold State.loadSeals
  dsimp only
  exact ((((DevWrites.dput _ _ _ fuseReg_stat).trans (.dput _ _ _ fuseReg_stat)).trans (.dput _ _ _ fuseReg_stat)).trans
    (.dput _ _ _ fuseReg_stat)).trans (.dput _ _ _ fuseReg_stat)

/-- The shadow as the power-on reset loads it from the array (R378). -/
def State.shadowLoaded (s : State) : State :=
  { s with fuses := { s.fuses with
    shadow := (s.fuses.array.map (fun x => (x.1, judgeFuse x.2))).map (fun (x : Nat × Judgement) => (x.1, x.2.word))
    since := [], busy := none, stop := 0, rereadDue := false } }

theorem State.loadShadow_writes (s : State) : BootWrites fuseReg s.shadowLoaded s.loadShadow := by
  have hdcnt : fuseReg FAULT_DCNT3 := .inr rfl
  refine .trans (.foldl (s.fuses.array.map (fun x => (x.1, judgeFuse x.2))) s.shadowLoaded
    (f := fun s x =>
      let s := if x.2.torn then s.count 34 unitDev else s
      if x.2.marg then s.count 32 unitDev else s) fun u x _ => ?_) ?_
  · have h1 : BootWrites fuseReg u (if x.2.torn then u.count 34 unitDev else u) := by
      split
      · exact .count u (f := FAULT_DCNT3_FUSE_TORN) rfl hdcnt
      · exact .refl u
    refine h1.trans ?_
    dsimp only
    generalize (if x.2.torn then u.count 34 unitDev else u) = w
    split
    · exact .count w (f := FAULT_DCNT3_FUSE_MARGINAL) rfl hdcnt
    · exact .refl w
  · exact .of_dev ((((((DevWrites.setDreg _ _ _ fuseReg_stat).trans (.dput _ _ _ fuseReg_stat)).trans (.dput _ _ _ fuseReg_stat)).trans
      (.dput _ _ _ fuseReg_stat)).trans (State.loadFields_writes _)).trans (State.loadSeals_writes _))

/-- Registers of the ports, the bus map and the geometry, whose values the fuses give. -/
def fusedReg (b : Nat) : Prop := (0x400 ≤ b ∧ b < 0x800) ∨ b = BUS_MAP ∨ b = CISTERN_GEOM

/-- Registers of a port. -/
theorem fusedReg_port (p : Port) : fusedReg (HOST_PCFG p.val) ∧ fusedReg (HOST_PERM p.val) := by
  unfold fusedReg HOST_PCFG HOST_PERM; omega

theorem State.fusePort_writes (s : State) (psel0 : Bool) (p : Port) :
    DevWrites (fun b => b = HOST_PCFG p.val ∨ b = HOST_PERM p.val) s (s.fusePort psel0 p) := by
  unfold State.fusePort
  dsimp only
  exact (((((DevWrites.dput _ _ _ (.inl rfl)).trans (.dput _ _ _ (.inl rfl))).trans (.dput _ _ _ (.inr rfl))).trans
    (.dput _ _ _ (.inr rfl))).trans (.dput _ _ _ (.inr rfl))).trans (.dput _ _ _ (.inr rfl))

theorem State.fusePort_gen (s : State) (psel0 : Bool) (p : Port) :
    (s.fusePort psel0 p).dget (HOST_PCFG_GEN p.val) = s.portGen p psel0 % 4 := by
  have hne : (HOST_PCFG_GEN p.val).a ≠ HOST_PERM p.val := by
    show HOST_PCFG p.val ≠ HOST_PERM p.val
    unfold HOST_PCFG HOST_PERM; omega
  have hle : (HOST_PCFG_GEN p.val).lo + (HOST_PCFG_GEN p.val).w ≤ 64 := by show 8 + 2 ≤ 64; decide
  have hov : (HOST_PCFG_GEN p.val).lo + (HOST_PCFG_GEN p.val).w ≤ (HOST_PCFG_SVC p.val).lo := by show 8 + 2 ≤ 16; decide
  unfold State.fusePort
  dsimp only
  rw [State.dput_dget_reg _ _ _ _ hne, State.dput_dget_reg _ _ _ _ hne, State.dput_dget_reg _ _ _ _ hne, State.dput_dget_reg _ _ _ _ hne,
    State.dput_dget_fld _ (HOST_PCFG_SVC p.val) (HOST_PCFG_GEN p.val) _ rfl (.inl hov) hle, State.dput_dget_same _ (HOST_PCFG_GEN p.val) _ hle]
  rfl

/-- The registers of the ports, from the bus map on. -/
def State.fusedPorts (s : State) (psel0 : Bool) : State :=
  allPorts.foldl (fun s p => s.fusePort psel0 p) (s.dput BUS_MAP_AXBUS (s.fld 1))

/-- Owners and geometry. -/
def ownReg (b : Nat) : Prop := b = HOST_OWN ∨ b = CISTERN_GEOM

theorem State.fuseValues_ports (s : State) (psel0 : Bool) : DevWrites ownReg (s.fusedPorts psel0) (s.fuseValues psel0) := by
  refine .trans (.foldl (f := fun s n => s.setOwner n (s.firstOwner n)) allAx (s.fusedPorts psel0) fun u n _ => .dput _ _ _ (.inl rfl)) ?_
  have hg : ownReg CISTERN_GEOM := .inr rfl
  exact (((((DevWrites.dput _ CISTERN_GEOM_BLKS0 _ hg).trans (.dput _ CISTERN_GEOM_BLKS1 _ hg)).trans (.dput _ CISTERN_GEOM_PAGE _ hg)).trans
    (.dput _ CISTERN_GEOM_PPB _ hg)).trans (.dput _ CISTERN_GEOM_LOGMB _ hg)).trans (.dput _ CISTERN_GEOM_USERMB _ hg)

theorem State.fusedPorts_writes (s : State) (psel0 : Bool) : DevWrites fusedReg s (s.fusedPorts psel0) := by
  refine .trans (.dput s BUS_MAP_AXBUS _ (.inr (.inl rfl))) (.foldl allPorts _ fun u p _ => ?_)
  have h := u.fusePort_writes psel0 p
  exact ⟨h.only, fun b hb => h.dreg b fun e => hb (e.elim (fun e => e ▸ (fusedReg_port p).1) (fun e => e ▸ (fusedReg_port p).2))⟩

theorem State.fuseValues_writes (s : State) (psel0 : Bool) : DevWrites fusedReg s (s.fuseValues psel0) := by
  have h := s.fuseValues_ports psel0
  refine (s.fusedPorts_writes psel0).trans ⟨h.only, fun b hb => h.dreg b fun e => hb ?_⟩
  rcases e with rfl | rfl
  · exact .inl (by unfold HOST_OWN; omega)
  · exact .inr (.inr rfl)

/-- Port 0 speaks the generation that its strap and the fuses give (R307). -/
theorem State.fuseValues_gen (s : State) (psel0 : Bool) : (s.fuseValues psel0).dget (HOST_PCFG_GEN 0) =
    if psel0 then 1 else if s.dget (FUSE_FLD_VALUE 2) % 4 = 2 then 2 else 3 := by
  let u := s.dput BUS_MAP_AXBUS (s.fld 1)
  have hother (w : State) (p : Port) (hp : p ≠ 0) : (w.fusePort psel0 p).dreg (HOST_PCFG 0) = w.dreg (HOST_PCFG 0) := by
    refine (w.fusePort_writes psel0 p).dreg _ fun e => ?_
    unfold HOST_PCFG HOST_PERM at e
    exact hp (Fin.ext (by show p.val = 0; omega))
  have hports : (s.fusedPorts psel0).dreg (HOST_PCFG 0) = (u.fusePort psel0 0).dreg (HOST_PCFG 0) := by
    show ((((u.fusePort psel0 0).fusePort psel0 1).fusePort psel0 2).fusePort psel0 3).dreg (HOST_PCFG 0) = _
    rw [hother _ 3 (by decide), hother _ 2 (by decide), hother _ 1 (by decide)]
  have hval : (s.fuseValues psel0).dreg (HOST_PCFG 0) = (u.fusePort psel0 0).dreg (HOST_PCFG 0) :=
    ((s.fuseValues_ports psel0).dreg _ (by unfold ownReg; decide)).trans hports
  have hgen : (u.fusePort psel0 0).dget (HOST_PCFG_GEN 0) = u.portGen 0 psel0 % 4 := u.fusePort_gen psel0 0
  have hfld : u.fld 2 = s.dget (FUSE_FLD_VALUE 2) := s.dput_dget_reg BUS_MAP_AXBUS (FUSE_FLD_VALUE 2) _ (by decide)
  refine (congrArg (HOST_PCFG_GEN 0).get hval).trans (hgen.trans ?_)
  unfold State.portGen
  rw [hfld]
  cases psel0
  · show (if s.dget (FUSE_FLD_VALUE 2) % 4 = 2 ∧ (0 : Port) ≠ 3 then 2 else 3) % 4 = if s.dget (FUSE_FLD_VALUE 2) % 4 = 2 then 2 else 3
    by_cases h : s.dget (FUSE_FLD_VALUE 2) % 4 = 2
    · rw [if_pos ⟨h, by decide⟩, if_pos h]
    · rw [if_neg fun e => h e.1, if_neg h]
  · rfl

end Sys2Proof.Machine
end

section
namespace Sys2Proof.Machine
open Sys2Proof

/-! ### Entries into OASIS with nothing in flight (R287) -/

theorem State.enterOasis_idle (s : State) (n : Ax) (cause : Nat) (h : (s.ax n).st ≠ .oasis) (hc : NoCommands s) :
    s.enterOasis n cause = (((s.modAx n (·.entersOasis s.clk s.time cause)).irqRise s).presentLog 0x11 s.time
      [0, 0, 0, 0, 0, 0, BitVec.ofNat 8 n.val, BitVec.ofNat 8 cause]).settle n := by
  have hp (p : Port) : (s.modAx n (·.entersOasis s.clk s.time cause)).failAxisCmds n p stAxisFault = s.modAx n (·.entersOasis s.clk s.time cause) :=
    State.failAxisCmds_of_none _ n p stAxisFault (hc p)
  have hfold : allPorts.foldl (fun s p => s.failAxisCmds n p stAxisFault) (s.modAx n (·.entersOasis s.clk s.time cause)) =
      s.modAx n (·.entersOasis s.clk s.time cause) := by
    simp only [allPorts, List.foldl_cons, List.foldl_nil, hp]
  unfold State.enterOasis
  rw [if_neg h, ← hfold]
  simp only [State.aput, State.modAx_modAx]
  rfl

theorem State.presentLog_devices (s : State) (typ : Byte) (t : W64) (bs : List Byte) :
    (s.presentLog typ t bs).store.devices = s.store.devices ∧ (s.presentLog typ t bs).store.inflight = s.store.inflight ∧
    (s.presentLog typ t bs).load = s.load ∧ (s.presentLog typ t bs).stream = s.stream := by
  unfold State.presentLog
  split
  · exact ⟨rfl, rfl, rfl, rfl⟩
  · exact ⟨rfl, rfl, rfl, rfl⟩

/-- From s to t axes have entered OASIS with nothing in flight: their LOG records are queued or counted as lost, the ports only
give pulses. -/
structure StartsOasis (s t : State) : Prop where
  only : t = { s with axes := t.axes, dev := t.dev, ports := t.ports, store := t.store }
  dreg : ∀ b : Nat, b ≠ CISTERN_LOST 1 → b ≠ CISTERN_ADM → t.dreg b = s.dreg b
  port : ∀ k : Port, (s.port k).pulsed (t.port k)
  devices : t.store.devices = s.store.devices
  inflight : t.store.inflight = s.store.inflight

namespace StartsOasis

theorem refl (s : State) : StartsOasis s s := ⟨rfl, fun _ _ _ => rfl, fun _ => rfl, rfl, rfl⟩

theorem trans {s t u : State} (h : StartsOasis s t) (g : StartsOasis t u) : StartsOasis s u :=
  ⟨g.only.trans (by rw [h.only]), fun b h1 h2 => (g.dreg b h1 h2).trans (h.dreg b h1 h2), fun k => PortSt.pulsed_trans (h.port k) (g.port k),
    g.devices.trans h.devices, g.inflight.trans h.inflight⟩

theorem noCommands {s t : State} (h : StartsOasis s t) (hc : NoCommands s) : NoCommands t := fun k => (h.port k).cmds.trans (hc k)

end StartsOasis

theorem State.enterOasis_starts (s : State) (n : Ax) (cause : Nat) (hc : NoCommands s) : StartsOasis s (s.enterOasis n cause) := by
  have hf := s.enterOasis_frame n cause
  by_cases h : (s.ax n).st = .oasis
  · rw [s.enterOasis_of_oasis h cause]; exact .refl s
  · let r := (s.modAx n (·.entersOasis s.clk s.time cause)).irqRise s
    let q := r.presentLog 0x11 s.time [0, 0, 0, 0, 0, 0, BitVec.ofNat 8 n.val, BitVec.ofNat 8 cause]
    have e : s.enterOasis n cause = q.settle n := s.enterOasis_idle n cause h hc
    have hr := (State.irqRise_pulses (s.modAx n (·.entersOasis s.clk s.time cause)) s).only
    have hrstore : r.store = s.store := part_of_eq State.store hr rfl
    obtain ⟨hdev, hinf, hload, hstream⟩ := r.presentLog_devices 0x11 s.time [0, 0, 0, 0, 0, 0, BitVec.ofNat 8 n.val, BitVec.ofNat 8 cause]
    have ht := q.settle_only n
    have tstore : (s.enterOasis n cause).store = q.store := by rw [e]; exact part_of_eq State.store ht rfl
    have tload : (s.enterOasis n cause).load = s.load := by
      rw [e]; exact (part_of_eq State.load ht rfl).trans (hload.trans (part_of_eq State.load hr rfl))
    have tstream : (s.enterOasis n cause).stream = s.stream := by
      rw [e]; exact (part_of_eq State.stream ht rfl).trans (hstream.trans (part_of_eq State.stream hr rfl))
    refine ⟨?_, hf.dreg, hf.port hc, ?_, ?_⟩
    · have honly := hf.only
      rw [tload, tstream] at honly
      exact honly
    · rw [tstore, ← hrstore]; exact hdev
    · rw [tstore, ← hrstore]; exact hinf

/-- What an axis of a device that starts has not: a program, a tick, a gate on, an option that names a short, a pending swap. -/
structure Axis.Cleared (a : Axis) : Prop where
  loaded : a.loaded = false
  running : a.run.running = false
  on : a.gd.on = 0
  opt : a.get AX_OASIS_OPT = 0
  pend : a.get AX_MBCTL_PEND = 0

theorem State.enterOasis_cleared (s : State) (n : Ax) (cause : Nat) (h : (s.ax n).Cleared) : ((s.enterOasis n cause).ax n).Cleared := by
  by_cases hs : (s.ax n).st = .oasis
  · rw [s.enterOasis_of_oasis hs cause]; exact h
  · obtain ⟨ha, hon⟩ := s.enterOasis_ax n cause hs
    have hget (g : Fld) (h1 : g.a ≠ AX_STATE) (h2 : g.a ≠ AX_OASTIME) (h3 : g.a ≠ AX_SPD) := s.enterOasis_get n cause g h1 h2 h3
    refine ⟨?_, ?_, hon (.inl h.opt), (hget _ (by decide) (by decide) (by decide)).trans h.opt,
      (hget _ (by decide) (by decide) (by decide)).trans h.pend⟩
    · exact (congrArg (· != 0) (hget AX_WCET_WCET (by decide) (by decide) (by decide))).trans h.loaded
    · rw [ha]; exact h.running

/-- SAFE_N low at the release of a reset: every axis enters OASIS. -/
theorem foldl_enterOasis_starts (cause : Nat) (hcause : cause < 256) : ∀ (l : List Ax) (s : State), NoCommands s → (∀ n, (s.ax n).Cleared) →
    let t := l.foldl (fun s n => s.enterOasis n cause) s
    StartsOasis s t ∧ ∀ n, (t.ax n).Cleared ∧ (t.ax n).st = if n ∈ l then .oasis else (s.ax n).st
  | [], s, _, h => ⟨.refl s, fun n => ⟨h n, by simp⟩⟩
  | m :: l, s, hc, h => by
    have h1 := s.enterOasis_starts m cause hc
    have hax (n : Ax) : ((s.enterOasis m cause).ax n).Cleared ∧ ((s.enterOasis m cause).ax n).st = if n = m then .oasis else (s.ax n).st := by
      by_cases e : n = m
      · subst e
        exact ⟨s.enterOasis_cleared n cause (h n), by rw [if_pos rfl]; exact s.enterOasis_oasis n cause hcause⟩
      · rw [s.enterOasis_ax_ne cause e, if_neg e]; exact ⟨h n, rfl⟩
    obtain ⟨h2, hall⟩ := foldl_enterOasis_starts cause hcause l _ (h1.noCommands hc) fun n => (hax n).1
    refine ⟨h1.trans h2, fun n => ⟨(hall n).1, (hall n).2.trans ?_⟩⟩
    rw [(hax n).2]
    by_cases e : n = m <;> by_cases el : n ∈ l <;> simp [e, el]

/-- The thermal latch at the start of a device: every axis is in OASIS (R269). -/
def State.startsShut (s : State) : State :=
  if s.dget THERM_STAT_SHUT = 1 then { s with axes := Vector.ofFn (fun n : Ax => { s.ax n with st := .oasis, since := s.clk }) } else s

theorem State.startsShut_starts (s : State) (h : ∀ n, (s.ax n).Cleared) (hoff : ∀ n, (s.ax n).st = .off) :
    StartsOasis s s.startsShut ∧ s.startsShut.pins = s.pins ∧ ∀ n, (s.startsShut.ax n).Cleared ∧
      (s.startsShut.ax n).st = if s.dget THERM_STAT_SHUT = 1 then .oasis else .off := by
  unfold State.startsShut
  split
  · refine ⟨⟨rfl, fun _ _ _ => rfl, fun _ => rfl, rfl, rfl⟩, rfl, fun n => ?_⟩
    have e : State.ax { s with axes := Vector.ofFn (fun n : Ax => { s.ax n with st := .oasis, since := s.clk }) } n =
        { s.ax n with st := .oasis, since := s.clk } := by simp [State.ax]
    rw [e]
    exact ⟨⟨(h n).loaded, (h n).running, (h n).on, (h n).opt, (h n).pend⟩, rfl⟩
  · exact ⟨.refl s, rfl, fun n => ⟨h n, hoff n⟩⟩

/-- How the axes of a device start: OFF, or in OASIS under the thermal latch or SAFE_N (R269). -/
theorem State.startAxes_starts (s : State) (hc : NoCommands s) (h : ∀ n, (s.ax n).Cleared) (hoff : ∀ n, (s.ax n).st = .off) :
    StartsOasis s s.startAxes ∧ ∀ n, (s.startAxes.ax n).Cleared ∧
      (s.startAxes.ax n).st = if s.pins.safeLow = true ∨ s.dget THERM_STAT_SHUT = 1 then .oasis else .off := by
  obtain ⟨hu, hpins, hax⟩ := s.startsShut_starts h hoff
  have e : s.startAxes = if s.startsShut.pins.safeLow then allAx.foldl (fun s n => s.enterOasis n 0x3E) s.startsShut else s.startsShut := rfl
  rw [e, hpins]
  by_cases hl : s.pins.safeLow = true
  · rw [if_pos hl]
    obtain ⟨ht, hall⟩ := foldl_enterOasis_starts 0x3E (by decide) allAx s.startsShut (hu.noCommands hc) fun n => (hax n).1
    exact ⟨hu.trans ht, fun n => ⟨(hall n).1, by rw [(hall n).2, if_pos (mem_allAx n), if_pos (.inl hl)]⟩⟩
  · rw [if_neg hl]
    exact ⟨hu, fun n => ⟨(hax n).1, by rw [(hax n).2]; simp [hl]⟩⟩

end Sys2Proof.Machine
end

section
namespace Sys2Proof.Machine
open Sys2Proof

/-! ### The boot up to the Cistern (R396) -/

/-- From s to t steps of the boot have run. -/
structure BootStep (W : Nat → Prop) (s t : State) : Prop where
  only : t = { s with axes := t.axes, dev := t.dev, ports := t.ports, store := t.store, pool := t.pool,
                      pins := { s.pins with xinBad := t.pins.xinBad } }
  dreg : ∀ b : Nat, ¬ W b → t.dreg b = s.dreg b
  restart : t.pool.restart = s.pool.restart
  devices : t.store.devices = s.store.devices
  inflight : t.store.inflight = s.store.inflight
  port : ∀ k : Port, (s.port k).pulsed (t.port k)

/-- Registers that a LOG record or a stream may write. -/
def logReg (b : Nat) : Prop := b = CISTERN_LOST 1 ∨ b = CISTERN_ADM

theorem BootWrites.step {W : Nat → Prop} {s t : State} (h : BootWrites W s t) : BootStep W s t := by
  have ha : t.axes = s.axes := part_of_eq State.axes h.only rfl
  have hp : t.ports = s.ports := part_of_eq State.ports h.only rfl
  refine ⟨?_, h.dreg, h.restart, h.devices, h.inflight, fun k => ?_⟩
  · rw [ha, hp]; exact h.only
  · rw [State.port_congr hp k]; exact rfl

theorem StartsOasis.step {s t : State} (h : StartsOasis s t) : BootStep logReg s t := by
  have hi : t.pins = s.pins := part_of_eq State.pins h.only rfl
  have hp : t.pool = s.pool := part_of_eq State.pool h.only rfl
  refine ⟨?_, fun b hb => h.dreg b (fun e => hb (.inl e)) (fun e => hb (.inr e)), by rw [hp], h.devices, h.inflight, h.port⟩
  rw [hp, hi]
  exact h.only

namespace BootStep
variable {W : Nat → Prop} {s t u : State}

theorem trans {V : Nat → Prop} (h : BootStep V s t) (g : BootStep W t u) : BootStep (fun b => V b ∨ W b) s u :=
  ⟨g.only.trans (by rw [h.only]), fun b hb => (g.dreg b fun e => hb (.inr e)).trans (h.dreg b fun e => hb (.inl e)), g.restart.trans h.restart,
    g.devices.trans h.devices, g.inflight.trans h.inflight, fun k => PortSt.pulsed_trans (h.port k) (g.port k)⟩

theorem dget (h : BootStep W s t) (f : Fld) (hf : ¬ W f.a) : t.dget f = s.dget f := by
  unfold State.dget; rw [h.dreg f.a hf]

end BootStep

/-- The reset noted, and the straps (R396). -/
def State.bootNoted (s : State) (src detail : Nat) (vioHigh x32 : Bool) : State :=
  ((s.rstInfo src detail).dput SYS_PWRSTAT_VIOSEL (if vioHigh then 1 else 0)).dput SYS_CLKSTAT_AON_SRC (if x32 then 0 else 1)

/-- The boot on the RC where XIN is missing (R15). -/
def State.bootXin (s : State) (xin : Bool) : State :=
  if xin then s else
    ((((s.modPins (fun p => { p with xinBad := true })).dput SYS_CLKSTAT_REF_SRC 1).dput SYS_CLKSTAT_REF_LOSTF 1).count 30 unitDev).dput
      SYS_TIMESTAT_DEGRADED 1

/-- Step 4 of the boot. -/
def State.bootStep4 (s : State) : State := (s.dput SYS_BOOT_STEP 4).modPool (fun p => { p with scrubAt := some s.clk })

/-- The boot from the fuses' registers on, up to the mount. -/
def State.bootFrom (s : State) (psel0 xin : Bool) : State := (((s.fuseValues psel0).startAxes).bootXin xin).bootStep4

/-- The boot by its parts. -/
theorem State.boot_eq (s : State) (src detail : Nat) (psel0 vioHigh xin x32 : Bool) : s.boot src detail psel0 vioHigh xin x32 =
    (fun t : State => if t.blocks = 0 then (t.setCis cisNone).finishBoot else t.setCis cisMounting)
      (State.bootFrom (if src = 1 then (s.bootNoted src detail vioHigh x32).loadShadow else (s.bootNoted src detail vioHigh x32).loadFields)
        psel0 xin) := rfl

def notedReg (b : Nat) : Prop := b = SYS_RSTINFO ∨ b = SYS_PWRSTAT ∨ b = SYS_CLKSTAT
def xinReg (b : Nat) : Prop := b = SYS_CLKSTAT ∨ b = SYS_TIMESTAT ∨ b = FAULT_DCNT0

theorem State.bootNoted_writes (s : State) (src detail : Nat) (vioHigh x32 : Bool) : DevWrites notedReg s (s.bootNoted src detail vioHigh x32) :=
  ((DevWrites.setDreg _ _ _ (.inl rfl)).trans (.dput _ SYS_PWRSTAT_VIOSEL _ (.inr (.inl rfl)))).trans
    (.dput _ SYS_CLKSTAT_AON_SRC _ (.inr (.inr rfl)))

theorem State.bootXin_writes (s : State) (xin : Bool) : BootWrites xinReg s (s.bootXin xin) := by
  unfold State.bootXin
  split
  · exact .refl s
  · have h0 : BootWrites xinReg s (s.modPins (fun p => { p with xinBad := true })) := ⟨rfl, fun _ _ => rfl, rfl, rfl, rfl⟩
    have h1 (u : State) : BootWrites xinReg u ((u.dput SYS_CLKSTAT_REF_SRC 1).dput SYS_CLKSTAT_REF_LOSTF 1) :=
      .of_dev ((DevWrites.dput _ SYS_CLKSTAT_REF_SRC _ (.inl rfl)).trans (.dput _ SYS_CLKSTAT_REF_LOSTF _ (.inl rfl)))
    have h2 (u : State) : BootWrites xinReg u (u.count 30 unitDev) := .count u (f := FAULT_DCNT0_REF_LOST) rfl (.inr (.inr rfl))
    exact ((h0.trans (h1 _)).trans (h2 _)).trans (.of_dev (.dput _ SYS_TIMESTAT_DEGRADED _ (.inr (.inl rfl))))

theorem State.bootStep4_writes (s : State) : BootWrites (fun b => b = SYS_BOOT) s s.bootStep4 :=
  have h1 : BootWrites (fun b => b = SYS_BOOT) s (s.dput SYS_BOOT_STEP 4) := .of_dev (.dput _ _ _ rfl)
  have h2 (u : State) : BootWrites (fun b => b = SYS_BOOT) u (u.modPool (fun p => { p with scrubAt := some s.clk })) :=
    ⟨rfl, fun _ _ => rfl, rfl, rfl, rfl⟩
  h1.trans (h2 _)

/-- XIN found correct or missing. -/
theorem State.bootXin_dget (s : State) (xin : Bool) (h1 : s.dget SYS_CLKSTAT_REF_SRC = 0) (h2 : s.dget SYS_TIMESTAT_DEGRADED = 0) :
    (s.bootXin xin).dget SYS_CLKSTAT_REF_SRC = (if xin then 0 else 1) ∧
    (s.bootXin xin).dget SYS_TIMESTAT_DEGRADED = (if xin then 0 else 1) ∧
    (s.bootXin xin).dget SYS_TIMESTAT_STATE = s.dget SYS_TIMESTAT_STATE ∧
    (s.bootXin xin).dget SYS_CLKSTAT_AON_SRC = s.dget SYS_CLKSTAT_AON_SRC := by
  cases xin
  · let u := (s.modPins (fun p => { p with xinBad := true })).dput SYS_CLKSTAT_REF_SRC 1
    have e : s.bootXin false = (((u.dput SYS_CLKSTAT_REF_LOSTF 1).lifeCount 30 unitDev).dinc FAULT_DCNT0_REF_LOST).dput SYS_TIMESTAT_DEGRADED 1 :=
      congrArg (State.dput · SYS_TIMESTAT_DEGRADED 1) (State.count_dev (code := 30) _ rfl)
    have hclk (g : Fld) (ha : g.a = SYS_CLKSTAT) (hl : g.lo + g.w ≤ SYS_CLKSTAT_REF_LOSTF.lo) : (s.bootXin false).dget g = u.dget g := by
      rw [e, State.dput_dget_reg _ SYS_TIMESTAT_DEGRADED g _ (by rw [ha]; decide), State.dinc_dget_reg _ FAULT_DCNT0_REF_LOST g (by rw [ha]; decide),
        State.lifeCount_dget, State.dput_dget_fld _ SYS_CLKSTAT_REF_LOSTF g _ ha (.inl hl) (Nat.le_trans hl (by decide))]
    refine ⟨?_, ?_, ?_, ?_⟩
    · rw [hclk _ rfl (by decide)]
      exact State.dput_dget_same _ SYS_CLKSTAT_REF_SRC _ (by decide)
    · rw [e]
      exact State.dput_dget_same _ SYS_TIMESTAT_DEGRADED _ (by decide)
    · rw [e, State.dput_dget_fld _ SYS_TIMESTAT_DEGRADED SYS_TIMESTAT_STATE _ rfl (by decide) (by decide),
        State.dinc_dget_reg _ FAULT_DCNT0_REF_LOST SYS_TIMESTAT_STATE (by decide), State.lifeCount_dget,
        State.dput_dget_reg _ SYS_CLKSTAT_REF_LOSTF SYS_TIMESTAT_STATE _ (by decide)]
      exact State.dput_dget_reg _ SYS_CLKSTAT_REF_SRC SYS_TIMESTAT_STATE _ (by decide)
    · rw [hclk _ rfl (by decide)]
      exact State.dput_dget_fld _ SYS_CLKSTAT_REF_SRC SYS_CLKSTAT_AON_SRC _ rfl (by decide) (by decide)
  · exact ⟨h1, h2, rfl, rfl⟩

/-- SYS_RSTINFO and the straps after a reset. -/
theorem State.bootNoted_dget (s : State) {src detail : Nat} (vioHigh x32 : Bool) (hs : src < 16) (hd : detail < 16) :
    let t := s.bootNoted src detail vioHigh x32
    t.dget SYS_RSTINFO_SRC = src ∧ t.dget SYS_RSTINFO_DETAIL = detail ∧
    t.dget SYS_RSTINFO_COUNT = (if src = 1 then 0 else min 65535 (s.dget SYS_RSTINFO_COUNT + 1)) ∧
    t.dget SYS_PWRSTAT_VIOSEL = (if vioHigh then 1 else 0) ∧ t.dget SYS_CLKSTAT_AON_SRC = (if x32 then 0 else 1) ∧
    t.dget SYS_CLKSTAT_REF_SRC = s.dget SYS_CLKSTAT_REF_SRC := by
  intro t
  let c := if src = 1 then 0 else min 65535 (s.dget SYS_RSTINFO_COUNT + 1)
  have hc : c < 2 ^ 16 := by
    show (if src = 1 then 0 else min 65535 (s.dget SYS_RSTINFO_COUNT + 1)) < 2 ^ 16
    split <;> omega
  have hinfo (g : Fld) (ha : g.a = SYS_RSTINFO) : t.dget g = g.get (SYS_RSTINFO_COUNT.put (SYS_RSTINFO_DETAIL.put (SYS_RSTINFO_SRC.put 0 src) detail) c) := by
    refine (State.dput_dget_reg _ SYS_CLKSTAT_AON_SRC g _ (by rw [ha]; decide)).trans
      ((State.dput_dget_reg _ SYS_PWRSTAT_VIOSEL g _ (by rw [ha]; decide)).trans ?_)
    unfold State.dget
    rw [ha]
    exact congrArg g.get (State.setDreg_dreg_same ..)
  have hbit (b : Bool) : (if b then 0 else 1) < 2 ∧ (if b then 1 else 0) < 2 := by cases b <;> decide
  refine ⟨?_, ?_, ?_, ?_, ?_, ?_⟩
  · rw [hinfo _ rfl, Fld.get_put_ne _ _ _ _ (by decide) (by decide), Fld.get_put_ne _ _ _ _ (by decide) (by decide), Fld.get_put_same _ _ _ (by decide)]
    exact Nat.mod_eq_of_lt hs
  · rw [hinfo _ rfl, Fld.get_put_ne _ _ _ _ (by decide) (by decide), Fld.get_put_same _ _ _ (by decide)]
    exact Nat.mod_eq_of_lt hd
  · rw [hinfo _ rfl, Fld.get_put_same _ _ _ (by decide)]
    exact Nat.mod_eq_of_lt hc
  · refine (State.dput_dget_reg _ SYS_CLKSTAT_AON_SRC SYS_PWRSTAT_VIOSEL _ (by decide)).trans
      ((State.dput_dget_same _ SYS_PWRSTAT_VIOSEL _ (by decide)).trans (Nat.mod_eq_of_lt (hbit vioHigh).2))
  · exact (State.dput_dget_same _ SYS_CLKSTAT_AON_SRC _ (by decide)).trans (Nat.mod_eq_of_lt (hbit x32).1)
  · refine (State.dput_dget_fld _ SYS_CLKSTAT_AON_SRC SYS_CLKSTAT_REF_SRC _ rfl (by decide) (by decide)).trans
      ((State.dput_dget_reg _ SYS_PWRSTAT_VIOSEL SYS_CLKSTAT_REF_SRC _ (by decide)).trans ?_)
    unfold State.dget
    exact congrArg _ (State.setDreg_dreg_ne _ (by decide) _)

end Sys2Proof.Machine
end

section
namespace Sys2Proof.Machine
open Sys2Proof

/-- Registers that the boot writes after the fuses' registers. -/
def bootReg (b : Nat) : Prop := ((fusedReg b ∨ logReg b) ∨ xinReg b) ∨ b = SYS_BOOT

/-- The boot from the fuses' registers to the mount: what it changes, how the axes start, and what it writes. -/
theorem State.bootFrom_step (s : State) (psel0 xin : Bool) (hc : NoCommands s) (hcl : ∀ n, (s.ax n).Cleared) (hoff : ∀ n, (s.ax n).st = .off)
    (href : s.dget SYS_CLKSTAT_REF_SRC = 0) (hdeg : s.dget SYS_TIMESTAT_DEGRADED = 0) :
    let t := s.bootFrom psel0 xin
    BootStep bootReg s t ∧
    (∀ n, (t.ax n).Cleared ∧ (t.ax n).st = if s.pins.safeLow = true ∨ s.dget THERM_STAT_SHUT = 1 then .oasis else .off) ∧
    t.dget SYS_BOOT_STEP = 4 ∧
    t.dget (HOST_PCFG_GEN 0) = (if psel0 then 1 else if s.dget (FUSE_FLD_VALUE 2) % 4 = 2 then 2 else 3) ∧
    t.dget SYS_CLKSTAT_REF_SRC = (if xin then 0 else 1) ∧ t.dget SYS_TIMESTAT_DEGRADED = (if xin then 0 else 1) ∧
    t.dget SYS_TIMESTAT_STATE = s.dget SYS_TIMESTAT_STATE ∧ t.dget SYS_CLKSTAT_AON_SRC = s.dget SYS_CLKSTAT_AON_SRC := by
  let a := s.fuseValues psel0
  let b := a.startAxes
  let c := b.bootXin xin
  have hw := s.fuseValues_writes psel0
  have hax (n : Ax) : a.ax n = s.ax n := hw.ax n
  have hport (k : Port) : a.port k = s.port k := hw.port k
  obtain ⟨hb, hball⟩ := a.startAxes_starts (fun k => (congrArg PortSt.cmds (hport k)).trans (hc k)) (fun n => (hax n).symm ▸ hcl n)
    (fun n => (hax n).symm ▸ hoff n)
  have hx := b.bootXin_writes xin
  have h4 := c.bootStep4_writes
  have hab : BootStep (fun b => fusedReg b ∨ logReg b) s b := (BootWrites.of_dev hw).step.trans hb.step
  have habc : BootStep (fun b => (fusedReg b ∨ logReg b) ∨ xinReg b) s c := hab.trans hx.step
  have hall : BootStep bootReg s c.bootStep4 := habc.trans h4.step
  have hshut : a.dget THERM_STAT_SHUT = s.dget THERM_STAT_SHUT :=
    hw.dget _ (by unfold fusedReg; decide)
  have hsafe : a.pins.safeLow = s.pins.safeLow := congrArg Pins.safeLow hw.pins
  have hbget (f : Fld) (hf : ¬ fusedReg f.a) (hl : ¬ logReg f.a) : b.dget f = s.dget f := hab.dget f fun e => e.elim hf hl
  obtain ⟨xref, xdeg, xstate, xaon⟩ := b.bootXin_dget xin ((hbget _ (by unfold fusedReg; decide) (by unfold logReg; decide)).trans href)
    ((hbget _ (by unfold fusedReg; decide) (by unfold logReg; decide)).trans hdeg)
  have h4get (f : Fld) (hf : f.a ≠ SYS_BOOT) : c.bootStep4.dget f = c.dget f := h4.step.dget f hf
  refine ⟨hall, fun n => ?_, ?_, ?_, ?_, ?_, ?_, ?_⟩
  · have e : c.bootStep4.ax n = b.ax n := (h4.ax n).trans (hx.ax n)
    obtain ⟨h1, h2⟩ := hball n
    rw [hshut, hsafe] at h2
    exact e.symm ▸ ⟨h1, h2⟩
  · exact c.dput_dget_same SYS_BOOT_STEP 4 (by decide)
  · rw [← s.fuseValues_gen psel0, show (s.bootFrom psel0 xin).dget (HOST_PCFG_GEN 0) = c.dget (HOST_PCFG_GEN 0) from h4get _ (by decide)]
    exact (hx.step.dget _ (by unfold xinReg; decide)).trans (hb.step.dget _ (by unfold logReg; decide))
  · exact (h4get _ (by decide)).trans xref
  · exact (h4get _ (by decide)).trans xdeg
  · exact (h4get _ (by decide)).trans (xstate.trans (hbget _ (by unfold fusedReg; decide) (by unfold logReg; decide)))
  · exact (h4get _ (by decide)).trans (xaon.trans (hbget _ (by unfold fusedReg; decide) (by unfold logReg; decide)))

end Sys2Proof.Machine
end

section
namespace Sys2Proof.Machine
open Sys2Proof

/-! ### The recovered list is delivered (R296, R325) -/

/-- A completion as the host is told of it: its status and the tag it is for, which G1 and G2 carry as data. -/
def toldOf (g3 : Bool) (x : Completion) : Byte × W64 := (x.status, if g3 then x.tag.setWidth 64 else x.data.headD 0)

theorem State.abandonTags_port (p : Port) : ∀ (l : List W16) (s : State), (s.port p).cmds = [] →
    let t := s.abandonTags p l
    PortsOnly s t ∧ (∀ k : Port, k ≠ p → t.port k = s.port k) ∧ (t.port p).cmds = [] ∧
    (t.port p).ring.map (toldOf (s.gen p == 3)) =
      (s.port p).ring.map (toldOf (s.gen p == 3)) ++ l.map (fun x => (stAbandoned, x.setWidth 64))
  | [], s, h => ⟨rfl, fun _ _ => rfl, h, by simp [State.abandonTags]⟩
  | x :: l, s, h => by
    let g3 := s.gen p == 3
    let tag := if g3 then x else (s.port p).nextTag
    let u := s.complete p tag stAbandoned 15 (if g3 then [] else [x.setWidth 64])
    let v := if g3 then u else u.modPort p (fun q => { q with nextTag := q.nextTag + 1 })
    have hu : PortSt.pulsed _ (u.port p) := s.completeWith_port p tag stAbandoned 15 (if g3 then [] else [x.setWidth 64]) none
    have uonly : PortsOnly s u := s.complete_only ..
    have hv : PortsOnly u v ∧ (∀ k : Port, k ≠ p → v.port k = u.port k) ∧ (v.port p).cmds = (u.port p).cmds ∧ (v.port p).ring = (u.port p).ring := by
      show PortsOnly u (if g3 then u else u.modPort p _) ∧ _
      dsimp only [v]
      split
      · exact ⟨rfl, fun _ _ => rfl, rfl, rfl⟩
      · exact ⟨rfl, fun k hk => State.modPort_port_ne _ hk _, by rw [State.modPort_port_same], by rw [State.modPort_port_same]⟩
    obtain ⟨vonly, vothers, vcmds, vring⟩ := hv
    have hgen : v.gen p = s.gen p := (uonly.trans vonly).dget _
    have hnil : (v.port p).cmds = [] := by rw [vcmds, hu.cmds, h]; rfl
    obtain ⟨tonly, tothers, tcmds, tring⟩ := State.abandonTags_port p l v hnil
    rw [hgen] at tring
    refine ⟨(uonly.trans vonly).trans tonly, fun k hk => ?_, tcmds, tring.trans ?_⟩
    · exact (tothers k hk).trans ((vothers k hk).trans (s.completeWith_port_ne _ _ _ _ _ hk))
    · rw [vring, hu.ring, List.map_append, List.append_assoc]
      congr 1
      show toldOf g3 _ :: _ = _ :: _
      congr 1
      cases hg : g3 <;> simp [toldOf, tag, hg]

/-- The recovered list of every port. -/
theorem foldl_abandonTags_port (r : List (Port × W16)) : ∀ (l : List Port) (s : State), l.Nodup → NoCommands s →
    let t := l.foldl (fun s p => s.abandonTags p ((r.filter (fun x => x.1 == p)).map (·.2))) s
    PortsOnly s t ∧ NoCommands t ∧ ∀ k : Port, (t.port k).ring.map (toldOf (s.gen k == 3)) =
      (s.port k).ring.map (toldOf (s.gen k == 3)) ++
        if k ∈ l then (r.filter (fun x => x.1 == k)).map (fun x => (stAbandoned, x.2.setWidth 64)) else []
  | [], s, _, hc => ⟨rfl, hc, fun k => by simp⟩
  | p :: l, s, hl, hc => by
    obtain ⟨hp, hl⟩ := List.nodup_cons.1 hl
    obtain ⟨uonly, uothers, ucmds, uring⟩ := s.abandonTags_port p ((r.filter (fun x => x.1 == p)).map (·.2)) (hc p)
    let u := s.abandonTags p ((r.filter (fun x => x.1 == p)).map (·.2))
    have hgen (k : Port) : u.gen k = s.gen k := uonly.dget _
    have unone : NoCommands u := fun k => by
      by_cases e : k = p
      · rw [e]; exact ucmds
      · rw [uothers k e]; exact hc k
    obtain ⟨tonly, tnone, tring⟩ := foldl_abandonTags_port r l u hl unone
    refine ⟨uonly.trans tonly, tnone, fun k => ?_⟩
    have tk := tring k
    rw [hgen] at tk
    refine tk.trans ?_
    by_cases e : k = p
    · subst e
      rw [if_neg hp, if_pos (List.mem_cons_self ..), List.append_nil, uring, List.map_map]
      rfl
    · rw [uothers k e]
      simp [e]

/-- A list of commands delivered on every port. -/
def State.deliverList (s : State) (r : List (Port × W16)) : State :=
  allPorts.foldl (fun s p => s.abandonTags p ((r.filter (fun x => x.1 == p)).map (·.2))) s

theorem State.deliverList_port (s : State) (r : List (Port × W16)) (hc : NoCommands s) : PortsOnly s (s.deliverList r) ∧
    NoCommands (s.deliverList r) ∧ ∀ k : Port, ((s.deliverList r).port k).ring.map (toldOf (s.gen k == 3)) =
      (s.port k).ring.map (toldOf (s.gen k == 3)) ++ (r.filter (fun x => x.1 == k)).map (fun x => (stAbandoned, x.2.setWidth 64)) := by
  obtain ⟨only, none, ring⟩ := foldl_abandonTags_port r allPorts s (by decide) hc
  exact ⟨only, none, fun k => (ring k).trans (by rw [if_pos (mem_allPorts k)])⟩

theorem State.deliverAbandoned_eq (s : State) (hcis : s.cis = cisNone) : ∃ (w : W64) (x : Option (List (Port × W16))),
    s.deliverAbandoned = { (s.deliverList (s.flight.getD [])).setDreg FAULT_RSTINFO w with
      flight := none, store := { (s.deliverList (s.flight.getD [])).store with inflight := x } } := by
  have hready : ¬ s.cis = cisReady := by rw [hcis]; decide
  unfold State.deliverAbandoned
  cases hf : s.flight with
  | some l => exact ⟨_, _, rfl⟩
  | none =>
    cases hi : s.store.inflight with
    | some l => dsimp only; rw [if_neg hready]; exact ⟨_, _, rfl⟩
    | none => exact ⟨_, _, rfl⟩

/-- The delivery of the recovered list where there is no Cistern: AON's list, or none. -/
theorem State.deliverAbandoned_none (s : State) (hc : NoCommands s) (hcis : s.cis = cisNone) :
    let t := s.deliverAbandoned
    t = { s with dev := t.dev, ports := t.ports, flight := none, store := t.store } ∧ t.store.devices = s.store.devices ∧
    (∀ b : Nat, b ≠ FAULT_RSTINFO → t.dreg b = s.dreg b) ∧ NoCommands t ∧
    ∀ k : Port, (t.port k).ring.map (toldOf (s.gen k == 3)) = (s.port k).ring.map (toldOf (s.gen k == 3)) ++
      ((s.flight.getD []).filter (fun x => x.1 == k)).map (fun x => (stAbandoned, x.2.setWidth 64)) := by
  obtain ⟨w, x, e⟩ := s.deliverAbandoned_eq hcis
  have hd := s.deliverList_port (s.flight.getD []) hc
  generalize s.deliverList (s.flight.getD []) = u at e hd
  obtain ⟨uonly, unone, uring⟩ := hd
  rw [e]
  have ustore : u.store = s.store := part_of_eq State.store uonly rfl
  refine ⟨?_, (show _ = u.store.devices from rfl).trans (congrArg Store.devices ustore), fun b hb => ?_, unone, uring⟩
  · exact congrArg (fun z : State => { z with
      dev := (u.setDreg FAULT_RSTINFO w).dev, ports := u.ports, flight := none, store := { u.store with inflight := x } }) uonly
  · exact (State.setDreg_dreg_ne u hb w).trans (uonly.dreg b)

/-- The register of the boot. -/
def stepReg (b : Nat) : Prop := b = SYS_BOOT

/-- The boot's end where there is no Cistern (R397, R399). -/
theorem State.finishBoot_none (s : State) (hc : NoCommands s) (hcis : s.cis = cisNone) (hp : ∀ n : Ax, s.aget n AX_MBCTL_PEND = 0) :
    let t := s.finishBoot
    t = { s with dev := t.dev, ports := t.ports, flight := none, store := t.store } ∧ t.store.devices = s.store.devices ∧
    (∀ b : Nat, b ≠ FAULT_RSTINFO → b ≠ SYS_BOOT → ¬ logReg b → t.dreg b = s.dreg b) ∧ t.dget SYS_BOOT_STEP = 7 ∧ NoCommands t ∧
    ∀ k : Port, (t.port k).ring.map (toldOf (s.gen k == 3)) = (s.port k).ring.map (toldOf (s.gen k == 3)) ++
      ((s.flight.getD []).filter (fun x => x.1 == k)).map (fun x => (stAbandoned, x.2.setWidth 64)) := by
  have hload : s.bootLoad = (s, false) := if_pos (by rw [hcis]; decide)
  obtain ⟨donly, ddev, dreg, dnone, dring⟩ := s.deliverAbandoned_none hc hcis
  let d := s.deliverAbandoned
  let e := (d.dput SYS_BOOT_STEP 7).dput SYS_BOOT_TRDY (min 65535 ((d.clk - d.pins.bootAt) / 4000))
  let l := e.presentLog 0x12 e.time (wordBytes (e.dreg SYS_RSTINFO) ++ wordBytes (e.dreg FAULT_RSTINFO))
  have ht : s.finishBoot = l.pump := by
    unfold State.finishBoot
    rw [hload]
    rfl
  have he : DevWrites stepReg d e := (DevWrites.dput (W := stepReg) d SYS_BOOT_STEP 7 rfl).trans (.dput _ SYS_BOOT_TRDY _ rfl)
  have hstep : e.dget SYS_BOOT_STEP = 7 :=
    (State.dput_dget_fld _ SYS_BOOT_TRDY SYS_BOOT_STEP _ rfl (by decide) (by decide)).trans (d.dput_dget_same SYS_BOOT_STEP 7 (by decide))
  have hl : OnlyReports e l := e.presentLog_reports ..
  have honly : l = { e with dev := l.dev, store := l.store } := e.presentLog_only ..
  obtain ⟨ldev, -, -, -⟩ := e.presentLog_devices 0x12 e.time (wordBytes (e.dreg SYS_RSTINFO) ++ wordBytes (e.dreg FAULT_RSTINFO))
  have lport (k : Port) : l.port k = d.port k := (State.port_congr (part_of_eq State.ports honly rfl) k).trans (he.port k)
  have lax (n : Ax) : l.ax n = s.ax n := (hl.ax n).trans ((he.ax n).trans (part_of_eq (State.ax · n) donly rfl))
  have lnone : NoCommands l := fun k => (congrArg PortSt.cmds (lport k)).trans (dnone k)
  obtain ⟨tonly, tport⟩ := State.pump_of_noCommands (fun n => (congrArg (Axis.get · AX_MBCTL_PEND) (lax n)).trans (hp n)) lnone
  have tonly' : PortsOnly l l.pump := tonly
  rw [ht]
  refine ⟨?_, ?_, fun b h1 h2 h3 => ?_, ?_, fun k => (tport k).cmds.trans (lnone k), fun k => ?_⟩
  · have h1 : l = { d with dev := l.dev, store := l.store } := honly.trans (congrArg (fun z : State => { z with dev := l.dev, store := l.store }) he.only)
    have h2 : l = { s with dev := l.dev, ports := l.ports, flight := none, store := l.store } := by
      have hports : l.ports = d.ports := part_of_eq State.ports h1 rfl
      rw [hports]
      exact h1.trans (congrArg (fun z : State => { z with dev := l.dev, store := l.store }) donly)
    have hdv : l.pump.dev = l.dev := part_of_eq State.dev tonly rfl
    have hst : l.pump.store = l.store := part_of_eq State.store tonly rfl
    rw [hdv, hst]
    exact tonly.trans (congrArg (fun z : State => { z with ports := l.pump.ports }) h2)
  · rw [part_of_eq State.store tonly rfl]
    exact ldev.trans ((congrArg Store.devices (part_of_eq State.store he.only rfl)).trans ddev)
  · exact (tonly'.dreg b).trans ((hl.dreg b (fun e => h3 (.inl e)) (fun e => h3 (.inr e))).trans ((he.dreg b h2).trans (dreg b h1)))
  · exact (tonly'.dget _).trans ((hl.dget _ (by decide) (by decide)).trans hstep)
  · rw [(tport k).ring_untimed (toldOf (s.gen k == 3)) (fun _ _ => rfl) (fun _ => rfl), lport]
    exact dring k

end Sys2Proof.Machine
end

section
namespace Sys2Proof.Machine
open Sys2Proof

/-! ### What a reset leaves before the boot (R393) -/

/-- A fuse command cut short changes the free values and the array. -/
theorem State.fuseCut_only (s : State) : s.fuseCut = { s with free := s.fuseCut.free, fuses := s.fuseCut.fuses } := by
  unfold State.fuseCut; split <;> rfl

theorem State.fuseCut_array (s : State) (h : s.fuses.busy = none) : s.fuseCut.fuses = s.fuses := by
  unfold State.fuseCut; rw [h]

theorem State.count34_fuses (s : State) : (s.count 34 unitDev).fuses = s.fuses := by
  rw [s.count_dev (code := 34) (f := FAULT_DCNT3_FUSE_TORN) rfl]; rfl

theorem State.skipped_fuses : ∀ (n : Nat) (s : State), (s.skipped n).fuses = s.fuses
  | 0, _ => rfl
  | n + 1, s => (State.skipped_fuses n _).trans s.count34_fuses

/-- Burning words changes the array, not the shadow. -/
theorem foldl_burn_shadow {α : Type} (w : α → Nat) (x : α → BitVec 72) : ∀ (l : List α) (s : State),
    (l.foldl (fun s a => s.burn (w a) (x a)) s).fuses.shadow = s.fuses.shadow
  | [], _ => rfl
  | a :: l, s => foldl_burn_shadow w x l (s.burn (w a) (x a))

theorem State.burnIf_shadow (s : State) (c : Prop) [Decidable c] (w : Nat) (x : BitVec 72) :
    (if c then s else s.burn w x).fuses.shadow = s.fuses.shadow := by
  split <;> rfl

theorem State.programEnd_shadow (s : State) (p : Port) (cnt d : Nat) (reason : BitVec 4) (bits : BitVec 72) :
    (s.programEnd p cnt (.torn d reason bits)).1.fuses.shadow = s.fuses.shadow := by
  unfold State.programEnd
  dsimp only
  split
  · simp -implicitDefEqProofs only [State.fuseReason, State.dput_fuses, State.count34_fuses, State.skipped_fuses, State.burnIf_shadow]
    exact foldl_burn_shadow (fun a : Nat × W64 => a.1) (fun a => programmed a.2) _ s
  · simp -implicitDefEqProofs only [State.fuseReason, State.dput_fuses, State.skipped_fuses]
    exact foldl_burn_shadow (fun a : Nat × W64 => a.1) (fun a => programmed a.2) _ s

theorem State.sealEnd_shadow (s : State) (p : Port) (d : Nat) (reason : BitVec 4) (bits : BitVec 72) :
    (s.sealEnd p (.torn d reason bits)).1.fuses.shadow = s.fuses.shadow := by
  unfold State.sealEnd
  dsimp only
  split
  · simp -implicitDefEqProofs only [State.fuseReason, State.dput_fuses, State.skipped_fuses]
  · split
    · simp -implicitDefEqProofs only [State.fuseReason, State.dput_fuses, State.count34_fuses, State.burnIf_shadow, State.skipped_fuses]
    · simp -implicitDefEqProofs only [State.fuseReason, State.dput_fuses, State.count34_fuses, State.burnIf_shadow, State.skipped_fuses]

theorem State.fuseCut_shadow (s : State) : s.fuseCut.fuses.shadow = s.fuses.shadow := by
  unfold State.fuseCut
  split
  · unfold State.fuseEnd
    dsimp only
    split
    · exact State.programEnd_shadow ..
    · exact State.sealEnd_shadow ..
  · rfl

/-- The state that a reset leaves of s, whose AON list becomes `list`, before AON content returns. -/
def State.blank (s : State) (list : Option (List (Port × W16))) : State :=
  { State.reset with
    pending := s.pending
    clk := s.clk
    free := s.free
    store := s.store.afterReset
    fuses := { s.fuses with rereadDue := false }
    flight := list
    pins := { State.reset.pins with
      safeLow := s.pins.safeLow, vgdUv := s.pins.vgdUv, vgdLow := s.pins.vgdLow, vgdHeld := s.pins.vgdUv || s.pins.vgdLow,
      trip := s.pins.trip, tripAt := s.pins.tripAt, pps := s.pins.pps, drvRc := s.pins.drvRc, bootAt := s.clk } }

/-- The AON content returns. -/
def State.aonKept (new old : State) : State := (new.keepAon old).setDreg FUSE_STAT (old.dreg FUSE_STAT)

/-- The retired engines stay retired, and the gates are off as they were left. -/
def State.repooled (new old : State) : State :=
  let s2 := new.keepRetired old
  { s2 with axes := Vector.ofFn (fun n : Ax => { s2.ax n with gd := old.gatesOff n, pt := { (s2.ax n).pt with lineBad := (old.ax n).pt.lineBad } }) }

theorem State.wiped_por (s : State) : s.wiped true = (s.fuseCut.blank none).modStore (fun c => { c with shutLogged := true }) := rfl

theorem State.wiped_warm (s : State) :
    s.wiped false = ((s.fuseCut.blank (some (s.fuseCut.flight.getD [] ++ s.fuseCut.inFlight))).aonKept s.fuseCut).repooled s.fuseCut := rfl

/-- Registers that a warm reset keeps (R269, R393). -/
def keptReg (b : Nat) : Prop := b = SYS_AONCNT ∨ b = SYS_WAKE ∨ b = SYS_RSTINFO ∨ (0xA00 ≤ b ∧ b < 0xB00) ∨ b = FUSE_STAT

/-- What a reset of s leaves, before the boot: the devices, the queue and the pins as they were, nothing in progress. -/
structure Wiped (s w : State) : Prop where
  pending : w.pending = s.pending
  clk : w.clk = s.clk
  time : w.time = 0
  idle : w.load = none ∧ w.stream = none ∧ w.pool.restart = false
  devices : w.store.devices = s.store.devices
  inflight : w.store.inflight = s.store.inflight
  array : s.fuses.busy = none → w.fuses.array = s.fuses.array
  pins : w.pins.powered = true ∧ w.pins.asleep = false ∧ w.pins.warning = false ∧ w.pins.standby = none ∧ w.pins.noClock = false
  safeLow : w.pins.safeLow = s.pins.safeLow
  port : ∀ k : Port, (w.port k).cmds = [] ∧ (w.port k).ring = []
  ax : ∀ n : Ax, (w.ax n).Cleared ∧ (w.ax n).st = .off
  dreg : ∀ b : Nat, ¬ keptReg b → w.dreg b = devReset b

theorem Axis.reset_cleared (n : Ax) : (Axis.reset n).Cleared ∧ (Axis.reset n).st = .off := by
  have hl : (Axis.reset n).loaded = (AX_WCET_WCET.get (axReset AX_WCET_WCET.a) != 0) := rfl
  have ho : (Axis.reset n).get AX_OASIS_OPT = AX_OASIS_OPT.get (axReset AX_OASIS_OPT.a) := rfl
  have hp : (Axis.reset n).get AX_MBCTL_PEND = AX_MBCTL_PEND.get (axReset AX_MBCTL_PEND.a) := rfl
  exact ⟨⟨hl.trans (by decide), rfl, rfl, ho.trans (by decide), hp.trans (by decide)⟩, rfl⟩

theorem State.blank_wiped (s : State) (l : Option (List (Port × W16))) : Wiped s (s.blank l) := by
  have htime : (s.blank l).time = 0 := by simp [State.time, State.blank, State.reset]
  refine ⟨rfl, rfl, htime, ⟨rfl, rfl, rfl⟩, rfl, rfl, fun _ => rfl, ⟨rfl, rfl, rfl, rfl, rfl⟩, rfl, fun k => ?_, fun n => ?_, fun b _ => rfl⟩
  · have e : (s.blank l).port k = PortSt.reset := by simp [State.port, State.blank, State.reset]
    rw [e]; exact ⟨rfl, rfl⟩
  · have e : (s.blank l).ax n = Axis.reset n := by simp [State.ax, State.blank, State.reset]
    rw [e]; exact Axis.reset_cleared n

/-- A fuse command cut short does not matter for what a reset leaves. -/
theorem Wiped.of_cut {s w : State} (h : Wiped s.fuseCut w) : Wiped s w := by
  have hcut := s.fuseCut_only
  have hstore : s.fuseCut.store = s.store := part_of_eq State.store hcut rfl
  exact { h with
    pending := h.pending.trans (part_of_eq State.pending hcut rfl)
    clk := h.clk.trans (part_of_eq State.clk hcut rfl)
    devices := h.devices.trans (congrArg Store.devices hstore)
    inflight := h.inflight.trans (congrArg Store.inflight hstore)
    array := fun hb => (h.array ((congrArg Fuses.busy (s.fuseCut_array hb)).trans hb)).trans (congrArg Fuses.array (s.fuseCut_array hb))
    safeLow := h.safeLow.trans (part_of_eq (fun t : State => t.pins.safeLow) hcut rfl) }

/-- What returns from AON. -/
theorem State.keepAon_writes (new old : State) : DevWrites keptReg new (new.keepAon old) := by
  have hts (b : Nat) (h : 0xA00 ≤ b ∧ b < 0xB00) : keptReg b := .inr (.inr (.inr (.inl h)))
  have h1 (s : State) : DevWrites keptReg s (allTs.foldl (fun s i => s.dput (THERM_TS_BAD i.val) (old.dget (THERM_TS_BAD i.val))) s) :=
    .foldl allTs s fun u i _ => .dput u _ _ (hts _ (by show 0xA00 ≤ THERM_TS i.val ∧ THERM_TS i.val < 0xB00; unfold THERM_TS; omega))
  have hstat : keptReg THERM_STAT := hts _ (by decide)
  have htime : keptReg THERM_SHTIME := hts _ (by decide)
  have h0 : DevWrites keptReg new (((new.setDreg SYS_AONCNT (old.dreg SYS_AONCNT)).setDreg SYS_WAKE (old.dreg SYS_WAKE)).setDreg SYS_RSTINFO
      (old.dreg SYS_RSTINFO)) :=
    ((DevWrites.setDreg _ _ _ (.inl rfl)).trans (.setDreg _ _ _ (.inr (.inl rfl)))).trans (.setDreg _ _ _ (.inr (.inr (.inl rfl))))
  exact (((h0.trans (h1 _)).trans (.dput _ THERM_STAT_BAD _ hstat)).trans (.dput _ THERM_STAT_SHUT _ hstat)).trans
    (.dput _ THERM_STAT_SHSRC _ hstat) |>.trans (.setDreg _ _ _ htime)

/-- The thermal latch, the AON counter and SYS_RSTINFO return. -/
theorem State.keepAon_dget (new old : State) : (new.keepAon old).dreg SYS_AONCNT = old.dreg SYS_AONCNT ∧
    (new.keepAon old).dreg SYS_RSTINFO = old.dreg SYS_RSTINFO ∧ (new.keepAon old).dget THERM_STAT_SHUT = old.dget THERM_STAT_SHUT := by
  let a := ((new.setDreg SYS_AONCNT (old.dreg SYS_AONCNT)).setDreg SYS_WAKE (old.dreg SYS_WAKE)).setDreg SYS_RSTINFO (old.dreg SYS_RSTINFO)
  let b := allTs.foldl (fun s i => s.dput (THERM_TS_BAD i.val) (old.dget (THERM_TS_BAD i.val))) a
  let c := b.dput THERM_STAT_BAD (old.dget THERM_STAT_BAD)
  have hab : DevWrites (fun r => 0xA00 ≤ r ∧ r < 0xB00) a b := .foldl allTs a fun u i _ => .dput u _ _
    (by show 0xA00 ≤ THERM_TS i.val ∧ THERM_TS i.val < 0xB00; unfold THERM_TS; omega)
  have hreg (r : Nat) (h1 : r ≠ THERM_STAT) (h2 : r ≠ THERM_SHTIME) (h3 : ¬ (0xA00 ≤ r ∧ r < 0xB00)) : (new.keepAon old).dreg r = a.dreg r := by
    refine (State.setDreg_dreg_ne _ h2 _).trans ?_
    unfold State.dput
    rw [State.setDreg_dreg_ne _ h1, State.setDreg_dreg_ne _ h1, State.setDreg_dreg_ne _ h1]
    exact hab.dreg r h3
  refine ⟨?_, ?_, ?_⟩
  · rw [hreg _ (by decide) (by decide) (by decide)]
    exact (State.setDreg_dreg_ne _ (by decide) _).trans ((State.setDreg_dreg_ne _ (by decide) _).trans (State.setDreg_dreg_same ..))
  · rw [hreg _ (by decide) (by decide) (by decide)]
    exact State.setDreg_dreg_same ..
  · have hlast : (new.keepAon old).dget THERM_STAT_SHUT = ((c.dput THERM_STAT_SHUT (old.dget THERM_STAT_SHUT)).dput THERM_STAT_SHSRC
        (old.dget THERM_STAT_SHSRC)).dget THERM_STAT_SHUT :=
      congrArg THERM_STAT_SHUT.get (State.setDreg_dreg_ne _ (by decide) _)
    rw [hlast, State.dput_dget_fld _ THERM_STAT_SHSRC THERM_STAT_SHUT _ rfl (by decide) (by decide),
      State.dput_dget_same _ THERM_STAT_SHUT _ (by decide)]
    exact Nat.mod_eq_of_lt (old.dget_lt THERM_STAT_SHUT)

theorem State.ax_ofFn (s : State) (f : Ax → Axis) (n : Ax) : State.ax { s with axes := Vector.ofFn f } n = f n := by
  simp [State.ax]

theorem State.eng_ofFn (s : State) (f : Eng → Engine) (g : Eng) : State.eng { s with engines := Vector.ofFn f } g = f g := by
  simp [State.eng]

theorem State.keepRetired_ax (new old : State) (n : Ax) : ∃ e, (new.keepRetired old).ax n = { new.ax n with engine := e } :=
  ⟨_, new.ax_ofFn _ n⟩

theorem mem_allEng (g : Eng) : g ∈ allEng := by revert g; decide

theorem State.keepRetired_retired (new old : State) (g : Eng) (h : (old.eng g).pool = .retired) : ((new.keepRetired old).eng g).pool = .retired := by
  let r := allEng.filter (fun e => (old.eng e).pool == .retired)
  have hr : r.contains g = true := by
    rw [List.contains_iff_mem, List.mem_filter]
    exact ⟨mem_allEng g, by rw [h]; rfl⟩
  have e : (new.keepRetired old).eng g = { new.eng g with pool := if r.contains g then .retired
      else if (allAx.map (fun n => engineOf r n)).contains (some g) then .active else .spare } :=
    State.eng_ofFn _ _ g
  rw [e, hr]
  rfl

theorem State.repooled_ax (w u : State) (n : Ax) : ∃ e lb, (w.repooled u).ax n =
    { w.ax n with engine := e, gd := u.gatesOff n, pt := { (w.ax n).pt with lineBad := lb } } := by
  obtain ⟨e, he⟩ := w.keepRetired_ax u n
  refine ⟨e, (u.ax n).pt.lineBad, ?_⟩
  refine (State.ax_ofFn (w.keepRetired u) _ n).trans ?_
  rw [he]

theorem State.repooled_dreg (w u : State) (b : Nat) : (w.repooled u).dreg b = w.dreg b :=
  State.dreg_congr (show (w.repooled u).dev = w.dev from rfl) b

theorem State.repooled_flight (w u : State) : (w.repooled u).flight = w.flight := rfl
theorem State.repooled_fuses (w u : State) : (w.repooled u).fuses = w.fuses := rfl

theorem State.repooled_retired (w u : State) (g : Eng) (h : (u.eng g).pool = .retired) : ((w.repooled u).eng g).pool = .retired :=
  w.keepRetired_retired u g h

theorem State.aonKept_writes (w u : State) : DevWrites keptReg w (w.aonKept u) :=
  (w.keepAon_writes u).trans (.setDreg _ FUSE_STAT _ (.inr (.inr (.inr (.inr rfl)))))

theorem State.aonKept_dget (w u : State) : (w.aonKept u).dreg SYS_AONCNT = u.dreg SYS_AONCNT ∧
    (w.aonKept u).dreg SYS_RSTINFO = u.dreg SYS_RSTINFO ∧ (w.aonKept u).dget THERM_STAT_SHUT = u.dget THERM_STAT_SHUT := by
  have h := w.keepAon_dget u
  have hd : DevWrites (fun b => b = FUSE_STAT) (w.keepAon u) (w.aonKept u) := .setDreg _ FUSE_STAT _ rfl
  generalize w.keepAon u = v at h hd
  obtain ⟨h1, h2, h3⟩ := h
  exact ⟨(hd.dreg _ (by decide)).trans h1, (hd.dreg _ (by decide)).trans h2, (hd.dget _ (by decide)).trans h3⟩

theorem State.blank_flight (s : State) (l : Option (List (Port × W16))) : (s.blank l).flight = l := rfl
theorem State.blank_shadow (s : State) (l : Option (List (Port × W16))) : (s.blank l).fuses.shadow = s.fuses.shadow := rfl

/-- Registers kept do not matter for the rest. -/
theorem Wiped.writes {s w v : State} (h : Wiped s w) (g : DevWrites keptReg w v) : Wiped s v := by
  have hstore : v.store = w.store := part_of_eq State.store g.only rfl
  refine ⟨(part_of_eq State.pending g.only rfl).trans h.pending, (part_of_eq State.clk g.only rfl).trans h.clk,
    (part_of_eq State.time g.only rfl).trans h.time, ?_, by rw [hstore]; exact h.devices, by rw [hstore]; exact h.inflight,
    by rw [g.fuses]; exact h.array, by rw [g.pins]; exact h.pins, by rw [g.pins]; exact h.safeLow,
    fun k => by rw [g.port]; exact h.port k, fun n => by rw [g.ax]; exact h.ax n, fun b hb => (g.dreg b hb).trans (h.dreg b hb)⟩
  obtain ⟨h1, h2, h3⟩ := h.idle
  exact ⟨(part_of_eq State.load g.only rfl).trans h1, (part_of_eq State.stream g.only rfl).trans h2,
    (part_of_eq (fun t : State => t.pool.restart) g.only rfl).trans h3⟩

/-- The pool of engines does not matter for the rest. -/
theorem Wiped.repooled {s w : State} (h : Wiped s w) (u : State) : Wiped s (w.repooled u) := by
  refine ⟨h.pending, h.clk, h.time, h.idle, h.devices, h.inflight, h.array, h.pins, h.safeLow, h.port, fun n => ?_, h.dreg⟩
  obtain ⟨e, lb, ha⟩ := w.repooled_ax u n
  obtain ⟨hc, hoff⟩ := h.ax n
  rw [ha]
  exact ⟨⟨hc.loaded, hc.running, rfl, hc.opt, hc.pend⟩, hoff⟩

/-- A reset without power-on: what it leaves, and what it keeps (R35, R269, R296). -/
theorem State.wiped_warm_parts (s : State) : Wiped s (s.wiped false) ∧ (s.wiped false).dreg SYS_AONCNT = s.dreg SYS_AONCNT ∧
    (s.wiped false).dreg SYS_RSTINFO = s.dreg SYS_RSTINFO ∧ (s.wiped false).dget THERM_STAT_SHUT = s.dget THERM_STAT_SHUT ∧
    (s.wiped false).flight = some (s.flight.getD [] ++ s.inFlight) ∧ (s.wiped false).fuses.shadow = s.fuses.shadow ∧
    ∀ g : Eng, (s.eng g).pool = .retired → ((s.wiped false).eng g).pool = .retired := by
  rw [s.wiped_warm]
  have hcut := s.fuseCut_only
  have hlist : s.fuseCut.flight = s.flight := part_of_eq State.flight hcut rfl
  have hin : s.fuseCut.inFlight = s.inFlight := part_of_eq State.inFlight hcut rfl
  have hdreg (b : Nat) : s.fuseCut.dreg b = s.dreg b := part_of_eq (State.dreg · b) hcut rfl
  have heng (g : Eng) : s.fuseCut.eng g = s.eng g := part_of_eq (State.eng · g) hcut rfl
  rw [hlist, hin]
  generalize s.flight.getD [] ++ s.inFlight = l
  generalize hw : s.fuseCut.blank (some l) = w
  have hwiped : Wiped s.fuseCut w := hw ▸ s.fuseCut.blank_wiped (some l)
  have hwf : w.flight = some l := hw ▸ s.fuseCut.blank_flight (some l)
  have hws : w.fuses.shadow = s.fuses.shadow := (hw ▸ s.fuseCut.blank_shadow (some l) : w.fuses.shadow = _).trans s.fuseCut_shadow
  have hk := w.aonKept_writes s.fuseCut
  have hkd := w.aonKept_dget s.fuseCut
  rw [hdreg, hdreg, show s.fuseCut.dget THERM_STAT_SHUT = s.dget THERM_STAT_SHUT from congrArg THERM_STAT_SHUT.get (hdreg _)] at hkd
  generalize w.aonKept s.fuseCut = v at hk hkd
  obtain ⟨haon, hinfo, hshut⟩ := hkd
  refine ⟨((hwiped.writes hk).repooled s.fuseCut).of_cut, (v.repooled_dreg _ _).trans haon, (v.repooled_dreg _ _).trans hinfo,
    (congrArg THERM_STAT_SHUT.get (v.repooled_dreg _ _)).trans hshut,
    (v.repooled_flight _).trans ((part_of_eq State.flight hk.only rfl).trans hwf),
    (congrArg Fuses.shadow ((v.repooled_fuses _).trans hk.fuses)).trans hws, fun g hg => ?_⟩
  exact v.repooled_retired s.fuseCut g ((congrArg Engine.pool (heng g)).trans hg)

/-- A power-on reset (R393). -/
theorem State.wiped_por_parts (s : State) : Wiped s (s.wiped true) ∧ (s.wiped true).flight = none ∧
    (∀ b : Nat, (s.wiped true).dreg b = devReset b) ∧ (s.wiped true).engines = State.reset.engines := by
  rw [s.wiped_por]
  have hw := s.fuseCut.blank_wiped none
  have hw' : Wiped s.fuseCut ((s.fuseCut.blank none).modStore (fun c => { c with shutLogged := true })) := { hw with }
  exact ⟨hw'.of_cut, rfl, fun b => rfl, rfl⟩

end Sys2Proof.Machine
end

section
namespace Sys2Proof.Machine
open Sys2Proof

/-! ### The boot of a wiped device (R396) -/

/-- The state whose fuses the boot reads: at power-on the shadow is loaded (R378). -/
def State.bootBase (s : State) (src : Nat) : State := if src = 1 then s.shadowLoaded else s

/-- The boot up to the fuses' registers. -/
def State.bootFuses (s : State) (src detail : Nat) (vioHigh x32 : Bool) : State :=
  if src = 1 then (s.bootNoted src detail vioHigh x32).loadShadow else (s.bootNoted src detail vioHigh x32).loadFields

theorem State.shadowLoaded_setDreg (s : State) (a : Nat) (v : W64) : (s.setDreg a v).shadowLoaded = s.shadowLoaded.setDreg a v := rfl
theorem State.shadowLoaded_dput (s : State) (f : Fld) (v : Nat) : (s.dput f v).shadowLoaded = s.shadowLoaded.dput f v := rfl
theorem State.shadowLoaded_dget (s : State) (f : Fld) : s.shadowLoaded.dget f = s.dget f := rfl

theorem State.bootNoted_shadowLoaded (s : State) (src detail : Nat) (vioHigh x32 : Bool) :
    (s.bootNoted src detail vioHigh x32).shadowLoaded = s.shadowLoaded.bootNoted src detail vioHigh x32 := by
  unfold State.bootNoted State.rstInfo
  rw [State.shadowLoaded_dput, State.shadowLoaded_dput, State.shadowLoaded_setDreg, State.shadowLoaded_dget]

theorem State.bootFuses_writes (s : State) (src detail : Nat) (vioHigh x32 : Bool) :
    BootWrites fuseReg ((s.bootBase src).bootNoted src detail vioHigh x32) (s.bootFuses src detail vioHigh x32) := by
  unfold State.bootBase State.bootFuses
  split
  · rw [← State.bootNoted_shadowLoaded]
    exact State.loadShadow_writes _
  · exact .of_dev (State.loadFields_writes _)

theorem Wiped.bootBase {s w : State} (h : Wiped s w) (src : Nat) : Wiped s (w.bootBase src) := by
  unfold State.bootBase
  split
  · exact { h with }
  · exact h

/-- Registers that the boot writes. -/
def bootRegs (b : Nat) : Prop := (notedReg b ∨ fuseReg b) ∨ bootReg b

/-- The device at the mount of its boot: w is the state the reset left, v the state reached. -/
structure BootReady (w v : State) (src detail : Nat) (psel0 vioHigh xin x32 : Bool) : Prop where
  step : BootStep bootRegs w v
  ax : ∀ n, (v.ax n).Cleared ∧ (v.ax n).st = if w.pins.safeLow = true ∨ w.dget THERM_STAT_SHUT = 1 then .oasis else .off
  source : v.dget SYS_RSTINFO_SRC = src ∧ v.dget SYS_RSTINFO_DETAIL = detail ∧
    v.dget SYS_RSTINFO_COUNT = if src = 1 then 0 else min 65535 (w.dget SYS_RSTINFO_COUNT + 1)
  boot : v.dget SYS_BOOT_STEP = 4
  gen : v.dget (HOST_PCFG_GEN 0) = if psel0 then 1 else if v.dget (FUSE_FLD_VALUE 2) % 4 = 2 then 2 else 3
  ref : v.dget SYS_CLKSTAT_REF_SRC = (if xin then 0 else 1) ∧ v.dget SYS_TIMESTAT_DEGRADED = if xin then 0 else 1
  free : v.dget SYS_TIMESTAT_STATE = 0
  straps : v.dget SYS_CLKSTAT_AON_SRC = (if x32 then 0 else 1) ∧ v.dget SYS_PWRSTAT_VIOSEL = if vioHigh then 1 else 0

theorem Wiped.bootReady {s w : State} (h : Wiped s w) {src detail : Nat} (psel0 vioHigh xin x32 : Bool) (hs : src < 16) (hd : detail < 16) :
    BootReady (w.bootBase src) ((w.bootFuses src detail vioHigh x32).bootFrom psel0 xin) src detail psel0 vioHigh xin x32 := by
  have hb := h.bootBase src
  have hf := w.bootFuses_writes src detail vioHigh x32
  generalize w.bootBase src = a at hb hf
  generalize w.bootFuses src detail vioHigh x32 = c at hf
  have hn := a.bootNoted_writes src detail vioHigh x32
  obtain ⟨rsrc, rdet, rcnt, rvio, raon, rref⟩ := a.bootNoted_dget vioHigh x32 hs hd
  generalize a.bootNoted src detail vioHigh x32 = b at hf hn rsrc rdet rcnt rvio raon rref
  have hab : BootStep notedReg a b := (BootWrites.of_dev hn).step
  have hac : BootStep (fun b => notedReg b ∨ fuseReg b) a c := hab.trans hf.step
  have haxis (n : Ax) : c.ax n = a.ax n := (hf.ax n).trans (hn.ax n)
  have hget (f : Fld) (hf' : ¬ fuseReg f.a) : c.dget f = b.dget f := hf.step.dget f hf'
  have hreset (f : Fld) (hk : ¬ keptReg f.a) (hr : f.get (devReset f.a) = 0) : a.dget f = 0 := (congrArg f.get (hb.dreg f.a hk)).trans hr
  have cref : c.dget SYS_CLKSTAT_REF_SRC = 0 :=
    (hget _ (by unfold fuseReg; decide)).trans (rref.trans (hreset _ (by unfold keptReg; decide) (by decide)))
  have ctime (f : Fld) (ha : f.a = SYS_TIMESTAT) (hr : f.get (devReset SYS_TIMESTAT) = 0) : c.dget f = 0 :=
    (hac.dget f (by rw [ha]; unfold notedReg fuseReg; decide)).trans
      (hreset f (by rw [ha]; unfold keptReg; decide) (by rw [ha]; exact hr))
  have cnone : NoCommands c := fun k => (hac.port k).cmds.trans (hb.port k).1
  obtain ⟨hstep, hax, hboot, hgen, href, hdeg, hstate, haon⟩ := c.bootFrom_step psel0 xin cnone (fun n => haxis n ▸ (hb.ax n).1)
    (fun n => haxis n ▸ (hb.ax n).2) cref (ctime SYS_TIMESTAT_DEGRADED rfl (by decide))
  generalize c.bootFrom psel0 xin = v at hstep hax hboot hgen href hdeg hstate haon
  have hkeep (f : Fld) (h1 : ¬ bootReg f.a) (h2 : ¬ fuseReg f.a) : v.dget f = b.dget f := (hstep.dget f h1).trans (hget f h2)
  have hinfo (f : Fld) (ha : f.a = SYS_RSTINFO ∨ f.a = SYS_PWRSTAT) : v.dget f = b.dget f :=
    hkeep f (by rcases ha with ha | ha <;> rw [ha] <;> unfold bootReg fusedReg logReg xinReg <;> decide)
      (by rcases ha with ha | ha <;> rw [ha] <;> unfold fuseReg <;> decide)
  refine ⟨hac.trans hstep, fun n => ?_, ⟨(hinfo _ (.inl rfl)).trans rsrc, (hinfo _ (.inl rfl)).trans rdet, (hinfo _ (.inl rfl)).trans rcnt⟩, hboot,
    ?_, ⟨href, hdeg⟩, hstate.trans (ctime _ rfl (by decide)), haon.trans ((hget _ (by unfold fuseReg; decide)).trans raon), (hinfo _ (.inr rfl)).trans rvio⟩
  · obtain ⟨h1, h2⟩ := hax n
    rw [show c.pins.safeLow = a.pins.safeLow from part_of_eq (fun t : State => t.pins.safeLow) hac.only rfl,
      hac.dget THERM_STAT_SHUT (by unfold notedReg fuseReg; decide)] at h2
    exact ⟨h1, h2⟩
  · rw [hstep.dget (FUSE_FLD_VALUE 2) (by unfold bootReg fusedReg logReg xinReg; decide)]
    exact hgen

end Sys2Proof.Machine
end

section
namespace Sys2Proof.Machine
open Sys2Proof

/-! ### The end of a boot, or its mount (R397) -/

/-- Registers that the mount or the end of a boot writes. -/
def endReg (b : Nat) : Prop := b = FAULT_RSTINFO ∨ b = SYS_BOOT ∨ b = CISTERN_STAT ∨ logReg b

/-- The device at the end of its boot, or, where there is a Cistern, at its mount; v is the state before. -/
structure BootEnds (v t : State) : Prop where
  only : t = { v with dev := t.dev, ports := t.ports, flight := t.flight, store := t.store }
  dreg : ∀ b : Nat, ¬ endReg b → t.dreg b = v.dreg b
  devices : t.store.devices = v.store.devices
  noCommands : NoCommands t
  ended : t.dget SYS_BOOT_STEP = 7 ∧ t.cis = cisNone ∨ t.dget SYS_BOOT_STEP = 4 ∧ t.cis = cisMounting
  mounting : t.cis = cisMounting → t.flight = v.flight ∧ (∀ k : Port, t.port k = v.port k) ∧ t.store.inflight = v.store.inflight
  delivered : t.cis = cisNone → t.flight = none ∧ ∀ k : Port, (t.port k).ring.map (toldOf (v.gen k == 3)) =
    (v.port k).ring.map (toldOf (v.gen k == 3)) ++ ((v.flight.getD []).filter (fun x => x.1 == k)).map (fun x => (stAbandoned, x.2.setWidth 64))

/-- The end of the boot, or its mount. -/
def State.bootEnd (v : State) : State := if v.blocks = 0 then (v.setCis cisNone).finishBoot else v.setCis cisMounting

theorem State.boot_bootEnd (s : State) (src detail : Nat) (psel0 vioHigh xin x32 : Bool) :
    s.boot src detail psel0 vioHigh xin x32 = ((s.bootFuses src detail vioHigh x32).bootFrom psel0 xin).bootEnd :=
  s.boot_eq src detail psel0 vioHigh xin x32

theorem State.setCis_writes (s : State) (c : Nat) : DevWrites (fun b => b = CISTERN_STAT) s (s.setCis c) := .dput s CISTERN_STAT_STATE c rfl

theorem State.setCis_cis (s : State) (c : Nat) (h : c < 2 ^ CISTERN_STAT_STATE.w) : (s.setCis c).cis = c :=
  (s.dput_dget_same CISTERN_STAT_STATE c (by decide)).trans (Nat.mod_eq_of_lt h)

theorem State.bootEnd_mounting {v : State} (hc : NoCommands v) (hb : v.dget SYS_BOOT_STEP = 4) : BootEnds v (v.setCis cisMounting) := by
  have hw := v.setCis_writes cisMounting
  have hcis : (v.setCis cisMounting).cis = cisMounting := v.setCis_cis _ (by decide)
  refine ⟨hw.only, fun b h => hw.dreg b fun e => h (.inr (.inr (.inl e))), rfl, hc, .inr ⟨(hw.dget _ (by decide)).trans hb, hcis⟩,
    fun _ => ⟨rfl, fun _ => rfl, rfl⟩, fun h => ?_⟩
  rw [hcis] at h
  exact absurd h (by decide)

theorem State.bootEnd_none {v : State} (hc : NoCommands v) (hp : ∀ n : Ax, v.aget n AX_MBCTL_PEND = 0) :
    BootEnds v (v.setCis cisNone).finishBoot := by
  have hw := v.setCis_writes cisNone
  have hcis : (v.setCis cisNone).cis = cisNone := v.setCis_cis _ (by decide)
  generalize v.setCis cisNone = u at hw hcis
  have hport (k : Port) : u.port k = v.port k := hw.port k
  obtain ⟨tonly, tdev, tdreg, tstep, tnone, tring⟩ := u.finishBoot_none (fun k => (congrArg PortSt.cmds (hport k)).trans (hc k)) hcis
    (fun n => (congrArg (Axis.get · AX_MBCTL_PEND) (hw.ax n)).trans (hp n))
  generalize u.finishBoot = t at *
  have tcis : t.cis = cisNone := (congrArg CISTERN_STAT_STATE.get (tdreg _ (by decide) (by decide) (by unfold logReg; decide))).trans hcis
  have tflight : t.flight = none := congrArg State.flight tonly
  have uflight : u.flight = v.flight := part_of_eq State.flight hw.only rfl
  refine ⟨?_, fun b h => ?_, tdev.trans (congrArg Store.devices (part_of_eq State.store hw.only rfl)), tnone, .inl ⟨tstep, tcis⟩,
    fun h => ?_, fun _ => ⟨tflight, fun k => ?_⟩⟩
  · rw [tflight]
    exact tonly.trans (congrArg (fun z : State => { z with dev := t.dev, ports := t.ports, flight := none, store := t.store }) hw.only)
  · exact (tdreg b (fun e => h (.inl e)) (fun e => h (.inr (.inl e))) (fun e => h (.inr (.inr (.inr e))))).trans
      (hw.dreg b fun e => h (.inr (.inr (.inl e))))
  · rw [tcis] at h
    exact absurd h (by decide)
  · have hgen : u.gen k = v.gen k := hw.dget (HOST_PCFG_GEN k.val) (by
      show HOST_PCFG k.val ≠ CISTERN_STAT
      unfold HOST_PCFG CISTERN_STAT
      omega)
    have h := tring k
    rw [hgen, hport, uflight] at h
    exact h

theorem State.bootEnd_ends {v : State} (hc : NoCommands v) (hb : v.dget SYS_BOOT_STEP = 4) (hp : ∀ n : Ax, v.aget n AX_MBCTL_PEND = 0) :
    BootEnds v v.bootEnd := by
  unfold State.bootEnd
  split
  · exact State.bootEnd_none hc hp
  · exact State.bootEnd_mounting hc hb

end Sys2Proof.Machine
end

section
namespace Sys2Proof.Machine
open Sys2Proof

/-! ### The whole boot (R24, R393 to R399) -/

/-- Registers that a boot writes at all. -/
def bootedReg (b : Nat) : Prop := bootRegs b ∨ endReg b

/-- What a boot makes of the state w that a reset of s left. -/
structure Boots (s w t : State) (src detail : Nat) (psel0 vioHigh xin x32 : Bool) : Prop where
  booted : Booted s t src detail
  devices : t.store.devices = s.store.devices
  array : s.fuses.busy = none → t.fuses.array = s.fuses.array
  straps : t.dget SYS_CLKSTAT_AON_SRC = (if x32 then 0 else 1) ∧ t.dget SYS_PWRSTAT_VIOSEL = if vioHigh then 1 else 0
  ref : t.dget SYS_CLKSTAT_REF_SRC = (if xin then 0 else 1) ∧ t.dget SYS_TIMESTAT_DEGRADED = if xin then 0 else 1
  gen : t.dget (HOST_PCFG_GEN 0) = if psel0 then 1 else if t.dget (FUSE_FLD_VALUE 2) % 4 = 2 then 2 else 3
  kept : ∀ b : Nat, ¬ bootedReg b → t.dreg b = w.dreg b
  fuses : t.fuses = (w.bootBase src).fuses
  engines : t.engines = w.engines
  mounting : t.cis = cisMounting → t.flight = w.flight ∧ (∀ k : Port, (t.port k).ring = []) ∧ t.store.inflight = w.store.inflight
  delivered : t.cis = cisNone → t.flight = none ∧ ∀ k : Port, (t.port k).ring.map (toldOf (t.gen k == 3)) =
    ((w.flight.getD []).filter (fun x => x.1 == k)).map (fun x => (stAbandoned, x.2.setWidth 64))

theorem State.bootBase_only (w : State) (src : Nat) : w.bootBase src = { w with fuses := (w.bootBase src).fuses } := by
  unfold State.bootBase
  split <;> rfl

theorem not_endReg_shown : ¬ endReg SYS_RSTINFO ∧ ¬ endReg SYS_TIMESTAT ∧ ¬ endReg SYS_CLKSTAT ∧ ¬ endReg SYS_PWRSTAT ∧ ¬ endReg (HOST_PCFG 0) ∧
    ¬ endReg (FUSE_FLD 2) ∧ ¬ endReg THERM_STAT := by
  unfold endReg logReg; decide

/-- The boot of the state that a reset left. -/
theorem Wiped.boots {s w : State} (h : Wiped s w) {src detail : Nat} (psel0 vioHigh xin x32 : Bool) (hs : src < 16) (hd : detail < 16)
    (hcount : src = 1 ∨ w.dget SYS_RSTINFO_COUNT = s.dget SYS_RSTINFO_COUNT) :
    Boots s w (w.boot src detail psel0 vioHigh xin x32) src detail psel0 vioHigh xin x32 := by
  rw [State.boot_bootEnd]
  have hb := h.bootBase src
  have hbase := w.bootBase_only src
  obtain ⟨hstep, hax, hsource, hboot, hgen, href, hfree, hstraps⟩ := h.bootReady psel0 vioHigh xin x32 hs hd
  generalize (w.bootFuses src detail vioHigh x32).bootFrom psel0 xin = v at *
  have hf : v.fuses = (w.bootBase src).fuses := part_of_eq State.fuses hstep.only rfl
  generalize hea : w.bootBase src = a at *
  have adreg (b : Nat) : a.dreg b = w.dreg b := part_of_eq (State.dreg · b) hbase rfl
  obtain ⟨tonly, tdreg, tdev, tnone, tended, tmount, tdone⟩ := State.bootEnd_ends (v := v) (fun k => (hstep.port k).cmds.trans (hb.port k).1)
    hboot (fun n => (hax n).1.pend)
  generalize v.bootEnd = t at *
  obtain ⟨kinfo, ktime, kclk, kpwr, kcfg, kfld, ktherm⟩ := not_endReg_shown
  have tget (f : Fld) (hf : ¬ endReg f.a) : t.dget f = v.dget f := congrArg f.get (tdreg _ hf)
  have vring (k : Port) : (v.port k).ring = [] := (hstep.port k).ring.trans (hb.port k).2
  have tax (n : Ax) : t.ax n = v.ax n := part_of_eq (State.ax · n) tonly rfl
  have tpins : t.pins = { a.pins with xinBad := v.pins.xinBad } := (part_of_eq State.pins tonly rfl).trans (congrArg State.pins hstep.only :)
  have aflight : a.flight = w.flight := part_of_eq State.flight hbase rfl
  have vflight : v.flight = w.flight := (part_of_eq State.flight hstep.only rfl).trans aflight
  have ainflight : a.store.inflight = w.store.inflight := part_of_eq (fun z : State => z.store.inflight) hbase rfl
  have aengines : a.engines = w.engines := part_of_eq State.engines hbase rfl
  have vengines : v.engines = w.engines := (part_of_eq State.engines hstep.only rfl).trans aengines
  have tshut : t.dget THERM_STAT_SHUT = a.dget THERM_STAT_SHUT :=
    (tget _ ktherm).trans (hstep.dget _ (by unfold bootRegs notedReg fuseReg bootReg fusedReg logReg xinReg; decide))
  obtain ⟨vsrc, vdet, vcnt⟩ := hsource
  obtain ⟨hpow, hasl, hwarn, hstby, -⟩ := hb.pins
  obtain ⟨hload, hstream, -⟩ := hb.idle
  refine ⟨⟨(tget _ kinfo).trans vsrc, (tget _ kinfo).trans vdet, ?_, ?_, (tget _ ktime).trans hfree, ?_, ?_, ?_, ?_, ?_, ?_, ?_, tnone, fun n => ?_,
      tended⟩, tdev.trans (hstep.devices.trans hb.devices), ?_, ⟨(tget _ kclk).trans hstraps.1, (tget _ kpwr).trans hstraps.2⟩,
    ⟨(tget _ kclk).trans href.1, (tget _ ktime).trans href.2⟩, ?_, fun b hk => ?_, (part_of_eq State.fuses tonly rfl).trans (hf.trans (congrArg State.fuses hea.symm)), ?_, fun hm => ?_,
    fun hn => ?_⟩
  · rw [tget _ kinfo, vcnt]
    rcases hcount with e | e
    · rw [if_pos e, if_pos e]
    · rw [show a.dget SYS_RSTINFO_COUNT = s.dget SYS_RSTINFO_COUNT from (congrArg _ (adreg _)).trans e]
  · exact (part_of_eq State.time tonly rfl).trans ((part_of_eq State.time hstep.only rfl).trans hb.time)
  · exact (part_of_eq State.load tonly rfl).trans ((part_of_eq State.load hstep.only rfl).trans hload)
  · exact (part_of_eq State.stream tonly rfl).trans ((part_of_eq State.stream hstep.only rfl).trans hstream)
  · exact (part_of_eq State.pending tonly rfl).trans ((part_of_eq State.pending hstep.only rfl).trans hb.pending)
  · rw [tpins]; exact hpow
  · rw [tpins]; exact hasl
  · rw [tpins]; exact hwarn
  · rw [tpins]; exact hstby
  · obtain ⟨hc, hst⟩ := hax n
    rw [tax, tshut, ← hb.safeLow]
    exact ⟨hc.loaded, hc.running, hc.on, hst⟩
  · intro hbusy
    rw [part_of_eq State.fuses tonly rfl, hf]
    exact hb.array hbusy
  · rw [tget _ kcfg, tget _ kfld]; exact hgen
  · exact (tdreg b fun e => hk (.inr e)).trans ((hstep.dreg b fun e => hk (.inl e)).trans (adreg b))
  · exact (part_of_eq State.engines tonly rfl).trans vengines
  · obtain ⟨hfl, hports, hinf⟩ := tmount hm
    exact ⟨hfl.trans vflight, fun k => (congrArg PortSt.ring (hports k)).trans (vring k), hinf.trans (hstep.inflight.trans ainflight)⟩
  · obtain ⟨hfl, hring⟩ := tdone hn
    refine ⟨hfl, fun k => ?_⟩
    have hgk : t.gen k = v.gen k := tget (HOST_PCFG_GEN k.val) (by
      show ¬ endReg (HOST_PCFG k.val)
      unfold endReg logReg HOST_PCFG FAULT_RSTINFO SYS_BOOT CISTERN_STAT CISTERN_LOST CISTERN_ADM
      omega)
    have e := hring k
    rw [vring, vflight, List.map_nil, List.nil_append] at e
    rw [hgk]
    exact e

end Sys2Proof.Machine
end

section
namespace Sys2Proof.Machine
open Sys2Proof

/-! ### The power-fail write (R369) -/

theorem State.powerFailWrite_only (s : State) : s.powerFailWrite = { s with store := s.powerFailWrite.store } := by
  unfold State.powerFailWrite
  split <;> rfl

/-- LIFE pages are written: the records, blobs and banks stay. -/
theorem State.powerFailWrite_devices (s : State) : s.powerFailWrite.store.devices = s.store.devices := by
  unfold State.powerFailWrite
  split <;> rfl

/-- The list in flight reaches the Cistern. -/
theorem State.powerFailWrite_inflight (s : State) (h : s.cis = cisPowerfail) (hr : s.dget CISTERN_STAT_LIFERDY = 1) :
    s.powerFailWrite.store.inflight = some s.inFlight := by
  unfold State.powerFailWrite
  rw [if_neg (by rw [h, hr]; decide)]
  rfl

theorem State.powerFailWrite_fuses (s : State) : s.powerFailWrite.fuses = s.fuses := part_of_eq State.fuses s.powerFailWrite_only rfl

/-! ### What the statement shows of a boot -/

theorem Booted.of_powerFailWrite {s t : State} {src detail : Nat} (h : Booted s.powerFailWrite t src detail) : Booted s t src detail := by
  have e := Eq.mp (congrArg (fun x => Booted x t src detail) s.powerFailWrite_only) h
  exact e

section
variable {s w t : State} {src detail : Nat} {psel0 vioHigh xin x32 : Bool}

theorem Boots.of_powerFailWrite (h : Boots s.powerFailWrite w t src detail psel0 vioHigh xin x32) :
    Boots s w t src detail psel0 vioHigh xin x32 :=
  { h with
    booted := h.booted.of_powerFailWrite
    devices := h.devices.trans s.powerFailWrite_devices
    array := fun hb => (h.array ((congrArg Fuses.busy s.powerFailWrite_fuses).trans hb)).trans (congrArg Fuses.array s.powerFailWrite_fuses) }

/-- What the NAND devices and the fuses hold is what they held. -/
def KeepsDevices (s t : State) : Prop :=
  t.store.log = s.store.log ∧ t.store.trace = s.store.trace ∧ t.store.banks = s.store.banks ∧ t.store.blobs = s.store.blobs ∧
    (s.fuses.busy = none → t.fuses.array = s.fuses.array)

theorem keepsDevices_of {s t : State} (h : t.store.devices = s.store.devices) (ha : s.fuses.busy = none → t.fuses.array = s.fuses.array) :
    KeepsDevices s t := by
  unfold Store.devices at h
  simp only [Prod.mk.injEq] at h
  obtain ⟨h1, h2, h3, h4⟩ := h
  exact ⟨h1, h2, h3, h4, ha⟩

theorem Boots.runs {i : Instr} {P : State → Prop} (he : exec i s = .next t) (h : Boots s w t src detail psel0 vioHigh xin x32) (hP : P t) :
    Runs i s (fun t => Booted s t src detail ∧ KeepsDevices s t ∧
      t.dget SYS_CLKSTAT_AON_SRC = (if x32 then 0 else 1) ∧ t.dget SYS_PWRSTAT_VIOSEL = (if vioHigh then 1 else 0) ∧
      t.dget SYS_CLKSTAT_REF_SRC = (if xin then 0 else 1) ∧ t.dget SYS_TIMESTAT_DEGRADED = (if xin then 0 else 1) ∧
      t.dget (HOST_PCFG_GEN 0) = (if psel0 then 1 else if t.dget (FUSE_FLD_VALUE 2) % 4 = 2 then 2 else 3) ∧ P t) :=
  runs_of_exec he ⟨h.booted, keepsDevices_of h.devices h.array, h.straps.1, h.straps.2, h.ref.1, h.ref.2, h.gen, hP⟩

end

/-! ### Resets that AON survives (R269, R296, R393) -/

/-- What every reset but power-on keeps: the latch, the counter, the retired engines, the list of commands in flight. -/
def WarmKept (s t : State) : Prop :=
  t.dget THERM_STAT_SHUT = s.dget THERM_STAT_SHUT ∧ t.dget SYS_AONCNT_COUNT = s.dget SYS_AONCNT_COUNT ∧
  t.fuses.shadow = s.fuses.shadow ∧ (∀ g : Eng, (s.eng g).pool = .retired → (t.eng g).pool = .retired) ∧
  (t.cis = cisMounting → t.flight = some (s.flight.getD [] ++ s.inFlight) ∧ ∀ k : Port, (t.port k).ring = []) ∧
  (t.cis = cisNone → t.flight = none ∧ ∀ k : Port, (t.port k).ring.map (fun x => (x.status, if t.gen k = 3 then x.tag.setWidth 64 else x.data.headD 0)) =
    ((s.flight.getD [] ++ s.inFlight).filter (fun x => x.1 = k)).map (fun x => (stAbandoned, x.2.setWidth 64)))

theorem WarmKept.of_powerFailWrite {s t : State} (h : WarmKept s.powerFailWrite t) : WarmKept s t := by
  have e := Eq.mp (congrArg (fun x => WarmKept x t) s.powerFailWrite_only) h
  exact e

theorem not_bootedReg_aon : ¬ bootedReg THERM_STAT ∧ ¬ bootedReg SYS_AONCNT := by
  unfold bootedReg bootRegs endReg notedReg fuseReg bootReg fusedReg logReg xinReg; decide

theorem Boots.warmKept {s t : State} {src detail : Nat} {psel0 vioHigh xin x32 : Bool} (hs : src ≠ 1)
    (h : Boots s (s.wiped false) t src detail psel0 vioHigh xin x32) : WarmKept s t := by
  obtain ⟨-, haon, -, hshut, hflight, hshadow, hret⟩ := s.wiped_warm_parts
  obtain ⟨kshut, kaon⟩ := not_bootedReg_aon
  have hbase : (s.wiped false).bootBase src = s.wiped false := if_neg hs
  refine ⟨(congrArg _ (h.kept _ kshut)).trans hshut, congrArg _ ((h.kept _ kaon).trans haon), ?_, fun g hg => ?_, fun hm => ?_, fun hn => ?_⟩
  · rw [h.fuses, hbase]; exact hshadow
  · have e : t.eng g = (s.wiped false).eng g := congrArg (fun v : Vector Engine 10 => v[g]) h.engines
    rw [e]; exact hret g hg
  · obtain ⟨hfl, hring, -⟩ := h.mounting hm
    exact ⟨hfl.trans hflight, hring⟩
  · obtain ⟨hfl, hring⟩ := h.delivered hn
    refine ⟨hfl, fun k => ?_⟩
    have e := hring k
    rw [hflight] at e
    refine Eq.trans (List.map_congr_left fun x _ => ?_) e
    simp [toldOf]

/-- A reset without power-on. -/
theorem State.boots_warm (s : State) {src detail : Nat} (psel0 vioHigh xin x32 : Bool) (hs : src < 16) (hd : detail < 16) (h1 : src ≠ 1) :
    let t := (s.wiped false).boot src detail psel0 vioHigh xin x32
    Boots s (s.wiped false) t src detail psel0 vioHigh xin x32 ∧ WarmKept s t := by
  intro t
  obtain ⟨hw, -, hinfo, -, -, -, -⟩ := s.wiped_warm_parts
  have hB := hw.boots psel0 vioHigh xin x32 hs hd (.inr (congrArg SYS_RSTINFO_COUNT.get hinfo))
  exact ⟨hB, hB.warmKept h1⟩

/-- A power-on reset. -/
theorem State.boots_por (s : State) (psel0 vioHigh xin x32 : Bool) :
    let t := (s.wiped true).boot 1 0 psel0 vioHigh xin x32
    Boots s (s.wiped true) t 1 0 psel0 vioHigh xin x32 ∧ t.dget THERM_STAT_SHUT = 0 ∧ t.dget SYS_AONCNT_COUNT = 0 ∧ t.flight = none ∧
      (∀ g : Eng, (t.eng g).pool = (State.reset.eng g).pool) ∧ ∀ k : Port, (t.port k).ring = [] := by
  intro t
  obtain ⟨hw, hflight, hdreg, heng⟩ := s.wiped_por_parts
  have hB : Boots s (s.wiped true) t 1 0 psel0 vioHigh xin x32 := hw.boots psel0 vioHigh xin x32 (by decide) (by decide) (.inl rfl)
  obtain ⟨kshut, kaon⟩ := not_bootedReg_aon
  have hzero (f : Fld) (hk : ¬ bootedReg f.a) (hz : f.get (devReset f.a) = 0) : t.dget f = 0 :=
    (congrArg f.get ((hB.kept _ hk).trans (hdreg _))).trans hz
  refine ⟨hB, hzero _ kshut (by decide), hzero _ kaon (by decide), ?_⟩
  have hends : t.flight = none ∧ ∀ k : Port, (t.port k).ring = [] := by
    obtain ⟨-, -, -, -, -, -, -, -, -, -, -, -, -, -, hend⟩ := hB.booted
    rcases hend with ⟨-, hn⟩ | ⟨-, hm⟩
    · obtain ⟨hfl, hring⟩ := hB.delivered hn
      refine ⟨hfl, fun k => ?_⟩
      have e := hring k
      rw [hflight] at e
      exact List.map_eq_nil_iff.1 e
    · obtain ⟨hfl, hring, -⟩ := hB.mounting hm
      exact ⟨hfl.trans hflight, hring⟩
  refine ⟨hends.1, fun g => ?_, hends.2⟩
  exact congrArg (fun v : Vector Engine 10 => v[g].pool) (hB.engines.trans heng)

end Sys2Proof.Machine
end

section
namespace Sys2Proof.Machine
open Sys2Proof

/-! ### The loss of VSUP and its early warning (R391, R400) -/

/-- What losing VSUP leaves. -/
theorem State.vsupLost_parts (s : State) : let t := (s.powerFailWrite.wiped true).modPins (fun p => { p with powered := false })
    t.pins.powered = false ∧ KeepsDevices s t ∧ t.store.inflight = s.powerFailWrite.store.inflight ∧
    (∀ n : Ax, (t.ax n).gd.on = 0 ∧ (t.ax n).loaded = false ∧ (t.ax n).run.running = false) ∧
    (∀ k : Port, (t.port k).cmds = [] ∧ (t.port k).ring = []) ∧
    t.flight = none ∧ t.load = none ∧ t.stream = none ∧ t.clk = s.clk ∧ t.pending = s.pending := by
  obtain ⟨hw, hflight, -, -⟩ := s.powerFailWrite.wiped_por_parts
  generalize s.powerFailWrite.wiped true = w at *
  obtain ⟨hload, hstream, -⟩ := hw.idle
  have hkeeps : KeepsDevices s w := keepsDevices_of (hw.devices.trans s.powerFailWrite_devices)
    fun hb => (hw.array ((congrArg Fuses.busy s.powerFailWrite_fuses).trans hb)).trans (congrArg Fuses.array s.powerFailWrite_fuses)
  have hclk : s.powerFailWrite.clk = s.clk := part_of_eq State.clk s.powerFailWrite_only rfl
  have hpending : s.powerFailWrite.pending = s.pending := part_of_eq State.pending s.powerFailWrite_only rfl
  exact ⟨rfl, hkeeps, hw.inflight, fun n => ⟨(hw.ax n).1.on, (hw.ax n).1.loaded, (hw.ax n).1.running⟩, hw.port, hflight, hload, hstream,
    hw.clk.trans hclk, hw.pending.trans hpending⟩

/-- The Cistern in POWERFAIL, where there is one. -/
def State.cisFailing (s : State) : State := if s.cis = cisNone then s else s.setCis cisPowerfail

theorem State.cisFailing_cis (s : State) : s.cisFailing = { s with dev := s.cisFailing.dev } ∧
    s.cisFailing.cis = if s.cis = cisNone then cisNone else cisPowerfail := by
  unfold State.cisFailing
  split
  · rename_i h; exact ⟨rfl, h⟩
  · exact ⟨rfl, s.setCis_cis _ (by decide)⟩

/-- The write streams of the host end. -/
def State.streamsEnded (s : State) : State :=
  let adm := s.stream.isSome || s.load.any (fun l => l.store)
  let t := { s with stream := none, load := if s.load.any (fun l => l.store) then none else s.load }
  if adm then t.dput CISTERN_ADM_HOLDER 7 else t

theorem State.streamsEnded_parts (s : State) : let t := s.streamsEnded
    t = { s with dev := t.dev, stream := none, load := t.load } ∧ t.cis = s.cis ∧
    t.load = (if s.load.any (·.store) then none else s.load) ∧
    (s.stream ≠ none ∨ s.load.any (·.store) = true → t.dget CISTERN_ADM_HOLDER = 7) := by
  unfold State.streamsEnded
  dsimp only
  rw [← Option.isSome_iff_ne_none, ← Bool.or_eq_true]
  split
  · exact ⟨rfl, State.dput_dget_reg _ CISTERN_ADM_HOLDER CISTERN_STAT_STATE 7 (by decide), rfl,
      fun _ => State.dput_dget_same _ CISTERN_ADM_HOLDER 7 (by decide)⟩
  · rename_i h; exact ⟨rfl, rfl, rfl, fun e => absurd e h⟩

/-- The warning noted. -/
def State.warned (s : State) : State := s.modPins (fun p => { p with warning := true })

theorem execEarlyPowerFail_warned {s : State} (h : s.pins.powered = true ∧ s.pins.asleep = false) (hw : s.pins.warning = false) :
    exec .earlyPowerFail s = .next s.warned.cisFailing.streamsEnded := if_pos ⟨h.1, h.2, hw⟩

/-- The early warning: the Cistern in POWERFAIL, the write streams ended, no axis changed (R369, R400). -/
theorem State.warned_parts (s : State) : let t := s.warned.cisFailing.streamsEnded
    t = { s with dev := t.dev, pins := { s.pins with warning := true }, stream := none, load := t.load } ∧
    t.cis = (if s.cis = cisNone then cisNone else cisPowerfail) ∧
    t.load = (if s.load.any (·.store) then none else s.load) ∧
    (s.stream ≠ none ∨ s.load.any (·.store) = true → t.dget CISTERN_ADM_HOLDER = 7) := by
  obtain ⟨honly, hcis⟩ := s.warned.cisFailing_cis
  generalize s.warned.cisFailing = u at *
  obtain ⟨tonly, tcis, tload, tadm⟩ := u.streamsEnded_parts
  have hl : u.load = s.load := part_of_eq State.load honly rfl
  have hs : u.stream = s.stream := part_of_eq State.stream honly rfl
  rw [hl] at tload tadm
  rw [hs] at tadm
  exact ⟨tonly.trans (congrArg (fun z : State => { z with dev := u.streamsEnded.dev, stream := none, load := u.streamsEnded.load }) honly),
    tcis.trans hcis, tload, tadm⟩

/-! ### Standby (R402) -/

theorem State.standbyRefused_iff (s : State) : s.standbyRefused = true ↔
    (∃ n : Ax, ((s.ax n).st ≠ .off ∧ (s.ax n).st ≠ .oasis) ∨ ((s.ax n).st = .oasis ∧ 2 ≤ s.oasisOut n)) ∨ s.fuses.busy ≠ none ∨ s.load ≠ none := by
  unfold State.standbyRefused
  rw [Bool.or_eq_true, Bool.or_eq_true, List.any_eq_true, Option.isSome_iff_ne_none, Option.isSome_iff_ne_none, or_assoc]
  refine or_congr ⟨fun ⟨n, _, h⟩ => ⟨n, ?_⟩, fun ⟨n, h⟩ => ⟨n, mem_allAx n, ?_⟩⟩ Iff.rfl
  · simpa using h
  · simpa using h

theorem State.writePerm_stby (s : State) (p : Port) (v : W64) : s.writePerm p SYS_STBY v = needs (s.isSvc p) := by
  unfold State.writePerm
  rw [place_sys (by decide)]
  exact (if_neg (by decide)).trans (if_pos (by decide))

theorem State.writeDev_stby (s : State) (p : Port) (tag : W16) (v : W64) :
    s.writeDev p tag SYS_STBY v = ((s.writeStby p tag v).1, .done (s.writeStby p tag v).2) := s.writeDev_sys p tag v (by decide)

/-- The word that ENTER writes: MODE as it stands. -/
theorem stby_enter (w : W64) : SYS_STBY_ENTER.get (SYS_STBY_ENTER.put w 1) = 1 ∧ SYS_STBY_MODE.get (SYS_STBY_ENTER.put w 1) = SYS_STBY_MODE.get w :=
  ⟨Fld.get_put_same _ _ _ (by decide), Fld.get_put_ne _ _ _ _ (by decide) (by decide)⟩

/-- Standby requested. -/
def State.standbyAsked (s : State) (p : Port) (tag : W16) (m : Nat) : State :=
  (s.dput SYS_STBY_MODE m).modPins (fun q => { q with standby := some (p, tag) })

theorem State.writeStby_enter (s : State) (p : Port) (tag : W16) (w : W64) : s.writeStby p tag (SYS_STBY_ENTER.put w 1) =
    if s.standbyRefused = true then (s, stNotPermitted) else (s.standbyAsked p tag (SYS_STBY_MODE.get w), stOk) := by
  obtain ⟨he, hm⟩ := stby_enter w
  unfold State.writeStby
  rw [he, hm]
  by_cases h : s.standbyRefused = true
  · rw [if_pos ⟨rfl, h⟩, if_pos h]
  · rw [if_neg (fun e => h e.2), if_neg h]; rfl

section
variable {s : State} {p : Port} (tag : W16) (hc : Calm s p) (hsvc : s.isSvc p = true)
include hc hsvc

theorem State.enter_refused (h : s.standbyRefused = true) :
    let t := s.hostWrite p tag SYS_STBY (SYS_STBY_ENTER.put (s.dreg SYS_STBY) 1)
    PortsOnly s t ∧ Done s t p tag stNotPermitted 15 [] := by
  refine State.hostWrite_sys_eq .self hc (by decide) ((s.writePerm_stby p _).trans (by rw [hsvc]; rfl)) ?_ (by decide)
  obtain ⟨ionly, -, -⟩ := s.issuing_parts p tag (.wr (BitVec.ofNat 16 SYS_STBY) [SYS_STBY_ENTER.put (s.dreg SYS_STBY) 1])
  generalize s.issuing p tag _ = i at *
  have hi : i.standbyRefused = true := (part_of_eq State.standbyRefused ionly rfl).trans h
  rw [State.writeDev_stby, State.writeStby_enter, if_pos hi]

theorem State.enter_accepted (h : s.standbyRefused ≠ true) :
    let t := s.hostWrite p tag SYS_STBY (SYS_STBY_ENTER.put (s.dreg SYS_STBY) 1)
    PortsOnly (s.standbyAsked p (s.assignTag p tag).1 (s.dget SYS_STBY_MODE)) t ∧ Done s t p tag stOk 15 [] := by
  refine State.hostWrite_sys_eq (F := (State.standbyAsked · p (s.assignTag p tag).1 (s.dget SYS_STBY_MODE))) (fun _ _ => rfl) hc (by decide)
    ((s.writePerm_stby p _).trans (by rw [hsvc]; rfl)) ?_ (by decide)
  obtain ⟨ionly, -, -⟩ := s.issuing_parts p tag (.wr (BitVec.ofNat 16 SYS_STBY) [SYS_STBY_ENTER.put (s.dreg SYS_STBY) 1])
  generalize s.issuing p tag _ = i at *
  have hi : ¬ i.standbyRefused = true := fun e => h ((part_of_eq State.standbyRefused ionly rfl).symm.trans e)
  rw [State.writeDev_stby, State.writeStby_enter, if_neg hi]
  rfl

end

/-- The device asleep. -/
def State.slept (s : State) : State :=
  { s with
    engines := s.engines.map (fun (e : Engine) => if e.pool = PoolSt.retired then e else { e with pool := .stopped })
    store := { s.store with dirty := false }
    pins := { s.pins with asleep := true, standby := none } }

theorem execStandby_slept {s : State} {p : Port} {tag : W16} (h : s.pins.standby = some (p, tag)) :
    exec .standby s = .next (if s.tagUsed p tag = true then s else s.slept) := by
  show execStandby s = _
  unfold execStandby
  rw [h]
  dsimp only
  split <;> rfl

theorem execStandby_none {s : State} (h : s.pins.standby = none) : exec .standby s = .next s := by
  show execStandby s = _
  unfold execStandby
  rw [h]

theorem State.slept_eng (s : State) (g : Eng) :
    s.slept.eng g = { s.eng g with pool := if (s.eng g).pool = .retired then .retired else .stopped } := by
  have e : s.slept.eng g = if (s.eng g).pool = PoolSt.retired then s.eng g else { s.eng g with pool := .stopped } := by
    simp [State.eng, State.slept]
    rfl
  rw [e]
  split
  · rename_i h; rw [← h]
  · rfl

end Sys2Proof.Machine
end

section
namespace Sys2Proof.Machine
open Sys2Proof

theorem Rail.detail_eq (r : Rail) : Rail.detail r = (match r with | .vcore => 1 | .v33 => 2 | .vio => 3) ∧ Rail.detail r < 16 := by
  cases r <;> exact ⟨rfl, by decide⟩

/-- The reset at the end of the power-fail sequence: the device boots warm, and the list in flight is in the Cistern. -/
theorem State.boots_powerfail (s : State) (psel0 vioHigh xin x32 : Bool) :
    let t := (s.powerFailWrite.wiped false).boot 3 0 psel0 vioHigh xin x32
    Boots s (s.powerFailWrite.wiped false) t 3 0 psel0 vioHigh xin x32 ∧ WarmKept s t ∧
      (s.cis = cisPowerfail → s.dget CISTERN_STAT_LIFERDY = 1 → t.cis ≠ cisNone → t.store.inflight = some s.inFlight) := by
  intro t
  obtain ⟨hB, hwarm⟩ := s.powerFailWrite.boots_warm (src := 3) (detail := 0) psel0 vioHigh xin x32 (by decide) (by decide) (by decide)
  obtain ⟨hw, -⟩ := s.powerFailWrite.wiped_warm_parts
  refine ⟨hB.of_powerFailWrite, hwarm.of_powerFailWrite, fun hc hr hn => ?_⟩
  obtain ⟨-, -, -, -, -, -, -, -, -, -, -, -, -, -, hend⟩ := hB.booted
  have hm : t.cis = cisMounting := (hend.resolve_left fun e => hn e.2).2
  obtain ⟨-, -, hinf⟩ := hB.mounting hm
  exact hinf.trans (hw.inflight.trans (s.powerFailWrite_inflight hc hr))

/-- Settles O55: a reset wipes the state and boots it (`Wiped.boots`); the other rows by their equations. -/
theorem resetsAndStandby : Obligations.ResetsAndStandby := by
  unfold Obligations.ResetsAndStandby
  intro p tag r a b c d e s on timed wakes rises fails flight devices boots warm written short
  have hshort : s.standbyRefused = true ↔ short := s.standbyRefused_iff
  refine ⟨fun h => ?_, fun h => runs_of_exec (if_neg h) rfl, fun h => ?_, fun h => ?_,
    fun h => ⟨runs_of_exec (if_neg h) rfl, runs_of_exec (if_neg h) rfl⟩, fun h => ?_, fun h => runs_of_exec (if_neg h) rfl, fun h => ?_,
    fun h => runs_of_exec (if_neg h) rfl, fun h => ?_, fun h => ?_, fun h hw => ?_, fun h => ?_, fun hc hs hn => ?_, fun hc hs hn => ?_,
    fun hc hs => ?_, fun h hu => ?_, fun h => ?_⟩
  · obtain ⟨hB, hP⟩ := s.boots_por a b c d
    exact hB.runs (if_pos h) hP
  · obtain ⟨hB, hP⟩ := s.boots_warm (src := 2) (detail := 0) a b c d (by decide) (by decide) (by decide)
    exact hB.runs (if_pos h) hP
  · obtain ⟨hr, hlt⟩ := Rail.detail_eq r
    obtain ⟨hB, hP⟩ := s.boots_warm (src := 4) (detail := Rail.detail r) a b c d (by decide) hlt (by decide)
    have hrun : boots (.supply r a b c d) a b c d 4 (Rail.detail r) warm := hB.runs (if_pos h) hP
    rw [hr] at hrun
    exact hrun
  · obtain ⟨hB, hP⟩ := s.boots_powerfail a b c d
    exact hB.runs (if_pos h) hP
  · have hsrc : (if timed then 6 else 5) < 16 ∧ (if timed then 6 else 5) ≠ 1 := by split <;> decide
    obtain ⟨hB, hP⟩ := s.boots_warm (detail := 0) b c d e hsrc.1 (by decide) hsrc.2
    exact hB.runs (if_pos h) hP
  · obtain ⟨hpow, hkeep, hinf, hax⟩ := s.vsupLost_parts
    exact runs_of_exec (if_pos h) ⟨hpow, hkeep, fun hc hr _ => hinf.trans (s.powerFailWrite_inflight hc hr), hax⟩
  · exact runs_of_exec (if_neg (by rw [h]; decide)) rfl
  · exact runs_of_exec (execEarlyPowerFail_warned h hw) s.warned_parts
  · refine runs_of_exec (if_neg fun hp => ?_) rfl
    rcases h with h | h
    · exact h ⟨hp.1, hp.2.1⟩
    · rw [h] at hp; exact absurd hp.2.2 (by decide)
  · obtain ⟨tonly, tdone⟩ := State.enter_accepted tag hc hs fun h => hn (hshort.1 h)
    refine runs_of_exec rfl ⟨tdone, part_of_eq State.pins tonly rfl, part_of_eq State.axes tonly rfl, (tonly.dget _).trans ?_⟩
    exact (s.dput_dget_same SYS_STBY_MODE _ (by decide)).trans (Nat.mod_eq_of_lt (s.dget_lt SYS_STBY_MODE))
  · obtain ⟨tonly, tdone⟩ := State.enter_refused tag hc hs (hshort.2 hn)
    exact runs_of_exec rfl ⟨tdone, tonly⟩
  · exact runs_of_exec rfl (State.hostWrite_sys_refused hc (by decide) ((s.writePerm_stby p _).trans (by rw [hs]; rfl)))
  · exact runs_of_exec ((execStandby_slept h).trans (by rw [hu]; rfl)) ⟨rfl, s.slept_eng⟩
  · rcases h with h | ⟨h, hu⟩
    · exact runs_of_exec (execStandby_none h) rfl
    · exact runs_of_exec ((execStandby_slept h).trans (by rw [hu]; rfl)) rfl

end Sys2Proof.Machine
end

section
namespace Sys2Proof.Machine
open Sys2Proof

/-! ### One rounding, then saturation (R72) -/

/-- Saturation gives the nearest limit, and tells whether it was needed. -/
theorem sat32_eq (x : Int) : sat32 x = (clamp32 x, over32 x) := by
  unfold sat32 clamp32 over32
  split
  · next h => rw [min_eq_left (by omega), decide_eq_true (by omega)]; rfl
  · split
    · next h => rw [min_eq_right (by omega), max_eq_left (by omega), decide_eq_true (by omega)]; rfl
    · rw [min_eq_right (by omega), max_eq_right (by omega), decide_eq_false (by omega)]

theorem roundDiv_two_pow (x : Int) (k : Nat) (hk : 0 < k) : roundDiv x (2 ^ k) = shrRound x k := by
  obtain ⟨j, rfl⟩ : ∃ j, k = j + 1 := ⟨k - 1, by omega⟩
  unfold roundDiv shrRound
  rw [show 2 * x + ((2 ^ (j + 1) : Nat) : Int) = 2 * (x + 2 ^ (j + 1 - 1)) by rw [Nat.add_sub_cancel, pow_succ]; push_cast; ring,
    Int.mul_ediv_mul_of_pos _ _ (by norm_num)]
  norm_num

@[simp] theorem sat32_fst (x : Int) : (sat32 x).1 = clamp32 x := by rw [sat32_eq]
@[simp] theorem sat32_snd (x : Int) : (sat32 x).2 = over32 x := by rw [sat32_eq]

/-- A value in units of 2^-60 rounds to the nearest unit of 2^-30. -/
@[simp] theorem round60_fst (x : Int) : (round60 x).1 = clamp32 (shrRound x 30) := sat32_fst _

/-- A whole number of units rounds to itself. -/
theorem roundDiv_mul_self (x : Int) {d : Nat} (h : 0 < d) : roundDiv (x * d) d = x := by
  unfold roundDiv
  rw [show 2 * (x * d) + (d : Int) = d + x * (2 * d) by ring, Int.add_mul_ediv_right _ _ (by omega),
    Int.ediv_eq_zero_of_lt (by omega) (by omega), Int.zero_add]

/-! ### Lanes (R67) -/

@[simp] theorem lanes_laneX_laneY (w : W64) : lanes (laneX w) (laneY w) = w := by
  unfold lanes laneX laneY
  apply BitVec.eq_of_getLsbD_eq
  intro i hi
  rw [BitVec.getLsbD_append]
  split
  · next h => simp [h]
  · next h => simp [show 32 + (i - 32) = i by omega, show i - 32 < 32 by omega]

/-! ### Bits of F (R75) -/

theorem fSet_getLsbD_same (f : W32) {b : Nat} (hb : b < 32) (v : Bool) : (fSet f b v).getLsbD b = (f.getLsbD b || v) := by
  cases v <;> simp [fSet, hb]

theorem fSet_getLsbD_ne (f : W32) {b j : Nat} (h : j ≠ b) (v : Bool) : (fSet f b v).getLsbD j = f.getLsbD j := by
  cases v with
  | false => rfl
  | true =>
    have hbit : ((1 : W32) <<< b).getLsbD j = false := by simp; omega
    simp only [fSet, if_true, BitVec.getLsbD_or, hbit, Bool.or_false]

theorem fPut_getLsbD_same (f : W32) {b : Nat} (hb : b < 32) (v : Bool) : (fPut f b v).getLsbD b = v := by
  cases v <;> simp [fPut, hb]

theorem fPut_getLsbD_ne (f : W32) {b j : Nat} (hj : j < 32) (h : j ≠ b) (v : Bool) : (fPut f b v).getLsbD j = f.getLsbD j := by
  cases v with
  | false =>
    have hbit : ((1 : W32) <<< b).getLsbD j = false := by simp; omega
    simp only [fPut, Bool.false_eq_true, if_false, BitVec.getLsbD_and, BitVec.getLsbD_not, hbit, hj, decide_true, Bool.not_false,
      Bool.and_true]
  | true => exact fSet_getLsbD_ne f h true

/-- EXC is set where an instruction raised an exception. -/
theorem fSet_exc (f : W32) (xs : List (BitVec 4)) : fSet f fEXC (!xs.isEmpty) = if xs = [] then f else f ||| 0x10000000 := by
  cases xs <;> rfl

/-! ### What the end of an instruction does (R71, R83, R106) -/

/-- Where control goes only the PC and LC can change. -/
theorem nextPc_core (lp : Option (BitVec 13 × BitVec 13)) (c : Core) (u : BitVec 13) (ret : Bool) :
    (nextPc lp c u ret).1 = { c with pc := (nextPc lp c u ret).1.pc, lc := (nextPc lp c u ret).1.lc } := by
  unfold nextPc; (repeat' split) <;> rfl

section
variable {s : State} {n : Ax} {e : Eng} {cyc : Nat} {r : Res}

/-- One instruction ends in a change of the engine and of the tick of its axis. -/
theorem State.retire_frame : EngineFrame s (s.retire n e cyc r) n e := by
  refine ⟨rfl, fun d hd => ?_, ?_, fun m hm => ?_, ?_⟩
  · exact (State.modAx_eng _ _ _ _).trans (State.modEng_eng_ne s hd _)
  · simp [State.retire]
  · exact (State.modAx_ax_ne _ hm _).trans (State.modEng_ax s e _ m)
  · simp [State.retire]

theorem State.retire_run : ((s.retire n e cyc r).ax n).run = { (s.ax n).run with
    cyc := (s.ax n).run.cyc + cyc
    seq := (s.ax n).run.seq + 1
    loop := ((s.retire n e cyc r).ax n).run.loop
    wait := r.wait.map (fun w => (w.1, w.2, s.clk))
    buf := (s.ax n).run.buf ++ r.ent.map (fun x => { seq := (s.ax n).run.seq, pc := (s.eng e).core.pc, eff := x })
    exc := (s.ax n).run.exc ++ r.exc.map (fun x => { seq := (s.ax n).run.seq, pc := (s.eng e).core.pc, code := x })
    pred := (r.pred.map (fun v => ((s.ax n).run.seq, (s.eng e).core.pc, v))).or (s.ax n).run.pred
    swt := (r.latch.map Prod.fst).getD (s.ax n).run.swt
    swtNeg := (r.latch.map Prod.snd).getD (s.ax n).run.swtNeg } := by
  cases hp : r.pred <;> cases hl : r.latch <;> simp [State.retire, hp, hl]

/-- The registers that an instruction leaves, F.EXC set when it raised an exception. -/
def Res.flagged (r : Res) : Core := { r.core with f := fSet r.core.f fEXC (!r.exc.isEmpty) }

/-- An instruction that waits stays where it is. -/
theorem State.retire_waiting (h : r.wait.isSome) : ((s.retire n e cyc r).eng e).core = r.flagged ∧
    ((s.retire n e cyc r).ax n).run.loop = (r.loop.or (s.ax n).run.loop) := by
  obtain ⟨w, hw⟩ := Option.isSome_iff_exists.1 h
  cases hl : r.loop <;> simp [State.retire, hw, hl, Res.flagged]

/-- Any other instruction moves the PC on, inside the loop it opened or the active one. -/
theorem State.retire_moves (h : r.wait = none) :
    let nx := nextPc (r.loop.or (s.ax n).run.loop) r.flagged (r.jump.getD ((s.eng e).core.pc + 1)) r.ret
    ((s.retire n e cyc r).eng e).core = nx.1 ∧ ((s.retire n e cyc r).ax n).run.loop = nx.2 := by
  cases hl : r.loop <;> simp [State.retire, h, hl, Res.flagged]

/-- The registers beside PC and LC are those the instruction left. -/
theorem State.retire_core : ((s.retire n e cyc r).eng e).core =
    { r.flagged with pc := ((s.retire n e cyc r).eng e).core.pc, lc := ((s.retire n e cyc r).eng e).core.lc } := by
  cases hw : r.wait with
  | some w => rw [(State.retire_waiting (by simp [hw])).1]
  | none => rw [(State.retire_moves hw).1]; exact nextPc_core _ _ _ _

@[simp] theorem State.retire_v : ((s.retire n e cyc r).eng e).core.v = r.core.v := by rw [State.retire_core]; rfl
@[simp] theorem State.retire_k : ((s.retire n e cyc r).eng e).core.k = r.core.k := by rw [State.retire_core]; rfl
@[simp] theorem State.retire_lk : ((s.retire n e cyc r).eng e).core.lk = r.core.lk := by rw [State.retire_core]; rfl
@[simp] theorem State.retire_f : ((s.retire n e cyc r).eng e).core.f = fSet r.core.f fEXC (!r.exc.isEmpty) := by
  rw [State.retire_core]; rfl

/-- A flag but EXC is as the instruction left it. -/
theorem State.retire_flag {b : Nat} (hb : b ≠ fEXC) :
    ((s.retire n e cyc r).eng e).core.f.getLsbD b = r.core.f.getLsbD b := by
  rw [State.retire_f, fSet_getLsbD_ne _ hb]

/-- EXC is set by an exception and left alone without one. -/
theorem State.retire_exc :
    ((s.retire n e cyc r).eng e).core.f.getLsbD fEXC = (r.core.f.getLsbD fEXC || !r.exc.isEmpty) := by
  rw [State.retire_f, fSet_getLsbD_same _ (by decide)]

theorem State.retire_tick (h : r.core.f.getLsbD fEXC = (s.eng e).core.f.getLsbD fEXC) :
    TickNext s (s.retire n e cyc r) n e cyc r.ent r.exc := by
  refine ⟨?_, ?_, ?_, ?_, by rw [State.retire_exc, h]⟩ <;> rw [State.retire_run]

/-- Outside a loop an instruction without a target moves on to the next word. -/
theorem State.retire_pcNext (hw : r.wait = none) (hl : r.loop = none) (hj : r.jump = none) (hc : r.core.lc = (s.eng e).core.lc) :
    PcNext s (s.retire n e cyc r) n e := by
  intro hlp
  rw [(State.retire_moves hw).1, hl, hlp, hj]
  exact ⟨rfl, hc⟩

end

/-! ### An instruction of an engine that can execute (R42, R79) -/

theorem Runs.imp {I : Instr} {s : State} {P Q : State → Prop} (h : Runs I s P) (hPQ : ∀ t, P t → Q t) : Runs I s Q := by
  obtain ⟨t, ht, hP⟩ := h
  exact ⟨t, ht, hPQ t hP⟩

/-- An engine that can execute is not waiting. -/
theorem State.ready_wait {s : State} {n : Ax} {e : Eng} (h : s.ready n = some e) : (s.ax n).run.wait = none := by
  unfold State.ready at h
  dsimp only at h
  split at h
  · split at h
    · next hc =>
      obtain ⟨-, -, hw, -⟩ := hc
      exact hw
    · cases h
  · cases h

/-- A command that is an engine's instruction commits the result of that instruction. -/
theorem runs_engine {I : Instr} {opc cyc : Nat} {i : Fields} {s : State} {n : Ax} {e : Eng} {r : Res} {P : State → Prop}
    (h : s.ready n = some e) (hx : exec I s = .next (s.engineRun n opc i))
    (hr : effectOf opc i s n (s.eng e).core ((s.ax n).env n) = some (cyc, r)) (hP : P (s.retire n e cyc r)) : Runs I s P := by
  refine ⟨_, hx.trans ?_, hP⟩
  simp only [State.engineRun, h, hr]

/-! ### Results that write lanes (R69, R72) -/

/-- A write to an operand changes V and K alone, and does not look at the other registers. -/
theorem writeLanes_with_f (c : Core) (f : W32) (cls : Cls) (code : BitVec 6) (wm : Nat) (x y : W32) :
    writeLanes { c with f := f } cls code wm x y =
      ({ (writeLanes c cls code wm x y).1 with f := f }, (writeLanes c cls code wm x y).2) := by
  simp only [writeLanes, putV, putK, dstOld]
  (repeat' split) <;> rfl

/-- A result of both lanes: the flags of the instruction, and SAT where an evaluated lane saturated. -/
theorem finish_core (c : Core) (f : W32) (cls : Cls) (i : Fields) (wm : Nat) (x y : W32 × Bool) (ex : Bool × Bool) (exc : List (BitVec 4)) :
    (finish { c with f := f } cls i wm x y ex exc).core = { (writeLanes c cls i.dst wm x.1 y.1).1 with
      f := fSet f fSAT (satOf wm (x.2 || ex.1) (y.2 || ex.2)) } := by
  simp only [finish, Res.of, writeLanes_with_f, Core.sat]

section
variable {s : State} {n : Ax} {e : Eng} {cyc : Nat} {r : Res} {c : Core} {f : W32} {cls : Cls} {i : Fields} {wm : Nat}
  {x y : W32 × Bool} {ex : Bool × Bool} {exc : List (BitVec 4)}

/-- What an instruction wrote to V and K is there afterwards. -/
theorem State.retire_lanes {x y : W32} (h : r.core.v = (writeLanes c cls i.dst wm x y).1.v ∧ r.core.k = (writeLanes c cls i.dst wm x y).1.k) :
    LanesWritten (s.retire n e cyc r) e c cls i.dst wm x y := ⟨State.retire_v.trans h.1, State.retire_k.trans h.2⟩

theorem State.retire_finish_lanes : LanesWritten (s.retire n e cyc (finish { c with f := f } cls i wm x y ex exc)) e c cls i.dst wm x.1 y.1 :=
  State.retire_lanes (by rw [finish_core]; exact ⟨rfl, rfl⟩)

theorem State.retire_finish_sat :
    ((s.retire n e cyc (finish { c with f := f } cls i wm x y ex exc)).eng e).core.f.getLsbD fSAT =
      (f.getLsbD fSAT || satOf wm (x.2 || ex.1) (y.2 || ex.2)) := by
  rw [State.retire_flag (by decide), finish_core]
  exact fSet_getLsbD_same _ (by decide) _

theorem State.retire_finish_flag {b : Nat} (h1 : b ≠ fEXC) (h2 : b ≠ fSAT) :
    ((s.retire n e cyc (finish { c with f := f } cls i wm x y ex exc)).eng e).core.f.getLsbD b = f.getLsbD b := by
  rw [State.retire_flag h1, finish_core]
  exact fSet_getLsbD_ne _ h2 _

end

section
variable {n : Ax} {e : Eng} {i : Fields} {s : State} {I : Instr} {opc cyc : Nat} {r : Res} {cls : Cls} {wm : Nat} {ex : Bool × Bool}
  {exc : List (BitVec 4)}

/-- An instruction that writes lanes and no flag but SAT. -/
theorem runs_lanes {x y : W32 × Bool} {u v : W32} (h : s.ready n = some e) (hx : exec I s = .next (s.engineRun n opc i))
    (hr : effectOf opc i s n (s.eng e).core ((s.ax n).env n) = some (cyc, r)) (hf : r = finish (s.eng e).core cls i wm x y ex exc)
    (hu : x.1 = u) (hv : y.1 = v) :
    Runs I s (fun t => LanesWritten t e (s.eng e).core cls i.dst wm u v ∧
      (t.eng e).core.f.getLsbD fSAT = ((s.eng e).core.f.getLsbD fSAT || satOf wm (x.2 || ex.1) (y.2 || ex.2))) := by
  subst hu hv
  exact runs_engine h hx (hr.trans (congrArg (fun r => some (cyc, r)) hf)) ⟨State.retire_finish_lanes, State.retire_finish_sat⟩

/-- Such an instruction whose lanes saturate. -/
theorem runs_saturating {x y : Int} (h : s.ready n = some e) (hx : exec I s = .next (s.engineRun n opc i))
    (hr : effectOf opc i s n (s.eng e).core ((s.ax n).env n) = some (cyc, r))
    (hf : r = finish (s.eng e).core cls i wm (sat32 x) (sat32 y) ex exc) :
    Runs I s (fun t => LanesWritten t e (s.eng e).core cls i.dst wm (clamp32 x) (clamp32 y) ∧
      (t.eng e).core.f.getLsbD fSAT = ((s.eng e).core.f.getLsbD fSAT || satOf wm (over32 x || ex.1) (over32 y || ex.2))) := by
  have := runs_lanes h hx hr hf (sat32_fst x) (sat32_fst y)
  rwa [sat32_snd, sat32_snd] at this

/-- Such an instruction whose lanes wrap leaves SAT alone. -/
theorem runs_wrapping {x y : W32} (h : s.ready n = some e) (hx : exec I s = .next (s.engineRun n opc i))
    (hr : effectOf opc i s n (s.eng e).core ((s.ax n).env n) = some (cyc, r))
    (hf : r = finish (s.eng e).core cls i wm (x, false) (y, false) (false, false) exc) :
    Runs I s (fun t => LanesWritten t e (s.eng e).core cls i.dst wm x y ∧
      (t.eng e).core.f.getLsbD fSAT = (s.eng e).core.f.getLsbD fSAT) := by
  have := runs_lanes h hx hr hf rfl rfl
  simpa only [satOf, Bool.or_self, Bool.and_false, Bool.or_false] using this

end

end Sys2Proof.Machine
end

section
namespace Sys2Proof.Machine
open Sys2Proof

/-! ### Operand codes (R68, R69) -/

/-- The codes of V0 to V31 and K0 to K15 are allowed wherever K is. -/
theorem Cls.vk_allows {code : BitVec 6} (h : code.toNat < 48) : Cls.vk.allows code = true := by
  simp only [Cls.allows, decide_eq_true h, Bool.true_or]

/-- As a source F is allowed as well. -/
theorem Cls.vks_allows {code : BitVec 6} (h : code.toNat < 49) : Cls.vks.allows code = true := by
  simp only [Cls.allows, decide_eq_true h, Bool.true_or]

theorem Cls.v_allows {code : BitVec 6} {last : Nat} : (Cls.v last).allows code = true ↔ code.toNat ≤ last := decide_eq_true_iff

theorem readSrc_allowed {c : Core} {e : Env} {cls : Cls} {code : BitVec 6} (h : cls.allows code = true) :
    readSrc c e cls code = (srcVal c e code, []) := if_pos h

theorem readSrc_not_allowed {c : Core} {e : Env} {cls : Cls} {code : BitVec 6} (h : cls.allows code = false) :
    readSrc c e cls code = (⟨0, false⟩, [excOPERAND]) := if_neg (Bool.eq_false_iff.1 h)

theorem writeLanes_not_allowed {c : Core} {cls : Cls} {code : BitVec 6} {wm : Nat} {x y : W32} (h : cls.allows code = false) :
    writeLanes c cls code wm x y = (c, [excOPERAND]) := if_neg (Bool.eq_false_iff.1 h)

/-- Codes 0 to 31 are V0 to V31. -/
theorem srcVal_v (c : Core) (e : Env) {code : BitVec 6} (h : code.toNat < 32) : srcVal c e code = ⟨c.v[code.toNat], false⟩ := dif_pos h

/-- Codes 32 to 47 are K0 to K15. -/
theorem srcVal_k (c : Core) (e : Env) {code : BitVec 6} (h1 : ¬ code.toNat < 32) (h2 : code.toNat - 32 < 16) :
    srcVal c e code = ⟨(c.k[code.toNat - 32]).setWidth 64, true⟩ := (dif_neg h1).trans (dif_pos h2)

/-- A V destination takes the selected lanes. -/
theorem writeLanes_v (c : Core) {code : BitVec 6} (wm : Nat) (x y : W32) (h : code.toNat < 32) :
    (writeLanes c .vk code wm x y).1.v = c.v.set code.toNat
      (lanes (if wmX wm then x else laneX c.v[code.toNat]) (if wmY wm then y else laneY c.v[code.toNat])) := by
  have ha := Cls.vk_allows (code := code) (by omega)
  simp only [writeLanes, ha, if_true, if_pos h, putV, dif_pos h, dstOld]

/-- A K destination takes lane x, or lane y when the mask selects y alone. -/
theorem writeLanes_k (c : Core) {code : BitVec 6} (wm : Nat) (x y : W32) (h1 : ¬ code.toNat < 32) (h2 : code.toNat - 32 < 16) :
    (writeLanes c .vk code wm x y).1.k = c.k.set (code.toNat - 32) (if wm = 2 then y else x) := by
  have ha := Cls.vk_allows (code := code) (by omega)
  simp only [writeLanes, ha, if_true, if_neg h1, putK, dif_pos h2]

theorem wmX_toNat (m : BitVec 2) : wmX m.toNat = !decide (m = 2) := by revert m; decide
theorem wmY_toNat (m : BitVec 2) : wmY m.toNat = !decide (m = 1) := by revert m; decide

theorem toNat_code {k : Nat} (h : k < 64) : (BitVec.ofNat 6 k).toNat = k := (BitVec.toNat_ofNat _ _).trans (Nat.mod_eq_of_lt h)

/-- The code of a register further on. -/
theorem toNat_code_add {code : BitVec 6} (k : Nat) (h : code.toNat + k < 64) : (code + BitVec.ofNat 6 k).toNat = code.toNat + k := by
  rw [BitVec.toNat_add, toNat_code (by omega), Nat.mod_eq_of_lt h]

/-- Settles O17: code by code. -/
theorem operandForms : Obligations.OperandForms := by
  unfold Obligations.OperandForms
  intro c e x y m
  have hsrc : ∀ k ∈ ([49, 51, 55, 56, 57, 58, 59, 60, 61, 62] : List (BitVec 6)), Cls.vks.allows k = false ∧ Cls.vk.allows k = false := by
    decide
  have hdst : ∀ k ∈ ([48, 50, 52, 53, 54] : List (BitVec 6)), Cls.vk.allows k = false := by decide
  refine ⟨fun j => ?_, fun j => ?_, rfl, rfl, rfl, rfl, rfl, rfl, rfl,
    fun k hk => ⟨readSrc_not_allowed (hsrc k hk).1, writeLanes_not_allowed (hsrc k hk).2⟩, fun k hk => writeLanes_not_allowed (hdst k hk),
    rfl, fun _ => ⟨rfl, rfl, rfl⟩, fun j => ?_, fun j => ?_⟩
  · have hj : (BitVec.ofNat 6 j.val).toNat = j.val := toNat_code (by omega)
    rw [readSrc_allowed (Cls.vks_allows (by omega)), srcVal_v _ _ (by omega)]
    simp only [hj]; rfl
  · have hj : (BitVec.ofNat 6 (32 + j.val)).toNat = 32 + j.val := toNat_code (by omega)
    rw [readSrc_allowed (Cls.vks_allows (by omega)), srcVal_k _ _ (by omega) (by omega)]
    simp [hj]
  · have hj : (BitVec.ofNat 6 j.val).toNat = j.val := toNat_code (by omega)
    rw [writeLanes_v _ _ _ _ (by omega)]
    simp [hj, wmX_toNat, wmY_toNat]
  · have hj : (BitVec.ofNat 6 (32 + j.val)).toNat = 32 + j.val := toNat_code (by omega)
    have hm : (m.toNat = 2) = (m = 2) := by revert m; decide
    rw [writeLanes_k _ _ _ _ (by omega) (by omega)]
    simp [hj, hm]

end Sys2Proof.Machine
end

section
namespace Sys2Proof.Machine
open Sys2Proof

/-! ### Integer roots -/

/-- The bit search finds the root once it stands between the candidate and the bits still to come. -/
theorem isqrtBits_eq (n : Nat) : ∀ k r : Nat, r * r ≤ n → n < (r + 2 ^ k) * (r + 2 ^ k) → isqrtBits n k r = Nat.sqrt n
  | 0, _, hlo, hhi => Nat.eq_sqrt.2 ⟨hlo, hhi⟩
  | k + 1, r, hlo, hhi => by
    simp only [isqrtBits]
    split
    · next h => exact isqrtBits_eq n k _ h (by rwa [Nat.add_assoc, ← Nat.two_mul, ← Nat.pow_succ'])
    · next h => exact isqrtBits_eq n k r hlo (by omega)

theorem isqrt_eq_sqrt {n : Nat} (h : n < 2 ^ 256) : isqrt n = Nat.sqrt n :=
  isqrtBits_eq n 128 0 (Nat.zero_le n) (by omega)

/-- The least root from above is the ceiling of the real root. -/
theorem csqrt_eq_ceil {n : Nat} (h : n < 2 ^ 256) : (csqrt n : Int) = ⌈√(n : ℝ)⌉ := by
  simp only [csqrt, isqrt_eq_sqrt h]
  split
  · next hsq =>
    rw [show (n : ℝ) = (Nat.sqrt n : ℝ) * Nat.sqrt n by exact_mod_cast hsq.symm, Real.sqrt_mul_self (Nat.cast_nonneg _), Int.ceil_natCast]
  · next hsq =>
    have hlt : Nat.sqrt n * Nat.sqrt n < n := lt_of_le_of_ne (Nat.sqrt_le n) hsq
    refine (Int.ceil_eq_iff.2 ⟨?_, ?_⟩).symm
    · push_cast
      rw [add_sub_cancel_right]
      exact Real.lt_sqrt_of_sq_lt (by rw [sq]; exact_mod_cast hlt)
    · push_cast
      exact Real.real_sqrt_le_nat_sqrt_succ

/-! ### Rounding of (a + b sqrt 3) / d (R72, R89) -/

theorem sqrt_three_mul_sq (b : ℝ) : √(3 * b * b) = |b| * √3 := by
  rw [show 3 * b * b = b ^ 2 * 3 by ring, Real.sqrt_mul (sq_nonneg b), Real.sqrt_sq_eq_abs]

theorem floorRoot3_eq_floor (a b : Int) {d : Nat} (hb : b.natAbs < 2 ^ 126) :
    floorRoot3 a b d = ⌊((a : ℝ) + b * √3) / d⌋ := by
  have hn : (3 * b * b).toNat = 3 * b.natAbs * b.natAbs := by
    rw [mul_assoc, ← Int.natAbs_mul_self, mul_assoc]; norm_cast
  have hlt : 3 * b.natAbs * b.natAbs < 2 ^ 256 := by
    have := Nat.mul_lt_mul'' hb hb
    rw [mul_assoc]; omega
  have hroot : √((3 * b.natAbs * b.natAbs : Nat) : ℝ) = |(b : ℝ)| * √3 := by
    push_cast
    rw [Nat.cast_natAbs, sqrt_three_mul_sq]
    simp
  rw [Int.floor_div_natCast, Int.floor_intCast_add]
  unfold floorRoot3
  simp only [hn]
  split
  · next h0 =>
    rw [isqrt_eq_sqrt hlt, ← Real.floor_real_sqrt_eq_nat_sqrt, hroot, abs_of_nonneg (by exact_mod_cast h0)]
  · next h0 =>
    rw [csqrt_eq_ceil hlt, hroot, abs_of_neg (by exact_mod_cast not_le.1 h0), Int.sub_eq_add_neg, ← Int.floor_neg, neg_mul, neg_neg]

/-- Settles O5: the floor of the doubled quotient plus one half. -/
theorem rootRounding : Obligations.RootRounding := by
  unfold Obligations.RootRounding
  intro a b d hd hb
  have hfloor : roundRoot3 a b d = ⌊((a : ℝ) + b * √3) / d + 1 / 2⌋ := by
    have hd' : (d : ℝ) ≠ 0 := by positivity
    unfold roundRoot3
    rw [floorRoot3_eq_floor _ _ (by omega)]
    congr 1
    push_cast
    field_simp
    ring
  rw [hfloor]
  constructor
  · linarith [Int.floor_le (((a : ℝ) + b * √3) / d + 1 / 2)]
  · linarith [Int.lt_floor_add_one (((a : ℝ) + b * √3) / d + 1 / 2)]

/-- The nearest root of n lies at most one half from the real root. -/
theorem nearestRoot_nearest {n : Nat} (h : n < 2 ^ 256) : 0 ≤ nearestRoot n ∧
    4 * (n : Int) ≤ (2 * nearestRoot n + 1) * (2 * nearestRoot n + 1) ∧
    (nearestRoot n = 0 ∨ (2 * nearestRoot n - 1) * (2 * nearestRoot n - 1) ≤ 4 * (n : Int)) := by
  have hlo := Nat.sqrt_le n
  have hhi := Nat.sqrt_le_add n
  unfold nearestRoot
  rw [isqrt_eq_sqrt h]
  generalize Nat.sqrt n = r at hlo hhi ⊢
  dsimp only
  split
  · next hc =>
    have hc' : r * r + r < n := by omega
    zify at hhi hc'
    exact ⟨by positivity, by nlinarith, .inr (by nlinarith)⟩
  · next hc =>
    have hc' : n ≤ r * r + r := by omega
    zify at hlo hc'
    refine ⟨by positivity, by nlinarith, ?_⟩
    rcases Nat.eq_zero_or_pos r with h0 | h0
    · exact .inl (by exact_mod_cast h0)
    · zify at h0
      exact .inr (by nlinarith)

end Sys2Proof.Machine
end

section
namespace Sys2Proof.Machine
open Sys2Proof

/-! ### VADD, VSUB and VMUL (R87) -/

theorem laneOp_eq {i : Fields} (c : Core) (e : Env) (f : W32 → W32 → W32 × Bool) (wm : wmOf i ≠ 3) :
    laneOp i c e f false = finish c .vk i (wmOf i)
      (f (readSrc c e .vks i.a).1.x (readB c e i true true false).1.1) (f (readSrc c e .vks i.a).1.y (readB c e i true true false).1.2)
      (readB c e i true true false).2.1 ((readSrc c e .vks i.a).2 ++ (readB c e i true true false).2.2) := if_neg wm

/-- The wrapping form negates B itself, and its negation sets no SAT (log 114). -/
theorem laneOp_wraps_eq {i : Fields} (c : Core) (e : Env) (f : W32 → W32 → W32 × Bool) (wm : wmOf i ≠ 3) :
    laneOp i c e f true = finish c .vk i (wmOf i)
      (f (readSrc c e .vks i.a).1.x (if i.mod.getLsbD 3 then -(readB c e i true false false).1.1 else (readB c e i true false false).1.1))
      (f (readSrc c e .vks i.a).1.y (if i.mod.getLsbD 3 then -(readB c e i true false false).1.2 else (readB c e i true false false).1.2))
      (false, false) ((readSrc c e .vks i.a).2 ++ (readB c e i true false false).2.2) := if_neg wm

theorem effVadd_saturating {i : Fields} (c : Core) (e : Env) (h : i.mod.getLsbD 2 = false) :
    effVadd i c e = laneOp i c e (fun x y => sat32 (x.toInt + y.toInt)) false := if_neg (Bool.eq_false_iff.1 h)
theorem effVadd_wrapping {i : Fields} (c : Core) (e : Env) (h : i.mod.getLsbD 2 = true) :
    effVadd i c e = laneOp i c e (fun x y => (x + y, false)) true := if_pos h
theorem effVsub_saturating {i : Fields} (c : Core) (e : Env) (h : i.mod.getLsbD 2 = false) :
    effVsub i c e = laneOp i c e (fun x y => sat32 (x.toInt - y.toInt)) false := if_neg (Bool.eq_false_iff.1 h)
theorem effVsub_wrapping {i : Fields} (c : Core) (e : Env) (h : i.mod.getLsbD 2 = true) :
    effVsub i c e = laneOp i c e (fun x y => (x - y, false)) true := if_pos h

/-- The product is taken over 2^30, or over 2^24 with W. -/
theorem effVmul_eq (i : Fields) (c : Core) (e : Env) : effVmul i c e =
    laneOp i c e (fun x y => sat32 (shrRound (x.toInt * y.toInt) (if i.mod.getLsbD 2 then 24 else 30))) false := by
  unfold effVmul
  split
  · next h => simp only [roundDiv_two_pow _ 24 (by decide)]
  · next h => simp only [roundDiv_two_pow _ 30 (by decide)]

/-- Settles O2: each row is its lane operation, lane by lane. -/
theorem laneArithmetic : Obligations.LaneArithmetic := by
  unfold Obligations.LaneArithmetic
  intro n e i s h wm c a b b0 ng mul sat res wrap
  refine ⟨fun hi => ⟨?_, ?_⟩, fun hi => ⟨?_, ?_⟩, ?_⟩
  · exact runs_saturating h rfl rfl ((effVadd_saturating _ _ hi).trans (laneOp_eq _ _ _ wm))
  · exact runs_saturating h rfl rfl ((effVsub_saturating _ _ hi).trans (laneOp_eq _ _ _ wm))
  · exact runs_wrapping h rfl rfl ((effVadd_wrapping _ _ hi).trans (laneOp_wraps_eq _ _ _ wm))
  · exact runs_wrapping h rfl rfl ((effVsub_wrapping _ _ hi).trans (laneOp_wraps_eq _ _ _ wm))
  · exact runs_saturating h rfl rfl ((effVmul_eq _ _ _).trans (laneOp_eq _ _ _ wm))

/-! ### CMUL, CROSS, DOT and MAG (R88) -/

/-- A result in lane x of two V sources. -/
theorem scalarOp_two (i : Fields) (c : Core) (e : Env) (f : Int → Int → Int → Int → W32 × Bool) :
    let a := readSrc c e (.v 31) i.a
    let b := readSrc c e (.v 31) i.b
    scalarOp i c e true f =
      finish c .vk i 0 (f a.1.x.toInt a.1.y.toInt b.1.x.toInt b.1.y.toInt) (0, false) (false, false) (a.2 ++ b.2) := rfl

/-- A result in lane x of one V source. -/
theorem scalarOp_one (i : Fields) (c : Core) (e : Env) (f : Int → Int → W32 × Bool) :
    let a := readSrc c e (.v 31) i.a
    scalarOp i c e false (fun ax ay _ _ => f ax ay) =
      finish c .vk i 0 (f a.1.x.toInt a.1.y.toInt) (0, false) (false, false) (a.2 ++ []) := rfl

/-- The squares of two lanes stay in the range of the integer root. -/
theorem sum_squares_lt (x y : W32) : (x.toInt * x.toInt + y.toInt * y.toInt).toNat < 2 ^ 256 := by
  have hsq : ∀ z : W32, z.toInt * z.toInt ≤ 2 ^ 62 := fun z => by
    have h1 := z.le_toInt
    have h2 := z.toInt_lt
    norm_num at h1 h2
    nlinarith
  have hle : (x.toInt * x.toInt + y.toInt * y.toInt).toNat ≤ 2 ^ 63 := by have := hsq x; have := hsq y; omega
  exact hle.trans_lt (by norm_num)

/-- Settles O3: the products by their equations, the root by `nearestRoot_nearest`. -/
theorem complexProducts : Obligations.ComplexProducts := by
  unfold Obligations.ComplexProducts
  intro n e i s h c en a b p q
  refine ⟨fun wm => ?_, ?_, ?_, ?_⟩
  · exact (runs_lanes h rfl rfl (if_neg wm) (round60_fst _) (round60_fst _)).imp fun _ ht => ht.1
  · exact (runs_lanes h rfl rfl (scalarOp_two i c en _) (round60_fst _) rfl).imp fun _ ht => ht.1
  · exact (runs_lanes h rfl rfl (scalarOp_two i c en _) (round60_fst _) rfl).imp fun _ ht => ht.1
  · have hroot := nearestRoot_nearest (sum_squares_lt p.x p.y)
    rw [Int.toNat_of_nonneg (add_nonneg (mul_self_nonneg _) (mul_self_nonneg _))] at hroot
    exact (runs_lanes h rfl rfl (scalarOp_one i c en _) (sat32_fst _) rfl).imp fun _ ht => ⟨ht.1, hroot⟩

/-! ### INTEG, FILT and LIM (R91, R96) -/

/-- The range that LIM clamps to: plus and minus the magnitude of IMM under I, else B. -/
def limLo (i : Fields) (b : Src) : Int := if i.mod.getLsbD 5 then -(i.imm.toInt.natAbs : Int) else b.x.toInt
def limHi (i : Fields) (b : Src) : Int := if i.mod.getLsbD 5 then (i.imm.toInt.natAbs : Int) else b.y.toInt

/-- One lane of LIM. -/
def limLane (i : Fields) (b : Src) (v : W32) : W32 :=
  if limLo i b > limHi i b then Config.limEmpty v b.x b.y
  else if v.toInt > limHi i b then BitVec.ofInt 32 (limHi i b) else if v.toInt < limLo i b then BitVec.ofInt 32 (limLo i b) else v

/-- Whether an evaluated lane of A lies above, or below, the range. -/
def limAbove (i : Fields) (a b : Src) : Bool :=
  (wmX (wmOf i) && decide (a.x.toInt > limHi i b)) || (wmY (wmOf i) && decide (a.y.toInt > limHi i b))
def limBelow (i : Fields) (a b : Src) : Bool :=
  (wmX (wmOf i) && decide (a.x.toInt < limLo i b)) || (wmY (wmOf i) && decide (a.y.toInt < limLo i b))

/-- The target flags of LIM. -/
def limFlags (tgt : Nat) (f : W32) (high low : Bool) : W32 :=
  match tgt with
  | 0 => fPut (fPut f fLIMH high) fLIML low
  | 1 => fPut (fPut f fU0 high) (fU0 + 1) low
  | 2 => fPut (fPut f (fU0 + 2) high) (fU0 + 3) low
  | _ => fPut f fVLIM high

/-- LIM with a legal write mask and target. -/
theorem effLim_eq {i : Fields} (c : Core) (e : Env) (wm : wmOf i ≠ 3) (ht : i.mod.toNat / 4 % 8 < 4) :
    let a := readSrc c e .vks i.a
    let b := readSrc c e .vks i.b
    let w := writeLanes c .vk i.dst (wmOf i) (limLane i b.1 a.1.x) (limLane i b.1 a.1.y)
    effLim i c e = Res.of { w.1 with f := limFlags (i.mod.toNat / 4 % 8) c.f (limAbove i a.1 b.1) (limBelow i a.1 b.1) }
      (a.2 ++ (if i.mod.getLsbD 5 then [] else b.2) ++ w.2) := by
  have habs : (if i.imm.toInt < 0 then -i.imm.toInt else i.imm.toInt) = (i.imm.toInt.natAbs : Int) := by omega
  unfold effLim
  rw [if_neg (by omega)]
  simp only [habs, writeLanes_with_f]
  rfl

/-- Each target takes the high and the low result in its own bits. -/
theorem limFlags_getLsbD (f : W32) (high low : Bool) :
    ((limFlags 0 f high low).getLsbD fLIMH = high ∧ (limFlags 0 f high low).getLsbD fLIML = low) ∧
    ((limFlags 1 f high low).getLsbD 24 = high ∧ (limFlags 1 f high low).getLsbD 25 = low) ∧
    ((limFlags 2 f high low).getLsbD 26 = high ∧ (limFlags 2 f high low).getLsbD 27 = low) ∧
    (limFlags 3 f high low).getLsbD fVLIM = high := by
  refine ⟨⟨(fPut_getLsbD_ne _ ?_ ?_ _).trans (fPut_getLsbD_same _ ?_ _), fPut_getLsbD_same _ ?_ _⟩,
    ⟨(fPut_getLsbD_ne _ ?_ ?_ _).trans (fPut_getLsbD_same _ ?_ _), fPut_getLsbD_same _ ?_ _⟩,
    ⟨(fPut_getLsbD_ne _ ?_ ?_ _).trans (fPut_getLsbD_same _ ?_ _), fPut_getLsbD_same _ ?_ _⟩, fPut_getLsbD_same _ ?_ _⟩ <;> decide

/-- Settles O7: INTEG and FILT write rounded lanes; LIM by `effLim_eq`. -/
theorem filtersAndClamp : Obligations.FiltersAndClamp := by
  unfold Obligations.FiltersAndClamp
  intro n e i s h c en a g fb o integ filt b m lo hi lim tgt high low
  refine ⟨?_, fun wm => ?_, fun wm ht => ?_⟩
  · exact (runs_lanes h rfl rfl rfl (round60_fst _) (round60_fst _)).imp fun _ ht => ht.1
  · exact (runs_lanes h rfl rfl (if_neg wm) (round60_fst _) (round60_fst _)).imp fun _ ht => ht.1
  · have heff := effLim_eq c en wm ht
    obtain ⟨h0, h1, h2, h3⟩ := limFlags_getLsbD c.f high low
    refine runs_engine h rfl rfl ⟨State.retire_lanes (by rw [heff]; exact ⟨rfl, rfl⟩), ?_⟩
    have hflag : ∀ b : Nat, b ≠ fEXC → ((s.retire n e 1 (effLim i c en)).eng e).core.f.getLsbD b = (limFlags tgt c.f high low).getLsbD b :=
      fun b hb => (State.retire_flag hb).trans (by rw [heff]; rfl)
    refine ⟨fun e0 => ?_, fun e1 => ?_, fun e2 => ?_, fun e3 => ?_⟩
    · rw [hflag _ (by decide), hflag _ (by decide), e0]; exact h0
    · rw [hflag _ (by decide), hflag _ (by decide), e1]; exact h1
    · rw [hflag _ (by decide), hflag _ (by decide), e2]; exact h2
    · rw [hflag _ (by decide), e3]; exact h3

/-! ### Reserved modifiers (R78, R96) -/

/-- An instruction with a reserved modifier writes nothing and raises MODE. -/
theorem runs_modeStop {I : Instr} {opc : Nat} {r : Res} {n : Ax} {e : Eng} {i : Fields} {s : State} {cls : Cls}
    (h : s.ready n = some e) (hx : exec I s = .next (s.engineRun n opc i))
    (hr : effectOf opc i s n (s.eng e).core ((s.ax n).env n) = some (1, r))
    (hf : r = modeStop i (s.eng e).core ((s.ax n).env n) cls) :
    Runs I s (fun t => EngineFrame s t n e ∧
      TickNext s t n e 1 [] ((readSrc (s.eng e).core ((s.ax n).env n) .vks i.a).2 ++
        (readB (s.eng e).core ((s.ax n).env n) i false false false).2.2 ++ [excMODE] ++ (if cls.allows i.dst then [] else [excOPERAND])) ∧
      PcNext s t n e ∧ (t.eng e).core.v = (s.eng e).core.v ∧ (t.eng e).core.k = (s.eng e).core.k ∧
      (t.eng e).core.f = (s.eng e).core.f ||| 0x10000000) := by
  subst hf
  refine runs_engine h hx hr ⟨State.retire_frame, State.retire_tick rfl, State.retire_pcNext rfl rfl rfl rfl, State.retire_v, State.retire_k, ?_⟩
  rw [State.retire_f, fSet_exc, if_neg (by simp [modeStop, Res.of])]
  rfl

theorem laneOp_reserved {i : Fields} {c : Core} {e : Env} {f : W32 → W32 → W32 × Bool} {wraps : Bool} (wm : wmOf i = 3) :
    laneOp i c e f wraps = modeStop i c e .vk := if_pos wm

/-- Settles O8: each of the rows stops with MODE. -/
theorem reservedModifiers : Obligations.ReservedModifiers := by
  unfold Obligations.ReservedModifiers
  intro n e i s h c en res
  refine ⟨fun wm => ?_, fun ht => runs_modeStop h rfl rfl (if_pos (.inr ht))⟩
  have hadd : effVadd i c en = modeStop i c en .vk := by unfold effVadd; split <;> exact laneOp_reserved wm
  have hsub : effVsub i c en = modeStop i c en .vk := by unfold effVsub; split <;> exact laneOp_reserved wm
  simp only [List.forall_mem_cons]
  refine ⟨?_, ?_, ?_, ?_, ?_, ?_, List.forall_mem_nil _⟩
  · exact runs_modeStop h rfl rfl hadd
  · exact runs_modeStop h rfl rfl hsub
  · exact runs_modeStop h rfl rfl ((effVmul_eq i c en).trans (laneOp_reserved wm))
  · exact runs_modeStop h rfl rfl (if_pos wm)
  · exact runs_modeStop h rfl rfl (if_pos wm)
  · exact runs_modeStop h rfl rfl (if_pos (.inl wm))

/-! ### HYST (R92) -/

/-- Settles O9: the two comparators by their equations, the flags bit by bit. -/
theorem hystComparators : Obligations.HystComparators := by
  unfold Obligations.HystComparators
  intro n e i s h c en a b m d1 h1 flx top bot r d2 h2 o o2
  refine ⟨fun hm => ?_, fun hm => ?_⟩
  · have heq : effHyst i c en = finish { c with f := fPut c.f fFLX flx } .vk i 0 (sat32 d1) (if flx then 0x40000000 else 0, false)
        (false, false) ((readSrc c en (.v 31) i.a).2 ++ (readSrc c en .vks i.b).2) := if_neg (Bool.eq_false_iff.1 hm)
    refine runs_engine h rfl (congrArg (fun r => some (1, r)) heq) ⟨?_, ?_, ?_, ?_, ?_⟩
    · rw [← sat32_fst]; exact State.retire_finish_lanes
    · exact (State.retire_finish_flag (by decide) (by decide)).trans (fPut_getLsbD_same _ (by decide) _)
    · exact (State.retire_finish_flag (by decide) (by decide)).trans (fPut_getLsbD_ne _ (by decide) (by decide) _)
    · exact (State.retire_finish_flag (by decide) (by decide)).trans (fPut_getLsbD_ne _ (by decide) (by decide) _)
    · rw [State.retire_finish_sat, fPut_getLsbD_ne _ (by decide) (by decide), sat32_snd]
      simp [satOf, wmX]
  · have heq : effHyst i c en = finish
        { c with f := fPut (fPut (fSet c.f fTLIM (decide (r ≠ a.x.toInt))) fTRQI (decide (o2 = 1))) fTRQD (decide (o2 = -1)) } .vk i 0
        (sat32 d2) (if o2 = 1 then 0x40000000 else if o2 = -1 then 0xC0000000 else 0, false) (false, false)
        ((readSrc c en (.v 31) i.a).2 ++ (readSrc c en .vks i.b).2) := if_pos hm
    refine runs_engine h rfl (congrArg (fun r => some (1, r)) heq) ⟨?_, ?_, ?_, ?_, ?_⟩
    · rw [← sat32_fst]; exact State.retire_finish_lanes
    · rw [State.retire_finish_flag (by decide) (by decide), fPut_getLsbD_ne _ (by decide) (by decide), fPut_getLsbD_same _ (by decide)]
    · rw [State.retire_finish_flag (by decide) (by decide), fPut_getLsbD_same _ (by decide)]
    · rw [State.retire_finish_flag (by decide) (by decide), fPut_getLsbD_ne _ (by decide) (by decide),
        fPut_getLsbD_ne _ (by decide) (by decide), fSet_getLsbD_ne _ (by decide)]
    · rw [State.retire_finish_flag (by decide) (by decide), fPut_getLsbD_ne _ (by decide) (by decide),
        fPut_getLsbD_ne _ (by decide) (by decide), fSet_getLsbD_same _ (by decide)]

/-! ### PI (R97) -/

/-- A value cut at a limit and at its negative. -/
theorem cut_eq_clamp {l : Int} (hl : 0 ≤ l) (x : Int) : (if x > l then l else if x < -l then -l else x) = max (-l) (min l x) := by
  split
  · omega
  · split <;> omega

theorem getD_toList_eq (k : Vector W32 16) (j : Nat) (h : j < 16) (d : W32) : k.toList.getD j d = k[(⟨j, h⟩ : Fin 16)] := by
  simp [List.getD, h]

/-- Settles O11: PI by its equation, each cut as a clamp. -/
theorem piController : Obligations.PiController := by
  unfold Obligations.PiController
  intro n e i s h c en a b er l st c1 u1 c2 c3 u2
  have hl : 0 ≤ l := by positivity
  have hlim : (if (c.k.toList.getD (i.mod.toNat % 16) 0).toInt < 0 then -(c.k.toList.getD (i.mod.toNat % 16) 0).toInt
      else (c.k.toList.getD (i.mod.toNat % 16) 0).toInt) * 2 ^ 30 = l := by
    rw [getD_toList_eq _ _ (Nat.mod_lt _ (by decide))]
    congr 1
    split <;> omega
  have heq : effPi i c en = finish { c with f := fSet (fSet c.f fLIMH (decide (u2 > l))) fLIML (decide (u2 < -l)) } (.v 31) i 0
      (round60 (max (-l) (min l u2))) (round60 c3) (false, false) ((readSrc c en .vks i.a).2 ++ (readSrc c en .vks i.b).2) := by
    simp only [effPi, hlim, decide_eq_true_eq, cut_eq_clamp hl]
    rfl
  refine runs_engine h rfl (congrArg (fun r => some (1, r)) heq) ⟨?_, ?_, ?_⟩
  · rw [← round60_fst, ← round60_fst]; exact State.retire_finish_lanes
  · rw [State.retire_finish_flag (by decide) (by decide), fSet_getLsbD_ne _ (by decide), fSet_getLsbD_same _ (by decide)]
  · rw [State.retire_finish_flag (by decide) (by decide), fSet_getLsbD_same _ (by decide), fSet_getLsbD_ne _ (by decide)]

end Sys2Proof.Machine
end

section
namespace Sys2Proof.Machine
open Sys2Proof

/-! ### Where control goes (R83) -/

section
variable {l : BitVec 13 × BitVec 13} {c : Core} {u : BitVec 13} {ret : Bool}

/-- Control elsewhere than past the end of the body goes to its target. -/
theorem nextPc_elsewhere (h : ¬(u = l.2 + 1 ∧ (c.pc = l.2 ∨ ret = true))) : nextPc (some l) c u ret = ({ c with pc := u }, some l) :=
  if_neg h

/-- At the end of the body the loop runs again while LC is above 1. -/
theorem nextPc_again (h : u = l.2 + 1 ∧ (c.pc = l.2 ∨ ret = true)) (hlc : 1 < c.lc) :
    nextPc (some l) c u ret = ({ c with pc := l.1, lc := c.lc - 1 }, some l) := (if_pos h).trans (if_pos hlc)

/-- With LC of 1 or 0 the loop ends. -/
theorem nextPc_last (h : u = l.2 + 1 ∧ (c.pc = l.2 ∨ ret = true)) (hlc : ¬ 1 < c.lc) :
    nextPc (some l) c u ret = ({ c with pc := u }, none) := (if_pos h).trans (if_neg hlc)

end

/-- The rule of R83 at a word that leads to u, in the terms of `Control`. -/
theorem control_of_nextPc {s t : State} {n : Ax} {e : Eng} {c : Core} {u : BitVec 13} {ret : Bool}
    (hpc : c.pc = (s.eng e).core.pc) (hlc : c.lc = (s.eng e).core.lc)
    (hcore : (t.eng e).core = (nextPc (s.ax n).run.loop c u ret).1) (hloop : (t.ax n).run.loop = (nextPc (s.ax n).run.loop c u ret).2) :
    Control s t n e u ret := by
  unfold Control
  dsimp only
  rw [hcore, hloop, ← hpc, ← hlc]
  cases (s.ax n).run.loop with
  | none => simp [nextPc]
  | some l =>
    by_cases hend : u = l.2 + 1 ∧ (c.pc = l.2 ∨ ret = true)
    · have hends : (some l).any (fun l => u == l.2 + 1 && (c.pc == l.2 || ret)) = true := by simpa using hend
      rw [hends]
      by_cases hlc1 : 1 < c.lc
      · rw [nextPc_again hend hlc1]
        exact ⟨fun _ _ k hk => by cases hk; exact ⟨rfl, rfl, rfl⟩, fun _ hle => absurd hlc1 (BitVec.not_lt.2 hle), nofun⟩
      · rw [nextPc_last hend hlc1]
        exact ⟨fun _ hgt => absurd hgt hlc1, fun _ _ => ⟨rfl, rfl, rfl⟩, nofun⟩
    · have hends : (some l).any (fun l => u == l.2 + 1 && (c.pc == l.2 || ret)) = false := by
        rw [Bool.eq_false_iff]; simpa using hend
      rw [hends, nextPc_elsewhere hend]
      exact ⟨nofun, nofun, fun _ => ⟨rfl, rfl, rfl⟩⟩

section
variable {s : State} {n : Ax} {e : Eng} {r : Res}

/-- An instruction that opens no loop and does not wait follows R83 to its target. -/
theorem State.retire_control {cyc : Nat} (hw : r.wait = none) (hl : r.loop = none) (hpc : r.core.pc = (s.eng e).core.pc)
    (hlc : r.core.lc = (s.eng e).core.lc) :
    Control s (s.retire n e cyc r) n e (r.jump.getD ((s.eng e).core.pc + 1)) r.ret := by
  have hm := State.retire_moves (s := s) (n := n) (e := e) (cyc := cyc) hw
  rw [hl] at hm
  exact control_of_nextPc (c := r.flagged) hpc hlc hm.1 hm.2

/-- What every row of one cycle that writes no V and no K register leaves (R79). -/
theorem State.retire_ran (hrun : (s.ax n).run.wait = none) (hw : r.wait = none) (hp : r.pred = none) (hla : r.latch = none)
    (hc : r.core = { (s.eng e).core with lc := r.core.lc }) :
    Ran s (s.retire n e 1 r) n e r.ent r.exc := by
  have hf : r.core.f = (s.eng e).core.f := by rw [hc]
  refine ⟨State.retire_frame, State.retire_tick (by rw [hf]), ?_, ?_⟩
  · rw [State.retire_core, Res.flagged, fSet_exc, hc]
  · rw [State.retire_run, hw, hp, hla]
    simp [hrun]

end

/-- A row of one cycle that writes no V and no K register, with where control goes. -/
theorem runs_ran {I : Instr} {opc : Nat} {i : Fields} {s : State} {n : Ax} {e : Eng} {r : Res} (h : s.ready n = some e)
    (hx : exec I s = .next (s.engineRun n opc i)) {r' : Res} (hr : effectOf opc i s n (s.eng e).core ((s.ax n).env n) = some (1, r'))
    (hf : r' = r) (hw : r.wait = none) (hl : r.loop = none) (hp : r.pred = none) (hla : r.latch = none) (hc : r.core = (s.eng e).core) :
    Runs I s (fun t => Ran s t n e r.ent r.exc ∧ Control s t n e (r.jump.getD ((s.eng e).core.pc + 1)) r.ret) :=
  runs_engine h hx (hr.trans (congrArg (fun r => some (1, r)) hf)) ⟨State.retire_ran (State.ready_wait h) hw hp hla (by rw [hc]),
    State.retire_control hw hl (by rw [hc]) (by rw [hc])⟩

/-! ### CALL and RET (R82) -/

/-- Where control lands, as one case split: the body's first word while LC is above 1, else the target. -/
theorem nextPc_lands (lp : Option (BitVec 13 × BitVec 13)) (c : Core) (u : BitVec 13) (ret : Bool) :
    (nextPc lp c u ret).1 = if (∃ l ∈ lp, u = l.2 + 1 ∧ (c.pc = l.2 ∨ ret = true)) ∧ 1 < c.lc
      then { c with pc := (lp.getD (0, 0)).1, lc := c.lc - 1 } else { c with pc := u } := by
  cases lp with
  | none => simp [nextPc]
  | some l =>
    by_cases hend : u = l.2 + 1 ∧ (c.pc = l.2 ∨ ret = true)
    · by_cases hlc : 1 < c.lc
      · rw [nextPc_again hend hlc, if_pos ⟨⟨l, rfl, hend⟩, hlc⟩]; rfl
      · rw [nextPc_last hend hlc, if_neg fun h => hlc h.2]
    · rw [nextPc_elsewhere hend, if_neg]
      rintro ⟨⟨k, hk, hk2⟩, -⟩
      cases hk
      exact hend hk2

/-- A jump of one cycle that raises nothing. -/
theorem runs_jump {I : Instr} {opc : Nat} {i : Fields} {s : State} {n : Ax} {e : Eng} {c1 : Core} {u : BitVec 13} {ret : Bool}
    (h : s.ready n = some e) (hx : exec I s = .next (s.engineRun n opc i))
    (hr : effectOf opc i s n (s.eng e).core ((s.ax n).env n) = some (1, { core := c1, jump := some u, ret := ret })) :
    Runs I s (fun t => EngineFrame s t n e ∧ (t.ax n).run.cyc = (s.ax n).run.cyc + 1 ∧ (t.ax n).run.buf = (s.ax n).run.buf ∧
      (t.eng e).core = (nextPc (s.ax n).run.loop { c1 with f := fSet c1.f fEXC false } u ret).1) := by
  refine runs_engine h hx hr ⟨State.retire_frame, ?_, ?_, (State.retire_moves rfl).1⟩
  · rw [State.retire_run]
  · rw [State.retire_run]; exact List.append_nil _

/-- Settles O15: both rows jump; `nextPc_lands` says where. -/
theorem callAndReturn : Obligations.CallAndReturn := by
  unfold Obligations.CallAndReturn
  intro n e i s h c lp lands one
  refine ⟨(runs_jump h rfl rfl).imp ?_, (runs_jump h rfl rfl).imp ?_⟩
  all_goals
    rintro t ⟨hframe, hcyc, hbuf, hcore⟩
    refine ⟨hframe, hcyc, hbuf, ?_⟩
    rw [hcore, nextPc_lands]
    dsimp only [lands]
    split <;> rfl

/-! ### BR, STEP, LOOP and WAIT (R80, R81, R83, R84) -/

/-- LOOP goes to the next word whatever its body: a body that ends at the LOOP itself begins at the next word too. -/
theorem nextPc_loop (c : Core) (last : BitVec 13) :
    (nextPc (some (c.pc + 1, last)) c (c.pc + 1) false).1.pc = c.pc + 1 ∧
    (last ≠ c.pc → nextPc (some (c.pc + 1, last)) c (c.pc + 1) false = ({ c with pc := c.pc + 1 }, some (c.pc + 1, last))) := by
  refine ⟨?_, fun h => nextPc_elsewhere fun hend => h (add_right_cancel hend.1).symm⟩
  by_cases hend : c.pc + 1 = last + 1 ∧ (c.pc = last ∨ false = true)
  · by_cases hlc : 1 < c.lc
    · rw [nextPc_again hend hlc]
    · rw [nextPc_last hend hlc]
  · rw [nextPc_elsewhere hend]

/-- The clamped index of STEP, with INDEX where the clamp changed it. -/
theorem effStep_eq {i : Fields} (ax : Axis) (c : Core) (e : Env) (hk : 1 ≤ i.imm.toNat % 1024) :
    let a := readSrc c e .vks i.a
    let j : Int := max 0 (min (((i.imm.toNat % 1024 : Nat) : Int) - 1) a.1.x.toInt)
    effStep i ax c e =
      { core := c
        exc := a.2 ++ (if j = a.1.x.toInt then [] else [excINDEX])
        jump := some ((ax.pword (c.pc + 1 + BitVec.ofNat 13 j.toNat).toNat).setWidth 13) } := by
  intro a j
  have hj : (if a.1.x.toInt < 0 then 0 else if a.1.x.toInt > ((i.imm.toNat % 1024 : Nat) : Int) - 1
      then ((i.imm.toNat % 1024 : Nat) : Int) - 1 else a.1.x.toInt) = j := by
    dsimp only [j]
    split
    · omega
    · split <;> omega
  have hx : (if a.1.x.toInt < 0 ∨ a.1.x.toInt > ((i.imm.toNat % 1024 : Nat) : Int) - 1 then [excINDEX] else []) =
      if j = a.1.x.toInt then [] else [excINDEX] := by
    split
    · rw [if_neg (by omega)]
    · rw [if_pos (by omega)]
  rw [← hx, ← hj]
  rfl

/-- A halt keeps the registers and the tick, and freezes the island. -/
theorem State.haltNow_parts {s : State} {n : Ax} {e : Eng} (h : (s.ax n).engine = some e) :
    (s.haltNow n).eng e = { s.eng e with pool := .halted } ∧ ((s.haltNow n).ax n).run = (s.ax n).run ∧
    ((s.haltNow n).ax n).halted = true ∧ ((s.haltNow n).ax n).haltReq = false ∧
    ((s.haltNow n).ax n).get AX_PTSTAT_FROZEN = 1 := by
  simp only [State.haltNow, h, State.modAx_eng, State.modEng_eng_same, State.modAx_ax_same, State.modEng_ax, true_and]
  exact ⟨rfl, Axis.put_get_same _ AX_PTSTAT_FROZEN 1 (by decide)⟩

/-- The end of a WAIT before a requested halt takes effect (R80). -/
def State.waitOver (s : State) (n : Ax) (e : Eng) (c : Nat) : State :=
  let nx := nextPc (s.ax n).run.loop (s.eng e).core ((s.eng e).core.pc + 1) false
  (s.modEng e (fun x => { x with core := nx.1 })).modAx n
    (fun a => { a with run := { a.run with wait := none, cyc := a.run.cyc + c, loop := nx.2 } })

section
variable {s : State} {n : Ax} {e : Eng} {c : Nat}

theorem State.endWait_eq (h : (s.ax n).engine = some e) :
    s.endWait n c = if (s.ax n).haltReq then (s.waitOver n e c).haltNow n else s.waitOver n e c := by
  simp only [State.endWait, h, State.modAx_ax_same, State.modEng_ax]
  rfl

theorem State.waitOver_eng : (s.waitOver n e c).eng e =
    { s.eng e with core := (nextPc (s.ax n).run.loop (s.eng e).core ((s.eng e).core.pc + 1) false).1 } := by
  simp only [State.waitOver, State.modAx_eng, State.modEng_eng_same]

theorem State.waitOver_ax : (s.waitOver n e c).ax n = { s.ax n with run := { (s.ax n).run with
    wait := none, cyc := (s.ax n).run.cyc + c
    loop := (nextPc (s.ax n).run.loop (s.eng e).core ((s.eng e).core.pc + 1) false).2 } } := by
  simp only [State.waitOver, State.modAx_ax_same, State.modEng_ax]

theorem State.waitOver_frame : EngineFrame s (s.waitOver n e c) n e := by
  refine ⟨rfl, fun d hd => ?_, by rw [State.waitOver_eng], fun m hm => ?_, by rw [State.waitOver_ax]⟩
  · exact (State.modAx_eng _ _ _ _).trans (State.modEng_eng_ne s hd _)
  · exact (State.modAx_ax_ne _ hm _).trans (State.modEng_ax s e _ m)

/-- The registers and the tick after a WAIT, halted or not. -/
theorem State.endWait_parts (h : (s.ax n).engine = some e) :
    ((s.endWait n c).eng e).core = ((s.waitOver n e c).eng e).core ∧ ((s.endWait n c).ax n).run = ((s.waitOver n e c).ax n).run := by
  obtain ⟨heng, hrun, -⟩ := State.haltNow_parts (s := s.waitOver n e c) (by rw [State.waitOver_ax]; exact h)
  rw [State.endWait_eq h]
  split
  · exact ⟨by rw [heng], hrun⟩
  · exact ⟨rfl, rfl⟩

end

/-- A WAIT ends once its T base ticks have passed. -/
theorem execWaitTimeout_due {s : State} {n : Ax} {w : Byte × Nat × Nat} (hw : (s.ax n).run.wait = some w) (hrun : (s.ax n).run.running = true)
    (h : w.2.2 + w.2.1 ≤ s.clk) : exec (.waitTimeout n) s = .next (s.endWait n w.2.1) := by
  simp only [exec, execWaitTimeout, hw]
  exact if_pos ⟨hrun, h⟩

theorem execWaitTimeout_early {s : State} {n : Ax} {w : Byte × Nat × Nat} (hw : (s.ax n).run.wait = some w) (h : s.clk < w.2.2 + w.2.1) :
    exec (.waitTimeout n) s = .next s := by
  simp only [exec, execWaitTimeout, hw]
  exact if_neg fun hd => Nat.not_le.2 h hd.2

/-- Settles O16: the rows by `runs_ran`, LOOP by `nextPc_loop`, a WAIT in progress by the end of a WAIT. -/
theorem branching : Obligations.Branching := by
  unfold Obligations.Branching
  intro n e i s c r a tgt k j bit mask waits
  refine ⟨fun h => ⟨?_, fun hk => ?_, ?_, fun hev => ?_, fun hev => ?_⟩, fun w hw hrun he => ⟨fun hdue => ?_, fun hearly => ?_⟩⟩
  · by_cases hb : bit = i.mod.getLsbD 5
    · have heff : effBr i c = { core := c } := if_neg (fun hne => (bne_iff_ne.1 hne) hb)
      rw [if_pos hb]
      exact runs_ran h rfl rfl heff rfl rfl rfl rfl rfl
    · have heff : effBr i c = { core := c, jump := some tgt } := if_pos (bne_iff_ne.2 hb)
      rw [if_neg hb]
      exact runs_ran h rfl rfl heff rfl rfl rfl rfl rfl
  · have heff := effStep_eq (s.ax n) c ((s.ax n).env n) hk
    exact runs_ran h rfl rfl heff rfl rfl rfl rfl rfl
  · have hmv := State.retire_moves (s := s) (n := n) (e := e) (cyc := 1) (r := effLoop i c) rfl
    obtain ⟨hpc, hopen⟩ := nextPc_loop (effLoop i c).flagged tgt
    refine runs_engine h rfl rfl ⟨State.retire_ran (State.ready_wait h) rfl rfl rfl rfl, ?_, fun ht => ⟨?_, ?_⟩⟩
    · rw [hmv.1]; exact hpc
    · rw [hmv.1]; exact congrArg (fun p => p.1.lc) (hopen ht)
    · rw [hmv.2]; exact congrArg Prod.snd (hopen ht)
  · have heff : effWait i c = { core := c } := if_pos hev
    exact runs_ran h rfl rfl heff rfl rfl rfl rfl rfl
  · have heff : effWait i c = { core := c, wait := some (mask, i.imm.toNat % 4096) } := if_neg (not_not.2 hev)
    have hst := State.retire_waiting (s := s) (n := n) (e := e) (cyc := 1) (r := effWait i c) (by rw [heff]; rfl)
    refine runs_engine h rfl rfl ⟨?_, ?_, State.retire_frame⟩
    · rw [hst.1, heff]; rfl
    · rw [State.retire_run, hst.2, heff]; simp [r]
  · obtain ⟨hcore, htick⟩ := State.endWait_parts (c := w.2.1) he
    refine runs_of_exec (execWaitTimeout_due hw hrun hdue) ⟨?_, ?_, ?_, fun hq => ?_, fun hq => ?_⟩
    · exact control_of_nextPc rfl rfl (by rw [hcore, State.waitOver_eng]) (by rw [htick, State.waitOver_ax])
    · rw [htick, State.waitOver_ax]
    · rw [hcore, State.waitOver_eng]; exact nextPc_core _ _ _ _
    · obtain ⟨heng, -, hhalt, hreq, hfroz⟩ := State.haltNow_parts (s := s.waitOver n e w.2.1) (by rw [State.waitOver_ax]; exact he)
      rw [State.endWait_eq he, if_pos hq]
      exact ⟨hhalt, by rw [heng], hreq, hfroz⟩
    · rw [State.endWait_eq he, if_neg (Bool.eq_false_iff.1 hq)]
      exact State.waitOver_frame
  · exact runs_of_exec (execWaitTimeout_early hw hearly) rfl

end Sys2Proof.Machine
end

section
namespace Sys2Proof.Machine
open Sys2Proof

/-! ### The place in a table (R98) -/

/-- The place of an input in the table axis with header w. -/
def lutAt (w : W64) (x : Int) : Nat × Nat × Bool × Bool := lutIndex x (lutN w) (lutS w) (lut0 w)

theorem lutAt_below {w : W64} {x : Int} (h : x - lut0 w < 0) : lutAt w x = (0, 0, false, true) := if_pos h

theorem lutAt_above {w : W64} {x : Int} (h : x - lut0 w > lutN w * 2 ^ lutS w) : lutAt w x = (lutN w, 0, true, false) :=
  (if_neg (not_lt.2 ((by positivity : (0 : Int) ≤ _).trans h.le))).trans (if_pos h)

/-- An input within the range names the entry below it and the fraction towards the next. -/
theorem lutAt_inside {w : W64} {x : Int} (h0 : 0 ≤ x - lut0 w) (h1 : x - lut0 w ≤ lutN w * 2 ^ lutS w) :
    lutAt w x = (((x - lut0 w) / 2 ^ lutS w).toNat, ((x - lut0 w) % 2 ^ lutS w).toNat, false, false) := by
  refine (if_neg (not_lt.2 h0)).trans ((if_neg (not_lt.2 h1)).trans ?_)
  obtain ⟨m, hm⟩ := Int.eq_ofNat_of_zero_le h0
  rw [hm]
  norm_cast

/-- Every input has the place of itself cut to the range. -/
theorem lutAt_eq (w : W64) (x : Int) :
    let top : Int := lutN w * 2 ^ lutS w
    let y := max 0 (min top (x - lut0 w))
    lutAt w x = ((y / 2 ^ lutS w).toNat, (y % 2 ^ lutS w).toNat, decide (top < x - lut0 w), decide (x - lut0 w < 0)) := by
  intro top y
  have hp : (0 : Int) < 2 ^ lutS w := by positivity
  have htop : 0 ≤ top := by positivity
  by_cases hlow : x - lut0 w < 0
  · rw [lutAt_below hlow, show y = 0 by omega, decide_eq_false (show ¬ top < x - lut0 w by omega), decide_eq_true hlow]
    simp
  · by_cases hhigh : top < x - lut0 w
    · rw [lutAt_above hhigh, show y = top by omega, decide_eq_true hhigh, decide_eq_false hlow, Int.mul_ediv_cancel _ hp.ne',
        Int.mul_emod_left]
      simp
    · rw [lutAt_inside (not_lt.1 hlow) (not_lt.1 hhigh), show y = x - lut0 w by omega, decide_eq_false hhigh, decide_eq_false hlow]

/-- At the last entry there is no fraction. -/
theorem lut_fraction_zero {n s : Nat} {y : Int} (h0 : 0 ≤ y) (hle : y ≤ n * 2 ^ s) (h : ¬ (y / 2 ^ s).toNat < n) : (y % 2 ^ s).toNat = 0 := by
  have hp : (0 : Int) < 2 ^ s := by positivity
  have hdiv : 0 ≤ y / 2 ^ s := Int.ediv_nonneg h0 hp.le
  have hge : (n : Int) ≤ y / 2 ^ s := by omega
  have hy : y = n * 2 ^ s := le_antisymm hle ((Int.le_ediv_iff_mul_le hp).1 hge)
  rw [hy, Int.mul_emod_left]
  rfl

/-! ### Interpolation (R98) -/

/-- At an entry the interpolation gives the entry. -/
theorem lerp_zero (e0 e1 : Int) (s : Nat) : lerp e0 e1 0 s = e0 := by
  have := roundDiv_mul_self e0 (d := 2 ^ s) (by positivity)
  simpa [lerp] using this

/-- The bilinear form as the weighted sum of the four corners. -/
theorem bilerp_eq (e00 e10 e01 e11 : Int) (f1 s1 f2 s2 : Nat) : bilerp e00 e10 e01 e11 f1 s1 f2 s2 =
    roundDiv (e00 * (2 ^ s1 - f1) * (2 ^ s2 - f2) + e10 * f1 * (2 ^ s2 - f2) + e01 * (2 ^ s1 - f1) * f2 + e11 * f1 * f2) (2 ^ (s1 + s2)) := by
  unfold bilerp
  dsimp only
  congr 1
  ring

/-- The neighbours past the end of a table have no weight, so they may be named as if they were there. -/
theorem bilerp_neighbours (at_ : Nat → Nat → Int) {j k n1 n2 f g : Nat} (s1 s2 : Nat) (hf : ¬ j < n1 → f = 0) (hg : ¬ k < n2 → g = 0) :
    let j1 := if j < n1 then j + 1 else j
    let k1 := if k < n2 then k + 1 else k
    bilerp (at_ j k) (at_ j1 k) (at_ j k1) (at_ j1 k1) f s1 g s2 =
      roundDiv (at_ j k * (2 ^ s1 - f) * (2 ^ s2 - g) + at_ (j + 1) k * f * (2 ^ s2 - g) +
        at_ j (k + 1) * (2 ^ s1 - f) * g + at_ (j + 1) (k + 1) * f * g) (2 ^ (s1 + s2)) := by
  intro j1 k1
  rw [bilerp_eq]
  by_cases hj : j < n1
  · by_cases hk : k < n2
    · simp only [j1, k1, if_pos hj, if_pos hk]
    · simp only [j1, if_pos hj, hg hk, Nat.cast_zero, mul_zero]
  · by_cases hk : k < n2
    · simp only [k1, if_pos hk, hf hj, Nat.cast_zero, mul_zero, zero_mul]
    · simp only [hf hj, hg hk, Nat.cast_zero, mul_zero, zero_mul]

/-- The word that LUT1 interpolates at the fraction f above entry j of the table at word b. -/
def lut1Word (ax : Axis) (b j f : Nat) : W64 :=
  let e0 := ax.view (b + 1 + j)
  let e1 := if j < lutN (ax.view b) then ax.view (b + 2 + j) else e0
  let y := fun (l : W64 → W32) => BitVec.ofInt 32 (lerp (l e0).toInt (l e1).toInt f (lutS (ax.view b)))
  lanes (y laneX) (y laneY)

theorem lut1Word_entry (ax : Axis) (b j : Nat) : lut1Word ax b j 0 = ax.view (b + 1 + j) := by
  simp only [lut1Word, lerp_zero, BitVec.ofInt_toInt, lanes_laneX_laneY]

/-- Entry (j, k) of the two-dimensional table at word b. -/
def lut2Entry (ax : Axis) (b j k : Nat) : W64 := ax.view (b + 2 + k * (lutN (ax.view b) + 1) + j)

/-- The word that LUT2 interpolates at the fractions f and g above entry (j, k). -/
def lut2Word (ax : Axis) (b j k f g : Nat) : W64 :=
  let j1 := if j < lutN (ax.view b) then j + 1 else j
  let k1 := if k < lutN (ax.view (b + 1)) then k + 1 else k
  let y := fun (l : W64 → W32) => BitVec.ofInt 32 (bilerp (l (lut2Entry ax b j k)).toInt (l (lut2Entry ax b j1 k)).toInt
    (l (lut2Entry ax b j k1)).toInt (l (lut2Entry ax b j1 k1)).toInt f (lutS (ax.view b)) g (lutS (ax.view (b + 1))))
  lanes (y laneX) (y laneY)

/-- Where the inputs are cut to their ranges, LUT2 weighs the four entries around the point. -/
theorem lut2Word_eq (ax : Axis) (b : Nat) {cx cy : Int} (hx0 : 0 ≤ cx) (hx1 : cx ≤ lutN (ax.view b) * 2 ^ lutS (ax.view b))
    (hy0 : 0 ≤ cy) (hy1 : cy ≤ lutN (ax.view (b + 1)) * 2 ^ lutS (ax.view (b + 1))) :
    let s1 := lutS (ax.view b)
    let s2 := lutS (ax.view (b + 1))
    let j := (cx / 2 ^ s1).toNat
    let k := (cy / 2 ^ s2).toNat
    let f := cx % 2 ^ s1
    let g := cy % 2 ^ s2
    let y := fun (l : W64 → W32) => BitVec.ofInt 32 (roundDiv (
      (l (lut2Entry ax b j k)).toInt * (2 ^ s1 - f) * (2 ^ s2 - g) + (l (lut2Entry ax b (j + 1) k)).toInt * f * (2 ^ s2 - g) +
      (l (lut2Entry ax b j (k + 1))).toInt * (2 ^ s1 - f) * g + (l (lut2Entry ax b (j + 1) (k + 1))).toInt * f * g) (2 ^ (s1 + s2)))
    lut2Word ax b j k f.toNat g.toNat = lanes (y laneX) (y laneY) := by
  intro s1 s2 j k f g y
  have hf : ((f.toNat : Nat) : Int) = f := Int.toNat_of_nonneg (Int.emod_nonneg _ (by positivity))
  have hg : ((g.toNat : Nat) : Int) = g := Int.toNat_of_nonneg (Int.emod_nonneg _ (by positivity))
  have hlane : ∀ l : W64 → W32, bilerp (l (lut2Entry ax b j k)).toInt
      (l (lut2Entry ax b (if j < lutN (ax.view b) then j + 1 else j) k)).toInt
      (l (lut2Entry ax b j (if k < lutN (ax.view (b + 1)) then k + 1 else k))).toInt
      (l (lut2Entry ax b (if j < lutN (ax.view b) then j + 1 else j) (if k < lutN (ax.view (b + 1)) then k + 1 else k))).toInt
      f.toNat s1 g.toNat s2 = _ := fun l =>
    bilerp_neighbours (fun x z => (l (lut2Entry ax b x z)).toInt) s1 s2 (lut_fraction_zero hx0 hx1) (lut_fraction_zero hy0 hy1)
  simp only [hf, hg] at hlane
  exact congrArg₂ (fun p q => lanes (BitVec.ofInt 32 p) (BitVec.ofInt 32 q)) (hlane laneX) (hlane laneY)

/-! ### The rows LUT1 and LUT2 -/

section
variable {i : Fields} {s : State} {n : Ax} {e : Eng}

/-- A lookup into a V register: the word, and the flags that it sets. -/
theorem runs_lutDone {I : Instr} {opc : Nat} {r : Res} {w : W64} {hi lo : Bool} {xs : List (BitVec 4)} (h : s.ready n = some e)
    (hd : i.dst.toNat < 32) (hx : exec I s = .next (s.engineRun n opc i))
    (hr : effectOf opc i s n (s.eng e).core ((s.ax n).env n) = some (1, r)) (hf : r = lutDone i (s.eng e).core w hi lo xs) :
    Runs I s (fun t => (t.eng e).core.v[(⟨i.dst.toNat % 32, by omega⟩ : Fin 32)] = w ∧
      (lo = true → (t.eng e).core.f.getLsbD fLIML = true) ∧ (hi = true → (t.eng e).core.f.getLsbD fLIMH = true) ∧
      (xs ≠ [] → (t.eng e).core.f.getLsbD fEXC = true)) := by
  have ha : (Cls.v 31).allows i.dst = true := Cls.v_allows.2 (by omega)
  have hdone : lutDone i (s.eng e).core w hi lo xs = Res.of { (s.eng e).core with
      v := (s.eng e).core.v.set i.dst.toNat w, f := fSet (fSet (s.eng e).core.f fLIMH hi) fLIML lo } (xs ++ []) := by
    simp only [lutDone, fillDst, ha, if_true, if_pos hd, putV, dif_pos hd]
  subst hf
  refine runs_engine h hx hr ⟨?_, fun hl => ?_, fun hh => ?_, fun hxs => ?_⟩
  · rw [State.retire_v, hdone]
    simp [Res.of, Nat.mod_eq_of_lt hd]
  · rw [State.retire_flag (by decide), hdone, hl]
    exact (fSet_getLsbD_same _ (by decide) _).trans (Bool.or_true _)
  · rw [State.retire_flag (by decide), hdone, hh]
    exact (fSet_getLsbD_ne _ (by decide) _).trans ((fSet_getLsbD_same _ (by decide) _).trans (Bool.or_true _))
  · rw [State.retire_exc, hdone]
    simp [Res.of, hxs]

/-- The exceptions of a lookup that is refused. -/
theorem refused_ne_nil {p q : Prop} [Decidable p] [Decidable q] (h : p ∨ q) :
    (if p then [excMODE] else []) ++ (if q then [excADDR] else []) ≠ [] := by
  rcases h with h | h <;> simp [h]

/-- A table within its bank raises nothing. -/
theorem refused_nil {p q : Prop} [Decidable p] [Decidable q] (hp : ¬ p) (hq : ¬ q) :
    ¬ ((if p then [excMODE] else []) ++ (if q then [excADDR] else []) ≠ []) := by
  simp [hp, hq]

variable (c : Core) (env : Env) (ax : Axis)

/-- The word at which the table of LUT1 or LUT2 begins. -/
abbrev lutBase (i : Fields) : Nat := i.imm.toNat % 8192

/-- LUT1 on a table that is empty or leaves the bank. -/
theorem effLut1_refused (h : lutN (ax.view (lutBase i)) = 0 ∨ 0x1FFF < lutBase i + 1 + lutN (ax.view (lutBase i))) :
    ∃ xs, xs ≠ [] ∧ effLut1 i ax c env = lutDone i c 0 false false xs :=
  ⟨_, List.append_ne_nil_of_right_ne_nil _ (refused_ne_nil h), if_pos (refused_ne_nil h)⟩

/-- LUT1 on a table within its bank. -/
theorem effLut1_found {j f : Nat} {hi lo : Bool} (h1 : lutN (ax.view (lutBase i)) ≠ 0)
    (h2 : lutBase i + 1 + lutN (ax.view (lutBase i)) ≤ 0x1FFF)
    (hj : lutAt (ax.view (lutBase i)) (readSrc c env .vks i.a).1.x.toInt = (j, f, hi, lo)) :
    effLut1 i ax c env = lutDone i c (lut1Word ax (lutBase i) j f) hi lo (readSrc c env .vks i.a).2 := by
  have heff : effLut1 i ax c env =
      let j := lutAt (ax.view (lutBase i)) (readSrc c env .vks i.a).1.x.toInt
      lutDone i c (lut1Word ax (lutBase i) j.1 j.2.1) j.2.2.1 j.2.2.2 (readSrc c env .vks i.a).2 :=
    if_neg (refused_nil h1 (Nat.not_lt.2 h2))
  rw [heff, hj]

/-- LUT2 on a table that is empty or leaves the bank. -/
theorem effLut2_refused (h : lutN (ax.view (lutBase i)) = 0 ∨ 0x1FFF < lutBase i + 1 ∨ lutN (ax.view (lutBase i + 1)) = 0 ∨
      0x1FFF < lutBase i + 2 + lutN (ax.view (lutBase i + 1)) * (lutN (ax.view (lutBase i)) + 1) + lutN (ax.view (lutBase i))) :
    ∃ xs, xs ≠ [] ∧ effLut2 i ax c env = lutDone i c 0 false false xs := by
  have hx : (lutN (ax.view (lutBase i)) = 0 ∨ (lutN (ax.view (lutBase i + 1)) = 0 ∧ lutBase i + 1 ≤ 0x1FFF)) ∨
      lutBase i + 2 + lutN (ax.view (lutBase i + 1)) * (lutN (ax.view (lutBase i)) + 1) + lutN (ax.view (lutBase i)) > 0x1FFF := by omega
  exact ⟨_, List.append_ne_nil_of_right_ne_nil _ (refused_ne_nil hx), if_pos (refused_ne_nil hx)⟩

/-- LUT2 on a table within its bank. -/
theorem effLut2_found {j k f g : Nat} {hi1 lo1 hi2 lo2 : Bool} (h1 : lutN (ax.view (lutBase i)) ≠ 0)
    (h2 : lutN (ax.view (lutBase i + 1)) ≠ 0)
    (h3 : lutBase i + 2 + lutN (ax.view (lutBase i + 1)) * (lutN (ax.view (lutBase i)) + 1) + lutN (ax.view (lutBase i)) ≤ 0x1FFF)
    (hj : lutAt (ax.view (lutBase i)) (readSrc c env (.v 31) i.a).1.x.toInt = (j, f, hi1, lo1))
    (hk : lutAt (ax.view (lutBase i + 1)) (readSrc c env (.v 31) i.a).1.y.toInt = (k, g, hi2, lo2)) :
    effLut2 i ax c env = lutDone i c (lut2Word ax (lutBase i) j k f g) (hi1 || hi2) (lo1 || lo2) (readSrc c env (.v 31) i.a).2 := by
  have heff : effLut2 i ax c env =
      let j := lutAt (ax.view (lutBase i)) (readSrc c env (.v 31) i.a).1.x.toInt
      let k := lutAt (ax.view (lutBase i + 1)) (readSrc c env (.v 31) i.a).1.y.toInt
      lutDone i c (lut2Word ax (lutBase i) j.1 k.1 j.2.1 k.2.1) (j.2.2.1 || k.2.2.1) (j.2.2.2 || k.2.2.2) (readSrc c env (.v 31) i.a).2 :=
    if_neg (refused_nil (fun h => h.elim h1 fun h => h2 h.1) (Nat.not_lt.2 h3))
  rw [heff, hj, hk]

end

/-- Settles O12: LUT1 by its three ranges, LUT2 by its cut inputs. -/
theorem tableLookup : Obligations.TableLookup := by
  unfold Obligations.TableLookup
  intro n e i s h hdst c en x p b hd hd2 d dx dy v lo hi ex
  refine ⟨fun hbad => ?_, fun hN hfit => ⟨fun hlow => ?_, fun hhigh => ?_, fun h0 h1 => ?_⟩, fun hbad => ?_, fun hN hN2 hfit => ?_⟩
  · obtain ⟨xs, hxs, heff⟩ := effLut1_refused c en (s.ax n) hbad
    exact (runs_lutDone h hdst rfl rfl heff).imp fun t ⟨hv, _, _, hex⟩ => ⟨hv, hex hxs⟩
  · have heff := effLut1_found c en (s.ax n) hN hfit (lutAt_below hlow)
    exact (runs_lutDone h hdst rfl rfl heff).imp fun t ⟨hv, hlo, _, _⟩ => ⟨hv.trans (lut1Word_entry _ _ _), hlo rfl⟩
  · have heff := effLut1_found c en (s.ax n) hN hfit (lutAt_above hhigh)
    exact (runs_lutDone h hdst rfl rfl heff).imp fun t ⟨hv, _, hhi, _⟩ => ⟨hv.trans (lut1Word_entry _ _ _), hhi rfl⟩
  · have heff := effLut1_found c en (s.ax n) hN hfit (lutAt_inside h0 h1)
    have hf : (((d % 2 ^ lutS hd).toNat : Nat) : Int) = d % 2 ^ lutS hd := Int.toNat_of_nonneg (Int.emod_nonneg _ (by positivity))
    refine (runs_lutDone h hdst rfl rfl heff).imp fun t ⟨hv, _, _, _⟩ => hv.trans ?_
    simp only [lut1Word, lerp]
    rw [hf]
  · obtain ⟨xs, hxs, heff⟩ := effLut2_refused c en (s.ax n) hbad
    exact (runs_lutDone h hdst rfl rfl heff).imp fun t ⟨hv, _, _, hex⟩ => ⟨hv, hex hxs⟩
  · have heff := effLut2_found c en (s.ax n) hN hN2 hfit (lutAt_eq _ _) (lutAt_eq _ _)
    have h1 : (0 : Int) ≤ lutN hd * 2 ^ lutS hd := by positivity
    have h2 : (0 : Int) ≤ lutN hd2 * 2 ^ lutS hd2 := by positivity
    refine (runs_lutDone h hdst rfl rfl heff).imp fun t ⟨hv, hlo, hhi, _⟩ => ⟨hv.trans ?_, fun hl => hlo ?_, fun hh => hhi ?_⟩
    · exact lut2Word_eq _ _ (le_max_left _ _) (max_le h1 (min_le_left _ _)) (le_max_left _ _) (max_le h2 (min_le_left _ _))
    · exact Bool.or_eq_true_iff.2 (hl.imp decide_eq_true decide_eq_true)
    · exact Bool.or_eq_true_iff.2 (hh.imp decide_eq_true decide_eq_true)

end Sys2Proof.Machine
end

section
namespace Sys2Proof.Machine
open Sys2Proof

/-! ### What a data instruction writes (R66, R79) -/

/-- Registers that differ from c at most in the destination (V registers dst to dst + cnt - 1, or one K register), the flags and the PC. -/
structure WroteDst (dst : BitVec 6) (cnt : Nat) (c d : Core) : Prop where
  lc : d.lc = c.lc
  lk : d.lk = c.lk
  v : ∀ j : Fin 32, ¬(dst.toNat ≤ j.val ∧ j.val < dst.toNat + cnt) → d.v[j] = c.v[j]
  k : ∀ j : Fin 16, dst.toNat ≠ 32 + j.val → d.k[j] = c.k[j]

/-- The comparator flags of HYST are the same in both. -/
def CmpKept (f g : W32) : Prop := ∀ b ∈ [fFLX, fTRQI, fTRQD], g.getLsbD b = f.getLsbD b

theorem CmpKept.refl (f : W32) : CmpKept f f := fun _ _ => rfl

theorem CmpKept.set {f g : W32} (h : CmpKept f g) {b : Nat} (hb : b ∉ [fFLX, fTRQI, fTRQD]) (v : Bool) : CmpKept f (fSet g b v) :=
  fun j hj => (fSet_getLsbD_ne _ (ne_of_mem_of_not_mem hj hb) _).trans (h j hj)

theorem CmpKept.put {f g : W32} (h : CmpKept f g) {b : Nat} (hb : b ∉ [fFLX, fTRQI, fTRQD]) (v : Bool) : CmpKept f (fPut g b v) := by
  intro j hj
  have hlt : j < 32 := (by decide : ∀ j ∈ [fFLX, fTRQI, fTRQD], j < 32) j hj
  exact (fPut_getLsbD_ne _ hlt (ne_of_mem_of_not_mem hj hb) _).trans (h j hj)

/-- SAMP writes WIN, MIR, MLIM and KCF. -/
theorem CmpKept.samp (f : W32) (win mir : BitVec 3) (mlim kcf : Bool) : CmpKept f (fSamp f win mir mlim kcf) := by
  refine CmpKept.put (CmpKept.put ?_ (by decide) _) (by decide) _
  intro j hj
  simp only [List.mem_cons, List.not_mem_nil, or_false, fFLX, fTRQI, fTRQD] at hj
  rcases hj with rfl | rfl | rfl <;> simp [fWIN, fMIR]

namespace WroteDst
variable {dst : BitVec 6} {cnt : Nat} {c d : Core}

theorem refl (dst : BitVec 6) (cnt : Nat) (c : Core) : WroteDst dst cnt c c := ⟨rfl, rfl, fun _ _ => rfl, fun _ _ => rfl⟩

theorem with_f (h : WroteDst dst cnt c d) (f : W32) : WroteDst dst cnt c { d with f := f } := ⟨h.lc, h.lk, h.v, h.k⟩

/-- A write to a V register of the destination. -/
theorem putV (h : WroteDst dst cnt c d) {code : BitVec 6} (h1 : dst.toNat ≤ code.toNat) (h2 : code.toNat < dst.toNat + cnt) (w : W64) :
    WroteDst dst cnt c (putV d code w) := by
  unfold Machine.putV
  split
  · refine ⟨h.lc, h.lk, fun j hj => ?_, h.k⟩
    rw [← h.v j hj]
    exact Vector.getElem_set_ne ‹_› j.isLt (by omega)
  · exact h

/-- A write to the K register that is the destination. -/
theorem putK (h : WroteDst dst cnt c d) (w : W32) : WroteDst dst cnt c (putK d dst w) := by
  unfold Machine.putK
  split
  · exact h
  · split
    · refine ⟨h.lc, h.lk, h.v, fun j hj => ?_⟩
      rw [← h.k j hj]
      exact Vector.getElem_set_ne ‹_› j.isLt (by omega)
    · exact h

theorem writeLanes (h : WroteDst dst 1 c d) (cls : Cls) (wm : Nat) (x y : W32) : WroteDst dst 1 c (writeLanes d cls dst wm x y).1 := by
  simp only [Machine.writeLanes]
  split
  · split
    · exact h.putV le_rfl (Nat.lt_succ_self _) _
    · exact h.putK _
  · exact h

theorem fillDst (h : WroteDst dst 1 c d) (cls : Cls) (hh : Bool) (w : W64) : WroteDst dst 1 c (fillDst d cls dst hh w).1 := by
  simp only [Machine.fillDst]
  split
  · split
    · exact h.putV le_rfl (Nat.lt_succ_self _) _
    · exact h.putK _
  · exact h

end WroteDst

theorem fillDst_f (c : Core) (cls : Cls) (code : BitVec 6) (h : Bool) (w : W64) : (fillDst c cls code h w).1.f = c.f := by
  simp only [fillDst, putV, putK]
  (repeat' split) <;> rfl

theorem putV_f (c : Core) (code : BitVec 6) (w : W64) : (putV c code w).f = c.f := by
  unfold putV; split <;> rfl

/-- A result that only writes the destination and flags. -/
structure Writes (dst : BitVec 6) (cnt : Nat) (c : Core) (r : Res) : Prop where
  ent : r.ent = []
  wait : r.wait = none
  loop : r.loop = none
  jump : r.jump = none
  core : WroteDst dst cnt c r.core

/-- Such a result that keeps the comparator flags too. -/
def Data (dst : BitVec 6) (cnt : Nat) (c : Core) (r : Res) : Prop := Writes dst cnt c r ∧ CmpKept c.f r.core.f

section
variable {c : Core} {e : Env} {i : Fields} {cls : Cls} {f : W32}

theorem Writes.of {dst : BitVec 6} {cnt : Nat} {d : Core} (h : WroteDst dst cnt c d) (x : List (BitVec 4)) : Writes dst cnt c (Res.of d x) :=
  ⟨rfl, rfl, rfl, rfl, h⟩

theorem finish_writes {wm : Nat} {x y : W32 × Bool} {ex : Bool × Bool} {exc : List (BitVec 4)} :
    Writes i.dst 1 c (finish { c with f := f } cls i wm x y ex exc) :=
  .of ((((WroteDst.refl _ _ c).with_f f).writeLanes cls wm _ _).with_f _) _

theorem finish_data {wm : Nat} {x y : W32 × Bool} {ex : Bool × Bool} {exc : List (BitVec 4)} (hf : CmpKept c.f f) :
    Data i.dst 1 c (finish { c with f := f } cls i wm x y ex exc) :=
  ⟨finish_writes, by rw [finish_core]; exact hf.set (by decide) _⟩

/-- A result of lanes that changes no flag but SAT. -/
theorem lanes_data {wm : Nat} {x y : W32 × Bool} {ex : Bool × Bool} {exc : List (BitVec 4)} :
    Data i.dst 1 c (finish c cls i wm x y ex exc) := finish_data (CmpKept.refl c.f)

theorem modeStop_data : Data i.dst 1 c (modeStop i c e cls) := ⟨.of (.refl _ _ c) _, .refl _⟩

theorem lutDone_data {w : W64} {hi lo : Bool} {x : List (BitVec 4)} : Data i.dst 1 c (lutDone i c w hi lo x) := by
  refine ⟨.of (((WroteDst.refl _ _ c).with_f _).fillDst _ _ _) _, ?_⟩
  simp only [lutDone, Res.of, fillDst_f]
  exact ((CmpKept.refl _).set (by decide) _).set (by decide) _

theorem Data.ite {dst : BitVec 6} {cnt : Nat} {r q : Res} {p : Prop} [Decidable p] (hr : Data dst cnt c r) (hq : Data dst cnt c q) :
    Data dst cnt c (if p then r else q) := by
  split
  · exact hr
  · exact hq

/-- What an instruction remembers for the drain is no register. -/
theorem Data.remembers {dst : BitVec 6} {cnt : Nat} {r : Res} (h : Data dst cnt c r) (l : Option (BitVec 3 × Bool)) (p : Option W64) :
    Data dst cnt c { r with latch := l, pred := p } := ⟨⟨h.1.ent, h.1.wait, h.1.loop, h.1.jump, h.1.core⟩, h.2⟩

/-! ### Each data instruction -/

theorem laneOp_data {g : W32 → W32 → W32 × Bool} {wraps : Bool} : Data i.dst 1 c (laneOp i c e g wraps) := .ite modeStop_data lanes_data
theorem effVadd_data : Data i.dst 1 c (effVadd i c e) := .ite laneOp_data laneOp_data
theorem effVsub_data : Data i.dst 1 c (effVsub i c e) := .ite laneOp_data laneOp_data
theorem effVmul_data : Data i.dst 1 c (effVmul i c e) := by unfold effVmul; exact laneOp_data
theorem effCmul_data : Data i.dst 1 c (effCmul i c e) := .ite modeStop_data lanes_data
theorem effFilt_data : Data i.dst 1 c (effFilt i c e) := .ite modeStop_data lanes_data
theorem effClarke_data : Data i.dst 1 c (effClarke i c e) := .ite lanes_data lanes_data

theorem effIclarke_data : Data i.dst 2 c (effIclarke i c e) := by
  simp only [effIclarke]
  split
  · next ha =>
    have hd : i.dst.toNat ≤ 30 := Cls.v_allows.1 ha
    have h1 : (i.dst + 1).toNat = i.dst.toNat + 1 := toNat_code_add 1 (by omega)
    refine ⟨.of ((((WroteDst.refl _ _ c).with_f _).putV (by omega) (by omega) _).putV (by omega) (by omega) _) _, ?_⟩
    simp only [Res.of, putV_f]
    exact (CmpKept.refl _).set (by decide) _
  · exact ⟨.of ((WroteDst.refl _ _ c).with_f _) _, (CmpKept.refl _).set (by decide) _⟩

theorem effHyst_writes : Writes i.dst 1 c (effHyst i c e) := by
  simp only [effHyst]; split <;> exact finish_writes

theorem effSwt_data {ax : Axis} : Data i.dst 1 c (effSwt i ax c e) := lanes_data.remembers _ _

theorem limFlags_kept (tgt : Nat) (f : W32) (high low : Bool) : CmpKept f (limFlags tgt f high low) := by
  unfold limFlags
  split
  · exact ((CmpKept.refl _).put (by decide) _).put (by decide) _
  · exact ((CmpKept.refl _).put (by decide) _).put (by decide) _
  · exact ((CmpKept.refl _).put (by decide) _).put (by decide) _
  · exact (CmpKept.refl _).put (by decide) _

theorem effLim_data : Data i.dst 1 c (effLim i c e) := by
  by_cases hstop : wmOf i = 3 ∨ i.mod.toNat / 4 % 8 ≥ 4
  · have heff : effLim i c e = modeStop i c e .vk := if_pos hstop
    rw [heff]; exact modeStop_data
  · have heff := effLim_eq c e (fun h => hstop (.inl h)) (not_le.1 fun h => hstop (.inr h))
    rw [heff]
    exact ⟨.of (((WroteDst.refl _ _ c).writeLanes _ _ _ _).with_f _) _, limFlags_kept _ _ _ _⟩

theorem effPi_data : Data i.dst 1 c (effPi i c e) := finish_data (((CmpKept.refl _).set (by decide) _).set (by decide) _)
theorem effLut1_data {ax : Axis} : Data i.dst 1 c (effLut1 i ax c e) := .ite lutDone_data lutDone_data
theorem effLut2_data {ax : Axis} : Data i.dst 1 c (effLut2 i ax c e) := .ite lutDone_data lutDone_data

/-- LD and IOR fill their destination from a word. -/
theorem fill_data {h : Bool} {w : W64} {x : List (BitVec 4)} : Data i.dst 1 c (Res.of (fillDst c cls i.dst h w).1 x) :=
  ⟨.of ((WroteDst.refl _ _ c).fillDst _ _ _) _, by rw [Res.of, fillDst_f]; exact .refl _⟩

theorem effSamp_data {ax : Axis} : Data i.dst 4 c (effSamp i ax c) := by
  simp only [effSamp]
  split
  · next ha =>
    have hd : i.dst.toNat ≤ 28 := Cls.v_allows.1 ha
    have h1 : (i.dst + 1).toNat = i.dst.toNat + 1 := toNat_code_add 1 (by omega)
    have h2 : (i.dst + 2).toNat = i.dst.toNat + 2 := toNat_code_add 2 (by omega)
    have h3 : (i.dst + 3).toNat = i.dst.toNat + 3 := toNat_code_add 3 (by omega)
    refine ⟨.of ((((((WroteDst.refl _ _ c).with_f _).putV (by omega) (by omega) _).putV (by omega) (by omega) _).putV (by omega)
      (by omega) _).putV (by omega) (by omega) _) _, ?_⟩
    simp only [Res.of, putV_f]
    exact .samp _ _ _ _ _
  · exact ⟨.of ((WroteDst.refl _ _ c).with_f _) _, .samp _ _ _ _ _⟩

theorem effPred_data {ax : Axis} : Data i.dst 1 c (effPred i ax c e) := lanes_data.remembers _ _

end

/-! ### The frame of the data instructions -/

/-- A row (its command, its cycles, the V registers of its destination) changes its destination and flags, moves on to the next word
and leaves everything else; HYST alone writes the comparator flags. -/
def DataRow (n : Ax) (e : Eng) (i : Fields) (s : State) (row : (Ax → Fields → Instr) × Nat × Nat) : Prop :=
  Runs (row.1 n i) s (fun t =>
    EngineFrame s t n e ∧ PcNext s t n e ∧
    (t.ax n).run.cyc = (s.ax n).run.cyc + row.2.1 ∧ (t.ax n).run.seq = (s.ax n).run.seq + 1 ∧
    (t.ax n).run.buf = (s.ax n).run.buf ∧ (t.ax n).run.wait = none ∧ (t.eng e).core.lk = (s.eng e).core.lk ∧
    (∀ j : Fin 32, ¬(i.dst.toNat ≤ j.val ∧ j.val < i.dst.toNat + row.2.2) → (t.eng e).core.v[j] = (s.eng e).core.v[j]) ∧
    (∀ j : Fin 16, i.dst.toNat ≠ 32 + j.val → (t.eng e).core.k[j] = (s.eng e).core.k[j]) ∧
    (row.1 n i ≠ .hyst n i → ∀ b ∈ [fFLX, fTRQI, fTRQD], (t.eng e).core.f.getLsbD b = (s.eng e).core.f.getLsbD b))

section
variable {f : Ax → Fields → Instr} {opc cyc cnt : Nat} {i : Fields} {s : State} {n : Ax} {e : Eng} {r : Res}

theorem Writes.row (h : s.ready n = some e) (hx : exec (f n i) s = .next (s.engineRun n opc i))
    (hr : effectOf opc i s n (s.eng e).core ((s.ax n).env n) = some (cyc, r)) (hw : Writes i.dst cnt (s.eng e).core r)
    (hq : f n i ≠ .hyst n i → CmpKept (s.eng e).core.f r.core.f) : DataRow n e i s (f, cyc, cnt) := by
  refine runs_engine h hx hr ⟨State.retire_frame, State.retire_pcNext hw.wait hw.loop hw.jump hw.core.lc, ?_, ?_, ?_, ?_,
    State.retire_lk.trans hw.core.lk, fun j hj => ?_, fun j hj => ?_, fun hI b hb => ?_⟩
  · rw [State.retire_run]
  · rw [State.retire_run]
  · rw [State.retire_run, hw.ent]; exact List.append_nil _
  · rw [State.retire_run, hw.wait]; rfl
  · rw [State.retire_v]; exact hw.core.v j hj
  · rw [State.retire_k]; exact hw.core.k j hj
  · rw [State.retire_flag ((by decide : ∀ b ∈ [fFLX, fTRQI, fTRQD], b ≠ fEXC) b hb)]
    exact hq hI b hb

theorem Data.row (hd : Data i.dst cnt (s.eng e).core r) (h : s.ready n = some e) (hx : exec (f n i) s = .next (s.engineRun n opc i))
    (hr : effectOf opc i s n (s.eng e).core ((s.ax n).env n) = some (cyc, r)) : DataRow n e i s (f, cyc, cnt) :=
  hd.1.row h hx hr fun _ => hd.2

end

/-- Settles O1: row by row, by what its result may write. ROT, CROSS, DOT, MAG, ATAN2, INTEG and SECT are results of lanes alone
(`lanes_data`), LD and IOR fill their destination (`fill_data`). -/
theorem engineDataFrame : Obligations.EngineDataFrame := by
  unfold Obligations.EngineDataFrame
  intro n e i s h
  change ∀ row ∈ _, DataRow n e i s row
  simp only [List.forall_mem_cons]
  refine ⟨?_, ?_, ?_, ?_, ?_, ?_, ?_, ?_, ?_, ?_, ?_, ?_, ?_, ?_, ?_, ?_, ?_, ?_, ?_, ?_, ?_, ?_, ?_, ?_, List.forall_mem_nil _⟩
  · exact effVadd_data.row h rfl rfl
  · exact effVsub_data.row h rfl rfl
  · exact effVmul_data.row h rfl rfl
  · exact effCmul_data.row h rfl rfl
  · exact effClarke_data.row h rfl rfl
  · exact effIclarke_data.row h rfl rfl
  · exact lanes_data.row h rfl rfl
  · exact lanes_data.row h rfl rfl
  · exact lanes_data.row h rfl rfl
  · exact lanes_data.row h rfl rfl
  · exact lanes_data.row h rfl rfl
  · exact lanes_data.row h rfl rfl
  · exact effHyst_writes.row h rfl rfl fun hne => absurd rfl hne
  · exact lanes_data.row h rfl rfl
  · exact effSwt_data.row h rfl rfl
  · exact effLim_data.row h rfl rfl
  · exact effPi_data.row h rfl rfl
  · exact effFilt_data.row h rfl rfl
  · exact effLut1_data.row h rfl rfl
  · exact effLut2_data.row h rfl rfl
  · exact fill_data.row h rfl rfl
  · exact fill_data.row h rfl rfl
  · exact effSamp_data.row h rfl rfl
  · exact effPred_data.row h rfl rfl

end Sys2Proof.Machine
end

section
namespace Sys2Proof.Machine
open Sys2Proof

/-! ### The stall monitor's count is reached (R128) -/

/-- A field just cleared reads 0. -/
theorem Axis.put_zero_get (a : Axis) (f : Fld) (h : f.lo + f.w ≤ 64) : (a.put f 0).get f = 0 := by
  rw [Axis.put_get_same _ _ _ h, Nat.zero_mod]

/-- One STALL counted and STCNT cleared. -/
def State.stalled (s : State) (n : Ax) : State := ((s.lifeCount 15 n.val).ainc n AX_CNT1_STALL).aput n AX_SPD_STCNT 0

theorem State.stalled_ax (s : State) (n : Ax) : (s.stalled n).ax n =
    ((s.ax n).setReg AX_CNT1_STALL.a (satField AX_CNT1_STALL ((s.ax n).reg AX_CNT1_STALL.a))).put AX_SPD_STCNT 0 := by
  simp [State.stalled, State.aput, State.ainc]

theorem State.stalled_others (s : State) (n : Ax) : OthersKept s (s.stalled n) n := fun m hm => by
  simp [State.stalled, State.aput, State.ainc, State.modAx_ax_ne _ hm]

theorem State.stalled_stcnt (s : State) (n : Ax) : ((s.stalled n).ax n).get AX_SPD_STCNT = 0 := by
  rw [s.stalled_ax n, Axis.put_zero_get _ _ (by decide)]

theorem State.stalled_counts (s : State) (n : Ax) : CountedAx s (s.stalled n) n AX_CNT1_STALL := by
  unfold CountedAx
  rw [s.stalled_ax n, Axis.put_get_reg _ _ _ _ (by decide)]
  exact Axis.inc_get _ _ (by decide)

/-- No register but the counter's and the one of STCNT changes. -/
theorem State.stalled_get (s : State) (n : Ax) (g : Fld) (h1 : g.a ≠ AX_CNT1) (h2 : g.a ≠ AX_SPD) :
    ((s.stalled n).ax n).get g = (s.ax n).get g := by
  rw [s.stalled_ax n, Axis.put_get_reg _ _ _ _ h2]
  unfold Axis.get
  rw [Axis.setReg_reg_ne _ h1]

theorem State.stalled_ticks (s : State) (n : Ax) : (s.stalled n).ticks n = s.ticks n := by
  have hw : ((s.stalled n).ax n).loaded = (s.ax n).loaded :=
    congrArg (· != 0) (s.stalled_get n AX_WCET_WCET (by decide) (by decide))
  have he : ((s.stalled n).ax n).engine = (s.ax n).engine := by rw [s.stalled_ax n]; rfl
  unfold State.ticks
  rw [hw, he]
  rfl

/-- What a reached count answers, by ACT. -/
theorem execStall_reached {n : Ax} {s : State} (hst : (s.ax n).st = .running) (h0 : (s.ax n).get AX_STALL_TICKS ≠ 0)
    (hc : (s.ax n).get AX_STALL_TICKS ≤ (s.ax n).get AX_SPD_STCNT) :
    let act := (s.ax n).get AX_STALL_ACT
    (act = 0 ∨ act = 3 → exec (.stall n) s = .next (s.stalled n)) ∧
    (act = 1 → s.ticks n = true → exec (.stall n) s = .next ((s.stalled n).modAx n (fun a => { a with stallReq := true }))) ∧
    (act = 1 → s.ticks n = false → exec (.stall n) s = .next ((s.stalled n).enterSt n .decel)) ∧
    (act = 2 → exec (.stall n) s = .next (((s.stalled n).detect 15 n.val 0).enterOasis n 15)) := by
  have hu : (s.count 15 n.val).aput n AX_SPD_STCNT 0 = s.stalled n := by rw [s.count_ax n (f := AX_CNT1_STALL) rfl]; rfl
  have hx : exec (.stall n) s = execStall n s := rfl
  rw [hx]
  unfold execStall
  dsimp only
  rw [if_pos ⟨hst, h0, hc⟩, hu, s.stalled_ticks n]
  refine ⟨fun h => ?_, fun h ht => ?_, fun h ht => ?_, fun h => ?_⟩
  · rcases h with h | h <;> rw [h] <;> rfl
  · rw [h, ht]; rfl
  · rw [h, ht]; rfl
  · rw [h]; rfl

/-- DECEL is entered with STCNT clear; no register but the one of STCNT changes (R287, R127). -/
theorem State.enterSt_decel (s : State) (n : Ax) : let t := s.enterSt n .decel
    (t.ax n).st = .decel ∧ OthersKept s t n ∧ (t.ax n).get AX_SPD_STCNT = 0 ∧
    ∀ g : Fld, g.a ≠ AX_SPD → (t.ax n).get g = (s.ax n).get g := by
  intro t
  let u := ((s.setSt n .decel).aput n AX_SPD_STCNT 0).modAx n
    (fun a => { a with gd := { a.gd with arm := { Arming.idle with at_ := s.clk } } })
  have hu : (u.ax n).st = .decel ∧ (u.ax n).regs = ((s.ax n).put AX_SPD_STCNT 0).regs := by
    simp only [u, State.aput, State.setSt, State.modAx_ax_same]
    exact ⟨rfl, rfl⟩
  obtain ⟨hst, hregs⟩ := hu
  have ht : t.ax n = { u.ax n with gd := (t.ax n).gd, pt := (t.ax n).pt } := u.settleAt_ax n _ _
  have hget (g : Fld) : (t.ax n).get g = ((s.ax n).put AX_SPD_STCNT 0).get g := by
    unfold Axis.get Axis.reg
    rw [ht, ← hregs]
  refine ⟨by rw [ht, hst], fun m hm => ?_, ?_, fun g hg => ?_⟩
  · exact (State.settleAt_ax_ne u hm _ _).trans (by simp [u, State.aput, State.setSt, State.modAx_ax_ne _ hm])
  · rw [hget, Axis.put_zero_get _ _ (by decide)]
  · rw [hget, Axis.put_get_reg _ _ _ _ hg]

/-- A fault of an axis outside OASIS is detected and the axis enters OASIS (R278, R287); STCNT reads 0 (R127). -/
theorem State.detect_enterOasis (s : State) (n : Ax) (code detail : Nat) (hc : code < 256) (hs : (s.ax n).st ≠ .oasis) :
    let t := (s.detect code n.val detail).enterOasis n code
    Faulted s t n code ∧ LastFault t code n.val ∧ OthersKept s t n ∧ (t.ax n).get AX_SPD_STCNT = 0 ∧
    ∀ g : Fld, g.a ≠ AX_STATE → g.a ≠ AX_OASTIME → g.a ≠ AX_SPD → (t.ax n).get g = (s.ax n).get g := by
  intro t
  obtain ⟨-, hclk, htm, haxes, -⟩ := s.detect_fields code n.val detail
  have hlast := s.detect_last code n.val detail hc (by omega)
  generalize hu : s.detect code n.val detail = u at hclk htm haxes hlast
  have ha (m : Ax) : u.ax m = s.ax m := State.ax_congr haxes m
  have hus : (u.ax n).st ≠ .oasis := by rw [ha]; exact hs
  have htime : u.time = s.time := by simp only [State.time, htm]
  have ht : t = u.enterOasis n code := by rw [← hu]
  rw [ht]
  refine ⟨?_, ?_, fun m hm => ?_, ?_, fun g h1 h2 h3 => ?_⟩
  · exact (u.enterOasis_faulted n code hus hc).congr hclk.symm htime.symm (ha n).symm rfl
  · exact hlast.congr ((u.enterOasis_frame n code).dreg _ (by decide) (by decide))
  · exact (u.enterOasis_ax_ne code hm).trans (ha m)
  · rw [(u.enterOasis_ax n code hus).1]
    exact Axis.put_zero_get _ AX_SPD_STCNT (by decide)
  · exact (u.enterOasis_get n code g h1 h2 h3).trans (congrArg (Axis.get · g) (ha n))

/-- A fault is told from an earlier state that has the same clock, TIME and Oasis option. -/
theorem Faulted.of_before {s s' t : State} {n : Ax} {cause : Nat} (h : Faulted s t n cause) (hc : s.clk = s'.clk) (ht : s.time = s'.time)
    (ho : (s.ax n).get AX_OASIS_OPT = (s'.ax n).get AX_OASIS_OPT) : Faulted s' t n cause := by
  unfold Faulted at *
  rwa [← hc, ← ht, ← ho]

/-- Settles O22: by the values of ACT, each from the state with STALL counted and STCNT clear. -/
theorem stallActions : Obligations.StallActions := by
  unfold Obligations.StallActions
  intro n s a act hst h0 hc
  obtain ⟨hnone, hasks, hdecel, hoasis⟩ := execStall_reached hst h0 hc
  have hcount := s.stalled_counts n
  have hzero := s.stalled_stcnt n
  have hothers := s.stalled_others n
  have hrun : ((s.stalled n).ax n).st = .running := by rw [s.stalled_ax n]; exact hst
  have hact : act = (s.ax n).get AX_STALL_ACT := rfl
  have hlt : act < 4 := Fld.get_lt AX_STALL_ACT _
  rw [← hact] at hnone hasks hdecel hoasis
  clear_value act
  obtain h | rfl | rfl : (act = 0 ∨ act = 3) ∨ act = 1 ∨ act = 2 := by omega
  · exact runs_of_exec (hnone h) ⟨hcount, hzero, hothers, fun _ => hrun, by omega, by omega, by omega⟩
  · cases htk : s.ticks n with
    | true =>
      have hax := (s.stalled n).modAx_ax_same n (fun a => { a with stallReq := true })
      refine runs_of_exec (hasks rfl htk) ⟨?_, ?_, fun m hm => ?_, by omega, fun _ _ => ?_, nofun, by omega⟩
      · unfold CountedAx; rw [hax]; exact hcount
      · rw [hax]; exact hzero
      · exact (State.modAx_ax_ne _ hm _).trans (hothers m hm)
      · rw [hax]; exact ⟨hrun, rfl⟩
    | false =>
      obtain ⟨hst', hkept, hclear, hget⟩ := (s.stalled n).enterSt_decel n
      refine runs_of_exec (hdecel rfl htk) ⟨?_, hclear, fun m hm => ?_, by omega, nofun, fun _ _ => hst', by omega⟩
      · exact (hget AX_CNT1_STALL (by decide)).trans hcount
      · exact (hkept m hm).trans (hothers m hm)
  · have hlive : ((s.stalled n).ax n).st ≠ .oasis := by rw [hrun]; decide
    obtain ⟨hfault, hlast, hkept, hclear, hget⟩ := (s.stalled n).detect_enterOasis n 15 0 (by decide) hlive
    have hopt := s.stalled_get n AX_OASIS_OPT (by decide) (by decide)
    refine runs_of_exec (hoasis rfl) ⟨?_, hclear, fun m hm => ?_, by omega, by omega, by omega, fun _ => ⟨?_, hlast⟩⟩
    · exact (hget AX_CNT1_STALL (by decide) (by decide) (by decide)).trans hcount
    · exact (hkept m hm).trans (hothers m hm)
    · exact hfault.of_before rfl rfl hopt
end Sys2Proof.Machine
end

section
namespace Sys2Proof.Machine
open Sys2Proof

/-! ### What playing, scheduling and settling change (stages 2 to 6 of R193) -/

/-- The registers that playing and scheduling write: the counts of conflicts and of dropped pulses, and AX_PTSTAT. -/
def playRegs : List Nat := [AX_CNT0, AX_CNT1, AX_PTSTAT]

/-- From a to b an axis has played edges, built its schedule or settled: its request, its state and every other register stay. -/
structure Axis.Plays (a b : Axis) : Prop where
  only : b = { a with
    regs := b.regs, gd := b.gd
    pt := { a.pt with
      cmd := b.pt.cmd, lastOff := b.pt.lastOff, onReq := b.pt.onReq, sched := b.pt.sched, marks := b.pt.marks
      emitted := b.pt.emitted, lowSeen := b.pt.lowSeen, highOns := b.pt.highOns
      deferred := b.pt.deferred, joined := b.pt.joined, prev := b.pt.prev } }
  reg : ∀ o : Nat, o ∉ playRegs → b.reg o = a.reg o

namespace Axis.Plays

theorem refl (a : Axis) : a.Plays a := ⟨rfl, fun _ _ => rfl⟩

theorem trans {a b c : Axis} (h : a.Plays b) (g : b.Plays c) : a.Plays c :=
  ⟨g.only.trans (by rw [h.only]), fun o ho => (g.reg o ho).trans (h.reg o ho)⟩

/-- A write of one of those registers. -/
theorem setReg (a : Axis) {o : Nat} (ho : o ∈ playRegs) (v : W64) : a.Plays (a.setReg o v) :=
  ⟨rfl, fun _ hq => a.setReg_reg_ne (fun e => hq (by rwa [e])) v⟩

variable {a b : Axis} (h : a.Plays b)
include h

theorem get {f : Fld} (hf : f.a ∉ playRegs) : b.get f = a.get f := by unfold Axis.get; rw [h.reg _ hf]
theorem st : b.st = a.st := part_of_eq Axis.st h.only rfl
theorem sense : b.sense = a.sense := part_of_eq Axis.sense h.only rfl
theorem plan : b.pt.plan = a.pt.plan := part_of_eq (·.pt.plan) h.only rfl
theorem hold : b.pt.hold = a.pt.hold := part_of_eq (·.pt.hold) h.only rfl
theorem activeEnd : b.pt.activeEnd = a.pt.activeEnd := part_of_eq (·.pt.activeEnd) h.only rfl
theorem fill : b.pt.fill = a.pt.fill := part_of_eq (·.pt.fill) h.only rfl
theorem start : b.pt.start = a.pt.start := part_of_eq (·.pt.start) h.only rfl
theorem loaded : b.pt.loaded = a.pt.loaded := part_of_eq (·.pt.loaded) h.only rfl
theorem drained : b.pt.drained = a.pt.drained := part_of_eq (·.pt.drained) h.only rfl
theorem curb : b.pt.curb = a.pt.curb := part_of_eq (·.pt.curb) h.only rfl
theorem carrier : b.pt.carrier = a.pt.carrier := part_of_eq (·.pt.carrier) h.only rfl
theorem dt : b.pt.dt = a.pt.dt := part_of_eq (·.pt.dt) h.only rfl
theorem mctl : b.pt.mctl = a.pt.mctl := part_of_eq (·.pt.mctl) h.only rfl
theorem mtab : b.pt.mtab = a.pt.mtab := part_of_eq (·.pt.mtab) h.only rfl
theorem stepReq : b.pt.stepReq = a.pt.stepReq := part_of_eq (·.pt.stepReq) h.only rfl

end Axis.Plays

/-- From s to t axis n has played, and no other axis has changed. -/
structure PlaysOn (n : Ax) (s t : State) : Prop where
  others : OthersKept s t n
  ax : (s.ax n).Plays (t.ax n)
  clk : t.clk = s.clk

namespace PlaysOn

theorem refl (n : Ax) (s : State) : PlaysOn n s s := ⟨fun _ _ => rfl, .refl _, rfl⟩

theorem trans {n : Ax} {s t u : State} (h : PlaysOn n s t) (g : PlaysOn n t u) : PlaysOn n s u :=
  ⟨fun m hm => (g.others m hm).trans (h.others m hm), h.ax.trans g.ax, g.clk.trans h.clk⟩

theorem foldl {α : Type} {n : Ax} {f : State → α → State} (h : ∀ s x, PlaysOn n s (f s x)) :
    ∀ (l : List α) (s : State), PlaysOn n s (l.foldl f s)
  | [], s => refl n s
  | x :: l, s => (h s x).trans (foldl h l (f s x))

/-- A change of axis n alone. -/
theorem modAx {n : Ax} {s : State} {f : Axis → Axis} (h : (s.ax n).Plays (f (s.ax n))) : PlaysOn n s (s.modAx n f) :=
  ⟨fun _ hm => State.modAx_ax_ne s hm f, by rw [State.modAx_ax_same]; exact h, rfl⟩

/-- A count of axis n in one of those registers. -/
theorem count (s : State) (n : Ax) {code : Nat} {f : Fld} (hf : axCounter code = some f) (ha : f.a ∈ playRegs) :
    PlaysOn n s (s.count code n.val) := by
  rw [s.count_ax n hf]
  exact (⟨fun _ _ => rfl, .refl _, rfl⟩ : PlaysOn n s (s.lifeCount code n.val)).trans (modAx (.setReg _ ha _))

end PlaysOn

theorem State.settleAt_plays (s : State) (n : Ax) (t : Nat) (uns : Bool) : PlaysOn n s (s.settleAt n t uns) := by
  refine ⟨fun m hm => s.settleAt_ax_ne hm t uns, ⟨?_, fun o _ => ?_⟩, rfl⟩
  · unfold State.settleAt State.atPins
    simp only [State.modAx_ax_same]
    rfl
  · unfold Axis.reg
    rw [s.settleAt_ax n t uns]

theorem State.playEdge_plays (s : State) (n : Ax) (x : Edge) : PlaysOn n s (s.playEdge n x) :=
  (PlaysOn.modAx ⟨rfl, fun _ _ => rfl⟩).trans (State.settleAt_plays _ n x.t x.uns)

theorem State.playMarks_plays (s : State) (n : Ax) (t : Nat) : PlaysOn n s (s.playMarks n t) :=
  (PlaysOn.modAx ⟨rfl, fun _ _ => rfl⟩).trans (.foldl (fun s _ => .count s n (f := AX_CNT1_PULSE_DROPPED) rfl (by decide)) _ _)

theorem State.playUntil_plays (s : State) (n : Ax) (t : Nat) : PlaysOn n s (s.playUntil n t) := by
  unfold State.playUntil
  split
  · exact .refl n s
  · exact (s.playMarks_plays n t).trans ((PlaysOn.modAx ⟨rfl, fun _ _ => rfl⟩).trans (.foldl (fun s x => s.playEdge_plays n x) _ _))

/-- A new schedule writes AX_PTSTAT and counts a conflict; of the request it changes nothing (R200 to R205). -/
theorem State.schedule_plays (s : State) (n : Ax) (t : Nat) (why : Build) : PlaysOn n s (s.schedule n t why) := by
  unfold State.schedule
  extract_lets a b k held runsOn step r a1 was pt a2 a3 a4 s'
  have hr : a.Plays r.1 := by
    refine List.foldlRecOn (motive := fun acc => a.Plays acc.1) (b := (a, [], held, false)) allPh step (.refl a) fun acc h q _ => h.trans ?_
    exact ⟨rfl, fun _ _ => rfl⟩
  have h2 : a.Plays a2 := hr.trans ⟨rfl, fun _ _ => rfl⟩
  have h3 : a2.Plays a3 := by
    unfold a3
    split
    · exact (Axis.Plays.setReg _ (by decide) _).trans (.setReg _ (by decide) _)
    · exact .refl a2
  have h4 : a.Plays a4 := (h2.trans h3).trans (.setReg _ (by decide) _)
  have hs : PlaysOn n s s' := .modAx h4
  split
  · exact hs.trans (.count s' n (f := AX_CNT0_HB_CONFLICT) rfl (by decide))
  · exact hs
end Sys2Proof.Machine
end

section
namespace Sys2Proof.Machine
open Sys2Proof

/-! ### A rewritten request (R207, R249) -/

/-- The hold that a rewrite at instant t leaves in DUTY and SIX modes. -/
def Axis.rewriteHold (a : Axis) (t : Nat) (bound : Bool) : Hold :=
  let old := a.pt.hold.filter (fun h => decide (t < h.stop))
  { stop := a.carrierEnd t, bound := bound || old.any (·.bound)
    ov := if bound then old.bind (·.ov) else some (BitVec.ofNat 3 (zeroVec (a.get AX_PTCFG_ZFILL))) }

/-- The end of the tick in progress, 1/32 base ticks. -/
def Axis.tickEnd (a : Axis) : Nat := 32 * (a.pt.start + max 1 (a.get AX_TICK_PERIOD))

/-- The request in force. -/
def Axis.request (a : Axis) : Req := a.pt.loaded.getD Req.none

/-- A phase of the request rewritten at instant t. -/
def Axis.rewrittenPhase (a : Axis) (t : Nat) (bound : Bool) (p : Phase) : Segs :=
  let h := a.rewriteHold t bound
  let fe := a.forcedFrom a.pt.start
  let till := if a.request.mode = 0 then fe else min h.stop fe
  match (if a.request.mode = 0 then some (vecPh a.pt.fill.toNat p) else h.ph a a.request.mode.toNat p) with
  | some x => if till ≤ t then a.pt.plan[p] else spanTo a.pt.plan[p] t till a.tickEnd x
  | none => a.pt.plan[p]

/-- An axis with its request rewritten at instant t, before the new schedule. -/
def Axis.rewritten (a : Axis) (t : Nat) (bound : Bool) : Axis :=
  { a with pt := { a.pt with
    plan := Vector.ofFn (a.rewrittenPhase t bound), activeEnd := if a.request.mode = 0 then t else a.pt.activeEnd
    hold := if a.request.mode = 0 then none else some (a.rewriteHold t bound) } }

theorem State.rewritePlan_plays (s : State) (n : Ax) (bound : Bool) :
    PlaysOn n (s.modAx n (·.rewritten (32 * s.clk) bound)) (s.rewritePlan n bound) := by
  let u := s.modAx n (·.rewritten (32 * s.clk) bound)
  have e : s.rewritePlan n bound = if Vector.ofFn ((s.ax n).rewrittenPhase (32 * s.clk) bound) = (s.ax n).pt.plan then u
      else (u.schedule n (32 * s.clk) .rewrite).settleAt n (32 * s.clk) false := rfl
  rw [e]
  split
  · exact .refl n u
  · exact (u.schedule_plays n _ .rewrite).trans (State.settleAt_plays _ n _ false)

/-- In DTC mode the fill vector, from t to the forced window. -/
theorem Axis.rewrittenPhase_dtc {a : Axis} (h : a.request.mode = 0) (t : Nat) (bound : Bool) (p : Phase) :
    a.rewrittenPhase t bound p = if a.forcedFrom a.pt.start ≤ t then a.pt.plan[p]
      else spanTo a.pt.plan[p] t (a.forcedFrom a.pt.start) a.tickEnd (vecPh a.pt.fill.toNat p) := by
  simp only [Axis.rewrittenPhase, h, if_true]

/-- The bound in DUTY and SIX modes: L on every PWM phase, to the end of the carrier period or the forced window. -/
theorem Axis.rewrittenPhase_bound {a : Axis} (h : a.request.mode ≠ 0) (ho : a.pt.hold = none) {t : Nat}
    (ht : t < min (a.carrierEnd t) (a.forcedFrom a.pt.start)) (p : Phase) :
    a.rewrittenPhase t true p = if a.request.mode = 1 ∨ a.role p = 1 then
        spanTo a.pt.plan[p] t (min (a.carrierEnd t) (a.forcedFrom a.pt.start)) a.tickEnd .l
      else a.pt.plan[p] := by
  have hm : a.request.mode.toNat = 1 ↔ a.request.mode = 1 := by rw [← BitVec.toNat_inj]; rfl
  have hph : (a.rewriteHold t true).ph a a.request.mode.toNat p = if a.request.mode = 1 ∨ a.role p = 1 then some .l else none := by
    simp [Hold.ph, Axis.rewriteHold, ho, hm]
  have hn : ¬ min (a.carrierEnd t) (a.forcedFrom a.pt.start) ≤ t := Nat.not_le.2 ht
  unfold Axis.rewrittenPhase
  dsimp only
  rw [if_neg h, if_neg h, hph, show (a.rewriteHold t true).stop = a.carrierEnd t from rfl]
  by_cases hx : a.request.mode = 1 ∨ a.role p = 1
  · rw [if_pos hx, if_pos hx]; exact if_neg hn
  · rw [if_neg hx, if_neg hx]

/-! ### What a rewrite goes by -/

/-- b has the request, the plan and the settings of a that a rewrite reads. -/
structure Axis.PlannedAs (b a : Axis) : Prop where
  request : b.request = a.request
  plan : b.pt.plan = a.pt.plan
  fill : b.pt.fill = a.pt.fill
  hold : b.pt.hold = a.pt.hold
  start : b.pt.start = a.pt.start
  tickEnd : b.tickEnd = a.tickEnd
  carrierEnd : ∀ t : Nat, b.carrierEnd t = a.carrierEnd t
  forcedFrom : ∀ t : Nat, b.forcedFrom t = a.forcedFrom t
  role : ∀ p : Phase, b.role p = a.role p

/-- They follow from the parts of the pulse island and of the registers that they read. -/
theorem Axis.PlannedAs.of_parts {a b : Axis} (hpt : b.pt.loaded = a.pt.loaded ∧ b.pt.plan = a.pt.plan ∧ b.pt.fill = a.pt.fill ∧
      b.pt.hold = a.pt.hold ∧ b.pt.start = a.pt.start ∧ b.pt.carrier = a.pt.carrier ∧ b.pt.dt = a.pt.dt ∧ b.pt.mctl = a.pt.mctl ∧
      b.pt.mtab = a.pt.mtab) (hs : b.sense = a.sense)
    (hg : ∀ f ∈ [AX_TICK_PERIOD, AX_PTCFG_PWMPER, AX_SNSCFG_TSET, AX_PTMCTL_INDEX], b.get f = a.get f) : b.PlannedAs a := by
  obtain ⟨hloaded, hplan, hfill, hhold, hstart, hcarrier, hdt, hmctl, hmtab⟩ := hpt
  simp only [List.forall_mem_cons] at hg
  obtain ⟨hper, hpwm, htset, hidx, -⟩ := hg
  refine ⟨?_, hplan, hfill, hhold, hstart, ?_, fun t => ?_, fun t => ?_, fun p => ?_⟩
  · unfold Axis.request; rw [hloaded]
  · unfold Axis.tickEnd; rw [hstart, hper]
  · unfold Axis.carrierEnd; rw [hpwm, hcarrier]
  · unfold Axis.forcedFrom; rw [hper, hs, htset, hdt]
  · unfold Axis.role; rw [hidx, hmctl, hmtab]

theorem Axis.Plays.plannedAs {a b : Axis} (h : a.Plays b) : b.PlannedAs a :=
  .of_parts ⟨h.loaded, h.plan, h.fill, h.hold, h.start, h.carrier, h.dt, h.mctl, h.mtab⟩ h.sense
    (by simp [h.get, playRegs])

/-! ### The current bound (R125, R207) -/

/-- CURB set for the tick, and in AXn_TLSTAT where the tick has drained. -/
def Axis.curbed (a : Axis) : Axis :=
  { (if a.pt.drained then a.put AX_TLSTAT_CURB 1 else a) with pt := { a.pt with curb := true } }

theorem Axis.curbed_only (a : Axis) : a.curbed = { a with regs := a.curbed.regs, pt := { a.pt with curb := true } } := by
  unfold Axis.curbed; split <;> rfl

theorem Axis.curbed_get (a : Axis) {f : Fld} (hf : f.a ≠ AX_TLSTAT) : a.curbed.get f = a.get f := by
  unfold Axis.curbed
  split
  · exact Axis.put_get_reg a AX_TLSTAT_CURB f 1 hf
  · rfl

theorem Axis.curbed_tlstat {a : Axis} (h : a.pt.drained = true) : a.curbed.get AX_TLSTAT_CURB = 1 := by
  unfold Axis.curbed
  rw [if_pos h]
  exact a.put_get_same AX_TLSTAT_CURB 1 (by decide)

theorem Axis.curbed_plannedAs (a : Axis) : a.curbed.PlannedAs a :=
  .of_parts ⟨rfl, rfl, rfl, rfl, rfl, rfl, rfl, rfl, rfl⟩ (part_of_eq Axis.sense a.curbed_only rfl) (by simp [Axis.curbed_get])

theorem Axis.PlannedAs.trans {a b c : Axis} (h : c.PlannedAs b) (g : b.PlannedAs a) : c.PlannedAs a :=
  ⟨h.request.trans g.request, h.plan.trans g.plan, h.fill.trans g.fill, h.hold.trans g.hold, h.start.trans g.start,
    h.tickEnd.trans g.tickEnd, fun t => (h.carrierEnd t).trans (g.carrierEnd t), fun t => (h.forcedFrom t).trans (g.forcedFrom t),
    fun p => (h.role p).trans (g.role p)⟩

/-- The bound acts: the due edges are played, CURB is set and the request rewritten. -/
theorem State.boundActs_rewrites {s : State} {n : Ax} (h : ¬((s.ax n).request.mode = 0 ∧ (s.ax n).pt.activeEnd ≤ 32 * s.clk)) :
    ∃ b : Axis, b.PlannedAs (s.ax n) ∧ b.st = (s.ax n).st ∧ b.pt.curb = true ∧
      ((s.ax n).pt.drained = true → b.get AX_TLSTAT_CURB = 1) ∧ OthersKept s (s.boundActs n) n ∧
      (b.rewritten (32 * s.clk) true).Plays ((s.boundActs n).ax n) := by
  let u := s.playUntil n (32 * s.clk)
  let v := u.modAx n Axis.curbed
  have hu : PlaysOn n s u := s.playUntil_plays n _
  have hv : v.ax n = (u.ax n).curbed := State.modAx_ax_same ..
  have hw : PlaysOn n (v.modAx n (·.rewritten (32 * v.clk) true)) (s.boundActs n) := by
    have e : s.boundActs n = v.rewritePlan n true := if_neg h
    rw [e]; exact v.rewritePlan_plays n true
  have hax := hw.ax
  rw [State.modAx_ax_same, hv, show v.clk = s.clk from hu.clk] at hax
  refine ⟨(u.ax n).curbed, (u.ax n).curbed_plannedAs.trans hu.ax.plannedAs, ?_, rfl, fun hd => ?_, fun m hm => ?_, hax⟩
  · exact (part_of_eq Axis.st (u.ax n).curbed_only rfl).trans hu.ax.st
  · exact Axis.curbed_tlstat (hu.ax.drained.trans hd)
  · rw [hw.others m hm, State.modAx_ax_ne _ hm, State.modAx_ax_ne _ hm, hu.others m hm]

/-- The bound acts in DTC mode while the active segment lasts. -/
theorem State.boundActs_dtc {s : State} {n : Ax} (h : (s.ax n).request.mode = 0) (hl : 32 * s.clk < (s.ax n).pt.activeEnd) :
    let a := s.ax n
    let t := s.boundActs n
    ((t.ax n).pt.curb = true ∧ (a.pt.drained = true → (t.ax n).get AX_TLSTAT_CURB = 1) ∧ OthersKept s t n ∧ (t.ax n).st = a.st) ∧
    (t.ax n).pt.activeEnd = 32 * s.clk ∧ (t.ax n).pt.hold = none ∧
    ∀ x : Phase, (t.ax n).pt.plan[x] = if a.forcedFrom a.pt.start ≤ 32 * s.clk then a.pt.plan[x]
      else spanTo a.pt.plan[x] (32 * s.clk) (a.forcedFrom a.pt.start) a.tickEnd (vecPh a.pt.fill.toNat x) := by
  obtain ⟨b, hb, hst, hcurb, htl, hothers, hp⟩ := State.boundActs_rewrites (s := s) (n := n) (fun hc => absurd hc.2 (Nat.not_le.2 hl))
  have hm : b.request.mode = 0 := by rw [hb.request]; exact h
  refine ⟨⟨hp.curb.trans hcurb, fun hd => (hp.get (by decide)).trans (htl hd), hothers, hp.st.trans hst⟩, ?_, ?_, fun x => ?_⟩
  · exact hp.activeEnd.trans (if_pos hm)
  · exact hp.hold.trans (if_pos hm)
  · rw [hp.plan]
    refine (Vector.getElem_ofFn x.isLt).trans ?_
    rw [Axis.rewrittenPhase_dtc hm, hb.plan, hb.fill, hb.start, hb.tickEnd, hb.forcedFrom]

/-- The bound acts in DUTY and SIX modes. -/
theorem State.boundActs_hold {s : State} {n : Ax} (h : (s.ax n).request.mode ≠ 0) :
    let a := s.ax n
    let t := s.boundActs n
    ((t.ax n).pt.curb = true ∧ (a.pt.drained = true → (t.ax n).get AX_TLSTAT_CURB = 1) ∧ OthersKept s t n ∧ (t.ax n).st = a.st) ∧
    (t.ax n).pt.hold.map (fun h => (h.bound, h.stop)) = some (true, a.carrierEnd (32 * s.clk)) ∧
    (a.pt.hold = none → 32 * s.clk < min (a.carrierEnd (32 * s.clk)) (a.forcedFrom a.pt.start) → ∀ x : Phase, (t.ax n).pt.plan[x] =
      if a.request.mode = 1 ∨ a.role x = 1 then
        spanTo a.pt.plan[x] (32 * s.clk) (min (a.carrierEnd (32 * s.clk)) (a.forcedFrom a.pt.start)) a.tickEnd .l
      else a.pt.plan[x]) := by
  obtain ⟨b, hb, hst, hcurb, htl, hothers, hp⟩ := State.boundActs_rewrites (s := s) (n := n) (fun hc => h hc.1)
  have hm : b.request.mode ≠ 0 := by rw [hb.request]; exact h
  refine ⟨⟨hp.curb.trans hcurb, fun hd => (hp.get (by decide)).trans (htl hd), hothers, hp.st.trans hst⟩, ?_, fun ho ht x => ?_⟩
  · have e : ((s.boundActs n).ax n).pt.hold = some (b.rewriteHold (32 * s.clk) true) := hp.hold.trans (if_neg hm)
    rw [e, ← hb.carrierEnd]
    rfl
  · rw [hp.plan]
    refine (Vector.getElem_ofFn x.isLt).trans ?_
    rw [← hb.carrierEnd, ← hb.forcedFrom, ← hb.start] at ht
    rw [Axis.rewrittenPhase_bound hm (hb.hold.trans ho) ht, hb.plan, hb.start, hb.tickEnd, hb.forcedFrom, hb.carrierEnd, hb.request,
      hb.role]
end Sys2Proof.Machine
end

section
namespace Sys2Proof.Machine
open Sys2Proof

/-! ### The level of the bound (R124, R125) -/

/-- A word stored leaves the fields of other registers alone. -/
theorem Axis.setReg_get (a : Axis) {o : Nat} (v : W64) {f : Fld} (h : f.a ≠ o) : (a.setReg o v).get f = a.get f := by
  unfold Axis.get; rw [Axis.setReg_reg_ne _ h]

theorem Axis.reg_congr {a b : Axis} (h : b.regs = a.regs) (o : Nat) : b.reg o = a.reg o := by unfold Axis.reg; rw [h]

theorem Axis.get_congr {a b : Axis} (h : b.regs = a.regs) (f : Fld) : b.get f = a.get f := by unfold Axis.get; rw [Axis.reg_congr h]

/-- TLSTAT as a boundary captures it. -/
def Axis.tlstatCaptured (a : Axis) (kbus kmin : Nat) (neg : Bool) : Axis :=
  ((a.put AX_TLSTAT_KBUS kbus).put AX_TLSTAT_KMIN kmin).put AX_TLSTAT_NEGINH (if neg then 1 else 0)

theorem Axis.tlstatCaptured_get (a : Axis) (kbus kmin : Nat) (neg : Bool) :
    (a.tlstatCaptured kbus kmin neg).get AX_TLSTAT_KMIN = kmin % 2 ^ 16 ∧
    (a.tlstatCaptured kbus kmin neg).get AX_TLSTAT_NEGINH = (if neg then 1 else 0) ∧
    ∀ f : Fld, f.a ≠ AX_TLSTAT → (a.tlstatCaptured kbus kmin neg).get f = a.get f := by
  unfold Axis.tlstatCaptured
  refine ⟨?_, ?_, fun f hf => ?_⟩
  · rw [Axis.put_get_fld _ AX_TLSTAT_NEGINH AX_TLSTAT_KMIN _ rfl (by decide) (by decide), Axis.put_get_same _ _ _ (by decide)]
  · rw [Axis.put_get_same _ _ _ (by decide)]
    cases neg <;> rfl
  · rw [Axis.put_get_reg _ _ _ _ hf, Axis.put_get_reg _ _ _ _ hf, Axis.put_get_reg _ _ _ _ hf]

theorem State.captureTl_parts (s : State) (n : Ax) : let t := s.captureTl n
    let a := s.ax n
    let kmin := min (a.get AX_TLSTAT_KTH) (s.dget (BUS_STAT_KBUS (s.busOf n).val))
    let neg := s.ov2Behaviour (s.busOf n)
    OnlyAxes s t ∧ OthersKept s t n ∧ (t.ax n).get AX_TLSTAT_KMIN = kmin ∧
    (t.ax n).get AX_TLSTAT_NEGINH = (if neg = true then 1 else 0) ∧
    (t.ax n).pt.bound = (a.get AX_TQLIM_ILIMP * kmin, if neg = true then 0 else a.get AX_TQLIM_ILIMN * kmin) := by
  intro t a kmin neg
  have hk : kmin < 2 ^ 16 := (min_le_left _ _).trans_lt (Fld.get_lt AX_TLSTAT_KTH _)
  let b := a.tlstatCaptured (s.dget (BUS_STAT_KBUS (s.busOf n).val)) kmin neg
  obtain ⟨hmin, hneg, hrest⟩ := a.tlstatCaptured_get (s.dget (BUS_STAT_KBUS (s.busOf n).val)) kmin neg
  obtain ⟨v, ht⟩ : ∃ v : W64, (t.ax n).regs = (b.setReg AX_TL v).regs ∧ (t.ax n).pt.bound =
      ((b.setReg AX_TL v).get AX_TQLIM_ILIMP * kmin, if neg then 0 else (b.setReg AX_TL v).get AX_TQLIM_ILIMN * kmin) := by
    simp only [t, State.captureTl, State.modAx_ax_same]
    exact ⟨_, rfl, rfl⟩
  obtain ⟨hregs, hbound⟩ := ht
  have hget (f : Fld) (hf : f.a ≠ AX_TL) : (t.ax n).get f = b.get f := by
    rw [← b.setReg_get v hf]; unfold Axis.get Axis.reg; rw [hregs]
  refine ⟨rfl, fun m hm => State.modAx_ax_ne _ hm _, ?_, ?_, ?_⟩
  · rw [hget _ (by decide)]
    exact hmin.trans (Nat.mod_eq_of_lt hk)
  · rw [hget _ (by decide)]
    exact hneg
  · rw [hbound, b.setReg_get v (by decide), b.setReg_get v (by decide), hrest _ (by decide), hrest _ (by decide)]

/-! ### The mask index (R209) -/

/-- Where a STEP write takes the mask index, unless it follows the commutation index (SRC = 1). -/
def Axis.steppedIndex (a : Axis) (m : W64) : Nat :=
  let i := a.get AX_PTMCTL_INDEX
  if AX_PTMCTL_SRC.get m ≠ 2 then i else if AX_PTMCTL_REV.get m = 1 then (i + 5) % 6 else (i + 1) % 6

theorem Axis.steppedIndex_lt (a : Axis) (m : W64) : a.steppedIndex m < 2 ^ 3 := by
  have h : a.get AX_PTMCTL_INDEX < 2 ^ 3 := Fld.get_lt AX_PTMCTL_INDEX _
  unfold Axis.steppedIndex
  dsimp only
  split_ifs <;> omega

/-- A waiting STEP write is taken. -/
theorem State.maskIndex_eq {s : State} {n : Ax} (hs : AX_PTMCTL_SRC.get (s.ax n).pt.mctl ≠ 1) (hr : (s.ax n).pt.stepReq = true) :
    s.maskIndex n = s.modAx n (fun a => { a.put AX_PTMCTL_INDEX ((s.ax n).steppedIndex (s.ax n).pt.mctl) with
      pt := { a.pt with stepReq := false } }) := by
  have hlt : AX_PTMCTL_SRC.get (s.ax n).pt.mctl < 4 := Fld.get_lt AX_PTMCTL_SRC _
  unfold State.maskIndex Axis.steppedIndex
  dsimp only
  generalize AX_PTMCTL_SRC.get (s.ax n).pt.mctl = src at *
  obtain rfl | rfl | rfl : src = 0 ∨ src = 2 ∨ src = 3 := by omega
  · rfl
  · simp only [hr, ne_eq, not_true, if_true, if_false]
  · rfl

/-- The boundary takes up AXn_PTMCTL, steps the index and settles. -/
theorem execPtmctlStep_steps {s : State} {n : Ax} (hb : s.onBoundary n 0 = true) (hr : (s.ax n).pt.stepReq = true)
    (hf : (s.ax n).get AX_PTSTAT_FROZEN = 0) (hs : AX_PTMCTL_SRC.get ((s.ax n).reg AX_PTMCTL) ≠ 1) :
    ∃ t, exec (.ptmctlStep n) s = .next t ∧ (t.ax n).pt.stepReq = false ∧ (t.ax n).pt.mctl = (s.ax n).reg AX_PTMCTL ∧
      (t.ax n).st = (s.ax n).st ∧ OthersKept s t n ∧
      (t.ax n).get AX_PTMCTL_INDEX = (s.ax n).steppedIndex ((s.ax n).reg AX_PTMCTL) := by
  let a := s.ax n
  let u := (s.inForce n).maskIndex n
  have hi : (s.inForce n).ax n = { a with pt := ((s.inForce n).ax n).pt } ∧ ((s.inForce n).ax n).pt.mctl = a.reg AX_PTMCTL ∧
      ((s.inForce n).ax n).pt.stepReq = a.pt.stepReq := by
    simp only [State.inForce, State.modAx_ax_same]
    exact ⟨rfl, rfl, rfl⟩
  obtain ⟨hio, him, hir⟩ := hi
  have hue := State.maskIndex_eq (s := s.inForce n) (n := n) (by rw [him]; exact hs) (hir.trans hr)
  have hstep : ((s.inForce n).ax n).steppedIndex ((s.inForce n).ax n).pt.mctl = a.steppedIndex (a.reg AX_PTMCTL) := by
    rw [him, hio]; rfl
  rw [hstep] at hue
  have hu : u.ax n = { a.put AX_PTMCTL_INDEX (a.steppedIndex (a.reg AX_PTMCTL)) with pt := (u.ax n).pt } ∧
      (u.ax n).pt.mctl = a.reg AX_PTMCTL ∧ (u.ax n).pt.stepReq = false := by
    simp only [u, hue, State.modAx_ax_same]
    exact ⟨by rw [hio]; rfl, him, trivial⟩
  obtain ⟨huo, hum, hur⟩ := hu
  have hp : PlaysOn n u (u.settle n) := u.settleAt_plays n _ _
  refine ⟨u.settle n, if_pos ⟨hb, hr, hf⟩, hp.ax.stepReq.trans hur, hp.ax.mctl.trans hum, ?_, fun m hm => ?_, ?_⟩
  · rw [hp.ax.st, huo]; rfl
  · rw [hp.others m hm]
    exact (congrArg (State.ax · m) hue).trans ((State.modAx_ax_ne _ hm _).trans (State.modAx_ax_ne _ hm _))
  · rw [hp.ax.get (by decide), huo]
    exact (a.put_get_same AX_PTMCTL_INDEX _ (by decide)).trans (Nat.mod_eq_of_lt (a.steppedIndex_lt _))

/-! ### A compare (R210, R211) -/

/-- A set of phases built by a fold over all phases, as a number, holds a phase exactly when its condition holds. -/
theorem phaseSet_testBit (c : Phase → Bool) (x : Phase) :
    (allPh.foldl (fun m p => if c p then m + 2 ^ p.val else m) 0).testBit x.val = c x := by
  have h : ∀ b : Phase → Bool, ∀ y : Phase, (allPh.foldl (fun m p => if b p then m + 2 ^ p.val else m) 0).testBit y.val = b y := by
    decide
  exact h c x

theorem phaseSet_lt (c : Phase → Bool) : allPh.foldl (fun m p => if c p then m + 2 ^ p.val else m) 0 < 2 ^ 3 := by
  have h : ∀ b : Phase → Bool, allPh.foldl (fun m p => if b p then m + 2 ^ p.val else m) 0 < 2 ^ 3 := by decide
  exact h c

/-- The word of AXn_PTSNAP. -/
def snapWord (iu iv iw ok k sh : Nat) : W64 :=
  AX_PTSNAP_SHARED.put (AX_PTSNAP_CMP.put (AX_PTSNAP_VALID.put
    (AX_PTSNAP_IW.put (AX_PTSNAP_IV.put (AX_PTSNAP_IU.put 0 iu) iv) iw) ok) k) sh

theorem snapWord_get (iu iv iw ok k sh : Nat) : let w := snapWord iu iv iw ok k sh
    AX_PTSNAP_CMP.get w = k % 4 ∧ AX_PTSNAP_IU.get w = iu % 65536 ∧ AX_PTSNAP_IV.get w = iv % 65536 ∧ AX_PTSNAP_IW.get w = iw % 65536 ∧
    AX_PTSNAP_VALID.get w = ok % 8 ∧ AX_PTSNAP_SHARED.get w = sh % 2 := by
  intro w
  refine ⟨?_, ?_, ?_, ?_, ?_, ?_⟩ <;>
    simp (disch := decide) only [w, snapWord, Fld.get_put_ne, Fld.get_put_same] <;> rfl

/-- The offset-corrected code of logical phase x (R211). -/
def Axis.snapCode (a : Axis) (codes : BitVec 14 × BitVec 14 × BitVec 14) (x : Phase) : Nat :=
  let q := phmap (a.get AX_PTMAP_PHMAP) x
  ((adcOf codes q - a.ofs q) % 65536).toNat

theorem Axis.snapCode_lt (a : Axis) (codes : BitVec 14 × BitVec 14 × BitVec 14) (x : Phase) : a.snapCode codes x < 65536 := by
  unfold Axis.snapCode; dsimp only; omega

/-- The physical phases that a snapshot of the present base tick shows as valid. -/
def State.snapValid (s : State) (n : Ax) : BitVec 3 :=
  let a := s.ax n
  if s.clk + 128 ≤ a.pt.start + max 1 (a.get AX_TICK_PERIOD) then
    validAt (a.get AX_SNSCFG_MODE == 1) (a.get AX_SNSCFG_TSET) (s.toPins n).1 (s.toPins n).2 a.pt.emitted s.clk
  else 0

/-- Whether the present base tick lies within 250 ns of an aperture of the interval. -/
def State.snapShared (s : State) (n : Ax) : Bool :=
  let p := (s.ax n).pt
  (List.range p.apertures.length).any (fun i => decide (s.clk ≤ p.t1 - 100 * i + 100 ∧ p.t1 - 100 * i ≤ s.clk + 100))

/-- The snapshot that compare k takes. -/
def State.snapshot (s : State) (n : Ax) (k : Chan) (codes : BitVec 14 × BitVec 14 × BitVec 14) : W64 :=
  let a := s.ax n
  snapWord (a.snapCode codes 0) (a.snapCode codes 1) (a.snapCode codes 2)
    (allPh.foldl (fun m x => if (s.snapValid n).getLsbD (phmap (a.get AX_PTMAP_PHMAP) x).val then m + 2 ^ x.val else m) 0) k.val
    (if s.snapShared n then 1 else 0)

theorem State.snapshot_get (s : State) (n : Ax) (k : Chan) (codes : BitVec 14 × BitVec 14 × BitVec 14) :
    let w := s.snapshot n k codes
    let a := s.ax n
    AX_PTSNAP_CMP.get w = k.val ∧ AX_PTSNAP_IU.get w = a.snapCode codes 0 ∧ AX_PTSNAP_IV.get w = a.snapCode codes 1 ∧
    AX_PTSNAP_IW.get w = a.snapCode codes 2 ∧
    (∀ x : Phase, (AX_PTSNAP_VALID.get w).testBit x.val = (s.snapValid n).getLsbD (phmap (a.get AX_PTMAP_PHMAP) x).val) ∧
    AX_PTSNAP_SHARED.get w = (if s.snapShared n then 1 else 0) := by
  intro w a
  obtain ⟨hk, hu, hv, hw, hok, hsh⟩ := snapWord_get (a.snapCode codes 0) (a.snapCode codes 1) (a.snapCode codes 2)
    (allPh.foldl (fun m x => if (s.snapValid n).getLsbD (phmap (a.get AX_PTMAP_PHMAP) x).val then m + 2 ^ x.val else m) 0) k.val
    (if s.snapShared n then 1 else 0)
  refine ⟨hk.trans (Nat.mod_eq_of_lt k.isLt), hu.trans (Nat.mod_eq_of_lt (a.snapCode_lt codes 0)),
    hv.trans (Nat.mod_eq_of_lt (a.snapCode_lt codes 1)), hw.trans (Nat.mod_eq_of_lt (a.snapCode_lt codes 2)), fun x => ?_, ?_⟩
  · refine (congrArg (Nat.testBit · x.val) (hok.trans (Nat.mod_eq_of_lt (phaseSet_lt _)))).trans ?_
    exact phaseSet_testBit (fun x => (s.snapValid n).getLsbD (phmap (a.get AX_PTMAP_PHMAP) x).val) x
  · exact hsh.trans (by split <;> rfl)

/-- The phases that may show as valid: none within the last 320 ns of the tick. -/
theorem State.snapValid_getLsbD (s : State) (n : Ax) (i : Nat) : (s.snapValid n).getLsbD i =
    (decide (s.clk + 128 ≤ (s.ax n).pt.start + max 1 ((s.ax n).get AX_TICK_PERIOD)) &&
      (validAt ((s.ax n).get AX_SNSCFG_MODE == 1) ((s.ax n).get AX_SNSCFG_TSET) (s.toPins n).1 (s.toPins n).2 (s.ax n).pt.emitted
        s.clk).getLsbD i) := by
  unfold State.snapValid
  dsimp only
  split
  · next h => rw [decide_eq_true h, Bool.true_and]
  · next h => rw [decide_eq_false h, Bool.false_and]; exact BitVec.getLsbD_zero

/-- The pins of TRGO that compare k of an axis drives from base tick clk on. -/
def Axis.driveTrgo (a : Axis) (k : Chan) (clk : Nat) : Axis :=
  let pin : Fin 4 := ⟨(AX_PTCMP_PIN k.val).get a.pt.cmp[k] % 4, by omega⟩
  { a with pt := { a.pt with
    trgo := a.pt.trgo.set pin.val (max a.pt.trgo[pin] (clk + (AX_PTCMP_WIDTH k.val).get a.pt.cmp[k])) pin.isLt } }

/-- TRGO has no part in what the front end goes by. -/
theorem State.toPins_driveTrgo (s : State) (n : Ax) (k : Chan) : (s.modAx n (·.driveTrgo k s.clk)).toPins n = s.toPins n := by
  have hp : (s.modAx n (·.driveTrgo k s.clk)).protective n = s.protective n := by
    unfold State.protective State.heldOff State.oasisOut State.heldOff State.oasisOpt
    simp only [State.modAx_ax_same]
    rfl
  unfold State.toPins
  rw [hp]
  simp only [State.modAx_ax_same]
  rfl

theorem State.snapshot_driveTrgo (s : State) (n : Ax) (k : Chan) (codes : BitVec 14 × BitVec 14 × BitVec 14) :
    (s.modAx n (·.driveTrgo k s.clk)).snapshot n k codes = s.snapshot n k codes := by
  unfold State.snapshot State.snapValid State.snapShared
  rw [s.toPins_driveTrgo n k]
  simp only [State.modAx_ax_same]
  rfl

/-- A change of an axis is told by what it makes of the axis as it is. -/
theorem State.modAx_congr {s : State} {n : Ax} {f g : Axis → Axis} (h : f (s.ax n) = g (s.ax n)) : s.modAx n f = s.modAx n g := by
  unfold State.modAx
  rw [show f s.axes[n] = g s.axes[n] from h]

section
variable {s : State} {n : Ax} {k : Chan} (codes : BitVec 14 × BitVec 14 × BitVec 14)

/-- What a compare answers at its offset, by TGT. -/
theorem execCompare_due (hb : s.onBoundary n ((AX_PTCMP_OFS k.val).get (s.ax n).pt.cmp[k]) = true)
    (hf : (s.ax n).get AX_PTSTAT_FROZEN = 0) (hi : s.ptIsl n = islRun) :
    let tgt := (AX_PTCMP_TGT k.val).get (s.ax n).pt.cmp[k]
    (tgt = 1 → exec (.compare n k codes) s = .next (s.modAx n (·.driveTrgo k s.clk))) ∧
    (tgt = 2 → exec (.compare n k codes) s = .next (s.modAx n (·.setReg AX_PTSNAP (s.snapshot n k codes)))) ∧
    (tgt = 3 → exec (.compare n k codes) s =
      .next (s.modAx n (fun a => (a.driveTrgo k s.clk).setReg AX_PTSNAP (s.snapshot n k codes)))) := by
  intro tgt
  have hx : exec (.compare n k codes) s = execCompare n k codes s := rfl
  have h0 (h : tgt ≠ 0) : s.onBoundary n ((AX_PTCMP_OFS k.val).get (s.ax n).pt.cmp[k]) = true ∧ (s.ax n).get AX_PTSTAT_FROZEN = 0 ∧
    s.ptIsl n = islRun ∧ tgt ≠ 0 := ⟨hb, hf, hi, h⟩
  have htgt : (AX_PTCMP_TGT k.val).get (s.ax n).pt.cmp[k] = tgt := rfl
  rw [hx]
  unfold execCompare
  dsimp only
  rw [htgt]
  clear_value tgt
  refine ⟨fun h => ?_, fun h => ?_, fun h => ?_⟩ <;> subst h <;> rw [if_pos (h0 (by decide))]
  · rw [if_pos rfl, if_neg (by decide)]
    exact congrArg Host.Outcome.next (State.modAx_congr rfl)
  · rw [if_pos rfl, if_neg (show ¬ 2 % 2 = 1 by decide)]
    exact congrArg Host.Outcome.next (State.modAx_congr rfl)
  · rw [if_pos rfl, if_pos rfl, State.modAx_congr (s := s) (g := (·.driveTrgo k s.clk)) ?_]
    · rw [← State.modAx_modAx s n (·.driveTrgo k s.clk) (·.setReg AX_PTSNAP (s.snapshot n k codes)), ← s.snapshot_driveTrgo n k codes]
      exact congrArg Host.Outcome.next (State.modAx_congr rfl)
    · rfl
end

/-- A snapshot written to the registers of axis n. -/
theorem State.snapshot_written (s : State) (n : Ax) (k : Chan) (codes : BitVec 14 × BitVec 14 × BitVec 14) {b : Axis}
    (hb : b.regs = (s.ax n).regs) :
    let t := b.setReg AX_PTSNAP (s.snapshot n k codes)
    let a := s.ax n
    (∀ o : Nat, o ≠ AX_PTSNAP → t.reg o = a.reg o) ∧
    t.get AX_PTSNAP_CMP = k.val ∧ t.get AX_PTSNAP_IU = a.snapCode codes 0 ∧ t.get AX_PTSNAP_IV = a.snapCode codes 1 ∧
    t.get AX_PTSNAP_IW = a.snapCode codes 2 ∧
    (∀ x : Phase, (t.get AX_PTSNAP_VALID).testBit x.val = (s.snapValid n).getLsbD (phmap (a.get AX_PTMAP_PHMAP) x).val) ∧
    t.get AX_PTSNAP_SHARED = (if s.snapShared n then 1 else 0) := by
  intro t a
  have hget (f : Fld) (hf : f.a = AX_PTSNAP) : t.get f = f.get (s.snapshot n k codes) := by
    unfold Axis.get; rw [hf, Axis.setReg_reg_same]
  refine ⟨fun o ho => (b.setReg_reg_ne ho _).trans (Axis.reg_congr hb o), ?_⟩
  rw [hget _ rfl, hget _ rfl, hget _ rfl, hget _ rfl, hget _ rfl, hget _ rfl]
  exact s.snapshot_get n k codes

/-! ### The switching-rate window (R212) -/

/-- The rate over a window of 1 ms, Q2.30: the mean of the three phases over the target; 1.0 for a target of 0. -/
def Axis.switchingRatio (a : Axis) : Nat :=
  let t := AX_PTSW_TARGET.get a.pt.ptsw
  if t = 0 then 2 ^ 30 else min (2 ^ 31 - 1) (roundDiv (a.pt.highOns * 1000 * 2 ^ 30 : Nat) (3 * t)).toNat

theorem Axis.switchingRatio_lt (a : Axis) : a.switchingRatio < 2 ^ AX_PTSW_RATIO.w := by
  unfold Axis.switchingRatio
  dsimp only
  split
  · decide
  · exact (min_le_left _ _).trans_lt (by decide)

/-- The axis with its window closed on a ratio. -/
def Axis.windowClosed (a : Axis) (ratio clk : Nat) : Axis :=
  { a.put AX_PTSW_RATIO ratio with pt := { a.pt with highOns := 0, window := clk / 400000 } }

theorem execSwitchingRateWindow_closes {s : State} {n : Ax} (h : s.clk % 400000 = 0 ∧ (s.ax n).pt.window ≠ s.clk / 400000) :
    exec (.switchingRateWindow n) s = .next (s.modAx n (·.windowClosed (s.ax n).switchingRatio s.clk)) := if_pos h

theorem Axis.windowClosed_ratio (a : Axis) (clk : Nat) :
    (a.windowClosed a.switchingRatio clk).get AX_PTSW_RATIO = a.switchingRatio := by
  have h (r : Nat) : (a.windowClosed r clk).regs = (a.put AX_PTSW_RATIO r).regs := rfl
  rw [Axis.get_congr (h _), Axis.put_get_same _ _ _ (by decide), Nat.mod_eq_of_lt a.switchingRatio_lt]

/-- Settles O26: the bound by its rewrite of the request, the other rows by what each writes. -/
theorem pulseEvents : Obligations.PulseEvents := by
  unfold Obligations.PulseEvents
  intro n p k uv codes s a r t0 stop m w tgt pin live acts bounded due driven q code pins ok ratio
  have htgt : tgt < 4 := Fld.get_lt (AX_PTCMP_TGT k.val) _
  have hacts : acts → exec (.currentBound n p uv) s = .next (s.boundActs n) :=
    fun ⟨⟨hf, hi⟩, hedge, habove⟩ => if_pos ⟨hf, hi, hedge, habove⟩
  have hrests : ¬acts → exec (.currentBound n p uv) s = .next s :=
    fun hn => if_neg fun ⟨hf, hi, hedge, habove⟩ => hn ⟨⟨hf, hi⟩, hedge, habove⟩
  refine ⟨s.captureTl_parts n, rfl, fun ha hm hl => ?_, fun ha hm => ?_, fun h => ?_, fun hb hr hf hs => ?_, fun h => ?_,
    fun ⟨⟨hf, hi⟩, hb⟩ ht => ?_, fun ⟨⟨hf, hi⟩, hb⟩ ht => ?_, fun h => ?_, fun hc hw => ?_, fun h => ?_⟩
  · exact runs_of_exec (hacts ha) (State.boundActs_dtc hm hl)
  · exact runs_of_exec (hacts ha) (State.boundActs_hold hm)
  · by_cases ha : acts
    · have hfill := h.resolve_left (not_not_intro ha)
      exact runs_of_exec ((hacts ha).trans (congrArg _ (if_pos hfill))) rfl
    · exact runs_of_exec (hrests ha) rfl
  · exact execPtmctlStep_steps hb hr hf hs
  · refine runs_of_exec (if_neg fun ⟨h1, h2, h3⟩ => ?_) rfl
    rcases h with h | h | h
    · exact absurd (h.symm.trans h1) (by decide)
    · exact absurd (h.symm.trans h2) (by decide)
    · exact h h3
  · obtain ⟨h1, -, -⟩ := execCompare_due codes hb hf hi
    refine runs_of_exec (h1 ht) ⟨⟨rfl, fun m hm => State.modAx_ax_ne s hm _, ?_⟩, ?_⟩
    · rw [State.modAx_ax_same, ht]; rfl
    · rw [State.modAx_ax_same]; rfl
  · obtain ⟨-, h2, h3⟩ := execCompare_due codes hb hf hi
    have hsnap {b : Axis} (hb : b.regs = a.regs) := s.snapshot_written n k codes hb
    simp only [State.snapValid_getLsbD] at hsnap
    obtain h | h : tgt = 2 ∨ tgt = 3 := by omega
    · refine runs_of_exec (h2 h) ⟨⟨rfl, fun m hm => State.modAx_ax_ne s hm _, ?_⟩, ?_⟩
      · rw [State.modAx_ax_same, h]; rfl
      · rw [State.modAx_ax_same]; exact hsnap rfl
    · refine runs_of_exec (h3 h) ⟨⟨rfl, fun m hm => State.modAx_ax_ne s hm _, ?_⟩, ?_⟩
      · rw [State.modAx_ax_same, h]; rfl
      · rw [State.modAx_ax_same]; exact hsnap rfl
  · refine runs_of_exec (if_neg fun ⟨h1, h2, h3, h4⟩ => ?_) rfl
    rcases h with h | h
    · exact h ⟨⟨h2, h3⟩, h1⟩
    · exact h4 h
  · refine runs_of_exec (execSwitchingRateWindow_closes ⟨hc, hw⟩) ⟨rfl, fun m hm => State.modAx_ax_ne s hm _, ?_⟩
    rw [State.modAx_ax_same]
    exact ⟨rfl, rfl, a.windowClosed_ratio s.clk⟩
  · exact runs_of_exec (if_neg fun ⟨h1, h2⟩ => h.elim (· h1) (h2 ·)) rfl
end Sys2Proof.Machine
end
